-- ==== Sys2Proof/Word.lean ====
section
/-! DEFINITION. The word types of the controller's ports and registers. -/
namespace Sys2Proof

/-- One byte of a frame or of a journal record. -/
abbrev Byte := BitVec 8

/-- A 16-bit field, for example a station sequence (R152). -/
abbrev Word16 := BitVec 16

/-- A 32-bit field, for example a card serial (R1) or a journal sequence (R171). -/
abbrev Word32 := BitVec 32

end Sys2Proof
end

