-- ==== Sys2Proof/Syntax.lean ====
section
/-! DEFINITION. The commands of the controller: one constructor per row of spec/opcode_table.json.

A service-link request carries its tag and the bytes of its fields (R188), a till frame its sequence (the tag byte) and its
body bytes (chapter 5.1), a node or station frame its port and its body bytes (R134, R148). -/
namespace Sys2Proof

/-- A port with a receiver and a transmitter (R184-R187). -/
inductive Port where
  | service
  | till
  | segment (i : Fin 8)
  | station (g : Fin 4)
deriving DecidableEq, Repr

/-- Why a frame is discarded: by the envelope (R185), or by the port's owner as unsuited (R136, R150). -/
inductive Discard where
  /-- The length field lies outside 2-1,024. -/
  | badLength (length : Word16)
  /-- A gap between two bytes exceeded 10 ms. -/
  | gap
  /-- The CRC carried differs from the CRC computed; the whole frame from its start byte. -/
  | badCrc (frame : List Byte)
  /-- The frame is received, and its kind is none that the port's owner knows. -/
  | unsuited (kind : Byte)
deriving DecidableEq, Repr

/-- The commands. -/
inductive Instr where
  -- power and framing (chapter 10)
  | powerOn
  | restart (tag : Byte) (body : List Byte)
  | discardedFrame (port : Port) (why : Discard)
  | invalid (kind tag : Byte) (body : List Byte)
  -- cards, persons and the purge (chapter 1)
  | issueCard (tag : Byte) (body : List Byte)
  | setCardState (tag : Byte) (body : List Byte)
  | queryCard (tag : Byte) (body : List Byte)
  | addPerson (tag : Byte) (body : List Byte)
  | purgeStart (tag : Byte) (body : List Byte)
  | purgeAbort (tag : Byte) (body : List Byte)
  | queryPurge (tag : Byte) (body : List Byte)
  | purgeCardsStep
  | shiftStep
  | purgePersonsStep
  | purgeFoliosStep
  -- boundaries and the clock (chapter 2)
  | tick
  | zoneShiftTaken
  | dayClose
  | holdExpiry
  | allAboardExpiry
  | walkStep
  | setTime (tag : Byte) (body : List Byte)
  | trim (tag : Byte) (body : List Byte)
  | zoneShift (tag : Byte) (body : List Byte)
  | cancelZoneShift (tag : Byte) (body : List Byte)
  | setDayCloseHour (tag : Byte) (body : List Byte)
  | queryTime (tag : Byte) (body : List Byte)
  | queryDayTotal (tag : Byte) (body : List Byte)
  -- folios (chapter 4)
  | openFolio (tag : Byte) (body : List Byte)
  | setLimit (tag : Byte) (body : List Byte)
  | postCredit (tag : Byte) (body : List Byte)
  | freeze (tag : Byte) (body : List Byte)
  | thaw (tag : Byte) (body : List Byte)
  | closeFolio (tag : Byte) (body : List Byte)
  | reopen (tag : Byte) (body : List Byte)
  | queryFolio (tag : Byte) (body : List Byte)
  | queryFolioSplit (tag : Byte) (body : List Byte)
  | clearFlags (tag : Byte) (body : List Byte)
  | setFolioPolicy (tag : Byte) (body : List Byte)
  | queryFolioPolicy (tag : Byte) (body : List Byte)
  | scanFolios (tag : Byte) (body : List Byte)
  -- tills and venues (chapter 5)
  | setTill (tag : Byte) (body : List Byte)
  | setVenue (tag : Byte) (body : List Byte)
  | stageVenuePricing (tag : Byte) (body : List Byte)
  | stagePortRate (tag : Byte) (body : List Byte)
  | queryVenue (tag : Byte) (body : List Byte)
  | queryPortRate (tag : Byte) (body : List Byte)
  | queryTill (tag : Byte) (body : List Byte)
  | setTillPolicy (tag : Byte) (body : List Byte)
  | charge (sequence : Byte) (body : List Byte)
  | openTab (sequence : Byte) (body : List Byte)
  | closeTab (sequence : Byte) (body : List Byte)
  | void (sequence : Byte) (body : List Byte)
  | malformed (kind sequence : Byte) (body : List Byte)
  | chargeSettlement (till : Fin 128)
  | openTabSettlement (till : Fin 128)
  | closeTabSettlement (till : Fin 128)
  | voidSettlement (till : Fin 128)
  -- cabins (chapter 6)
  | addCabin (tag : Byte) (body : List Byte)
  | removeCabin (tag : Byte) (body : List Byte)
  | bind (tag : Byte) (body : List Byte)
  | unbind (tag : Byte) (body : List Byte)
  | setCabinState (tag : Byte) (body : List Byte)
  | setAccessPolicy (tag : Byte) (body : List Byte)
  | queryAccessPolicy (tag : Byte) (body : List Byte)
  | queryCabin (tag : Byte) (body : List Byte)
  -- lock segments (chapter 7)
  | setPollWindow (tag : Byte) (body : List Byte)
  | querySegment (tag : Byte) (body : List Byte)
  | quiet (segment : Fin 8) (body : List Byte)
  | card (segment : Fin 8) (body : List Byte)
  | entry (segment : Fin 8) (body : List Byte)
  | restarted (segment : Fin 8) (body : List Byte)
  | miss (segment : Fin 8)
  | cycleWait (segment : Fin 8)
  | entryReport
  -- gangways and presence (chapter 8)
  | requestPulse (station : Fin 4) (lowMs : Nat)
  | restartPulse (station : Fin 4) (lowMs : Nat)
  | detach (station : Fin 4)
  | attach (station : Fin 4)
  | retryFetch (station : Fin 4)
  | passages (station : Fin 4) (body : List Byte)
  | fetchFailure (station : Fin 4)
  | judgingAPassage (station : Fin 4)
  | setStation (tag : Byte) (body : List Byte)
  | queryStation (tag : Byte) (body : List Byte)
  | setPerson (tag : Byte) (body : List Byte)
  | setPresence (tag : Byte) (body : List Byte)
  | queryPerson (tag : Byte) (body : List Byte)
  | queryCounts (tag : Byte) (body : List Byte)
  | setAllAboard (tag : Byte) (body : List Byte)
  | cancelAllAboard (tag : Byte) (body : List Byte)
  | clearTimer (tag : Byte) (body : List Byte)
  | clearMissing (tag : Byte) (body : List Byte)
  | readMissing (tag : Byte) (body : List Byte)
  -- the journal (chapter 9)
  | drain (tag : Byte) (body : List Byte)
  | release (tag : Byte) (body : List Byte)
  | queryJournal (tag : Byte) (body : List Byte)
  -- transfers, attention and service state (chapter 10)
  | next (tag : Byte) (body : List Byte)
  | stop (tag : Byte) (body : List Byte)
  | load (tag : Byte) (body : List Byte)
  | loadItem (tag : Byte) (body : List Byte)
  | serviceWindowExpiry
  | sense (tag : Byte) (body : List Byte)
  | setPriority (tag : Byte) (body : List Byte)
  | queryAttention (tag : Byte) (body : List Byte)
  | startService (tag : Byte) (body : List Byte)
  | status (tag : Byte) (body : List Byte)
  | stationLineFall (station : Fin 4)
  | purgeEndsAborted
  | endOfTransmission (port : Port)
  | startByte (port : Port)
deriving DecidableEq, Repr

end Sys2Proof
end

