-- ==== Sys2Proof/Machine/Bytes.lean ====
section
/-! DEFINITION. Byte order, the frame envelope and its CRC (R184, R185), and the kind codes (R187). -/
namespace Sys2Proof.Machine

/-- The unsigned value of little-endian bytes (chapter 0, "Frames and layouts"). -/
def leNat : List Byte → Nat
  | [] => 0
  | b :: bs => b.toNat + 256 * leNat bs

/-- n as w little-endian bytes. -/
def leBytes : (w : Nat) → (n : Nat) → List Byte
  | 0, _ => []
  | w + 1, n => BitVec.ofNat 8 n :: leBytes w (n / 256)

/-- x as w little-endian bytes, two's complement. -/
def leInt (w : Nat) (x : Int) : List Byte := leBytes w (x % 2 ^ (8 * w)).toNat

/-- n, an unsigned value of w bytes, read as two's complement. -/
def asSigned (w : Nat) (n : Nat) : Int :=
  if 2 * n < 2 ^ (8 * w) then (n : Int) else (n : Int) - 2 ^ (8 * w)

/-- n bytes of l from position i on. -/
def slice (l : List Byte) (i n : Nat) : List Byte := (l.drop i).take n

/-- One bit of the CRC register: shift left, and add the generator x^16 + x^12 + x^5 + 1 when a one falls out (R184). -/
def crcBit (r : BitVec 16) : BitVec 16 :=
  if r.msb then (r <<< 1) ^^^ 0x1021#16 else r <<< 1

/-- One byte into the CRC register, its most significant bit first (R184). -/
def crcByte (r : BitVec 16) (b : Byte) : BitVec 16 :=
  crcBit (crcBit (crcBit (crcBit (crcBit (crcBit (crcBit (crcBit (r ^^^ (b.setWidth 16 <<< 8)))))))))

/-- The CRC of a frame, over bytes 1 to its last field, from a register of 0xFFFF, without inversion (R184). -/
def crc16 (bs : List Byte) : BitVec 16 := bs.foldl crcByte 0xFFFF#16

/-- The start byte (R184). -/
def startByteCode : Byte := 0xB5

/-- A whole frame: start byte, length, kind, tag, fields, CRC (R184). -/
def envelope (kind tag : Byte) (fields : List Byte) : List Byte :=
  let covered := leBytes 2 (2 + fields.length) ++ kind :: tag :: fields
  startByteCode :: covered ++ leBytes 2 (crc16 covered).toNat

/-- The length field of a frame's bytes (R184). -/
def envelopeLength (frame : List Byte) : Nat := leNat (slice frame 1 2)

/-- The CRC that a frame of the length it says carries is the CRC computed over bytes 1 to its last field (R184, R185). -/
def crcOk (frame : List Byte) : Bool :=
  decide (leNat (frame.drop (frame.length - 2)) = (crc16 (slice frame 1 (frame.length - 3))).toNat)

/-- The bytes a receiver collects are a frame it receives: the start byte, a length of 2-1,024 that suits them, and the CRC computed
over bytes 1 to the last field (R184, R185). -/
def envelopeOk (frame : List Byte) : Bool :=
  frame.head? == some startByteCode
  && decide (2 ≤ envelopeLength frame) && decide (envelopeLength frame ≤ 1024)
  && decide (frame.length = envelopeLength frame + 5)
  && crcOk frame

/-- The frame's only fault is its CRC (R185): it starts and is as long as it says, and the check fails. -/
def badCrcFrame (frame : List Byte) : Bool :=
  frame.head? == some startByteCode
  && decide (2 ≤ envelopeLength frame) && decide (envelopeLength frame ≤ 1024)
  && decide (frame.length = envelopeLength frame + 5)
  && !crcOk frame

/-- The kind bytes that name a service-link request (R187). -/
def knownRequest (kind : Byte) : Bool :=
  let k := kind.toNat
  (1 ≤ k && k ≤ 0x07) || (0x10 ≤ k && k ≤ 0x16) || (0x20 ≤ k && k ≤ 0x2C) || (0x30 ≤ k && k ≤ 0x37)
  || (0x40 ≤ k && k ≤ 0x49) || (0x50 ≤ k && k ≤ 0x5A) || (0x60 ≤ k && k ≤ 0x62) || (0x70 ≤ k && k ≤ 0x79)

/-- The kind bytes that name a till request (R187). -/
def knownTillRequest (kind : Byte) : Bool := 1 ≤ kind.toNat && kind.toNat ≤ 4

/-- The kind bytes of a node's frames: QUIET, CARD, ENTRY, RESTARTED (R187). -/
def knownNodeFrame (kind : Byte) : Bool := kind == 0x11 || kind == 0x12 || kind == 0x13 || kind == 0x14

/-- The kind byte of a station's frame: PASSAGES (R187). -/
def knownStationFrame (kind : Byte) : Bool := kind == 0x11

/-! ### What a receiver makes of the bytes it has collected (R185) -/

/-- The bytes collected since a start byte, that one included. -/
inductive Collected where
  /-- the frame is not complete -/
  | more
  /-- the length lies outside 2-1,024 -/
  | badLength (length : Word16)
  /-- the frame is complete and fails its CRC -/
  | badCrc
  /-- the frame is received -/
  | frame (kind tag : Byte) (body : List Byte)
deriving DecidableEq, Repr

/-- The two bytes after the start byte give the length; the frame is complete with the length bytes and the two of the CRC (R185). -/
def collect (bytes : List Byte) : Collected :=
  if bytes.length < 3 then .more
  else if envelopeLength bytes < 2 ∨ 1024 < envelopeLength bytes then .badLength (BitVec.ofNat 16 (envelopeLength bytes))
  else if bytes.length < envelopeLength bytes + 5 then .more
  else if crcOk bytes then .frame (bytes.getD 3 0) (bytes.getD 4 0) (slice bytes 5 (envelopeLength bytes - 2))
  else .badCrc

end Sys2Proof.Machine

namespace Sys2Proof
open Machine

/-- The discard is one that the envelope, or the port's owner, makes (R185, R136, R150). -/
def Discard.fits (p : Port) : Discard → Bool
  | .badLength l => decide (l.toNat < 2) || decide (1024 < l.toNat)
  | .gap => true
  | .badCrc f => badCrcFrame f
  | .unsuited k =>
    match p with
    | .service => false
    | .till => false
    | .segment _ => !knownNodeFrame k
    | .station _ => !knownStationFrame k

end Sys2Proof
end

