-- ==== Sys2Proof/Config.lean ====
section
/-! DEFINITION. What the part fixes (capacities and limits of "Capacities at a glance" and of the chapters) and the free values. -/
namespace Sys2Proof.Config

/-- Slots of the card ring (chapter 1.2). -/
@[simp] abbrev ringSlots : Nat := 16384
/-- Live cards at which ISSUE CARD is refused REGISTRY FULL (R4, R9). -/
@[simp] abbrev maxLiveCards : Nat := 12000
/-- Live cards at which PURGE ADVISED is raised (R5). -/
@[simp] abbrev adviseLiveCards : Nat := 11000
/-- Cards of one person (R9). -/
@[simp] abbrev maxCardsPerPerson : Nat := 8
/-- Person slots, numbered from 1 (chapter 1.5). -/
@[simp] abbrev persons : Nat := 8000
/-- Folio slots, numbered from 1 (chapter 4.1). -/
@[simp] abbrev folios : Nat := 4000
/-- Cabin records (R127). -/
@[simp] abbrev maxCabins : Nat := 3200
/-- Bindings of one cabin (R111). -/
@[simp] abbrev maxBindings : Nat := 6
/-- Cabins of one person (R111). -/
@[simp] abbrev maxCabinsPerPerson : Nat := 4
/-- Holds of one folio (R65). -/
@[simp] abbrev maxHolds : Nat := 4
/-- Journal slots (R171). -/
@[simp] abbrev journalSlots : Nat := 16384
/-- Free slots kept for money records (R173). -/
@[simp] abbrev moneyReserve : Nat := 1024
/-- Used slots at which JOURNAL HIGH is raised (R175). -/
@[simp] abbrev journalHigh : Nat := 12288
/-- The largest voyage time (R26). -/
@[simp] abbrev maxVoyage : Nat := 4294967295
/-- The size of a money field's positive end (R54). -/
@[simp] abbrev maxMoney : Int := 8388607
/-- The scale of the port rate (R46) and of a split field (R55): 2^24. -/
@[simp] abbrev scale24 : Int := 16777216
/-- The lower bound of a balance and the upper bound of postings (R71): 2^30. -/
@[simp] abbrev balanceBound : Int := 1073741824
/-- The bound of the day total (R59). -/
@[simp] abbrev dayTotalBound : Int := 2147483647
/-- The 20-hour guard of the day close, in seconds (R35). -/
@[simp] abbrev closeGuard : Nat := 72000
/-- The void window in seconds (R107). -/
@[simp] abbrev voidWindow : Nat := 120
/-- The time from a SILENT station's failure to its next fetch, in ms (R150). -/
@[simp] abbrev retryMs : Nat := 5000
/-- The service window of a transfer, in ms (R191). -/
@[simp] abbrev serviceWindowMs : Nat := 2000

/-- Free values: what the spec leaves unstated. Nothing is known of this function; a use of it is named in the assumption log. -/
opaque free : Nat → Nat

end Sys2Proof.Config
end

