-- ==== Sys2Proof/Machine/Table.lean ====
section
/-! DEFINITION. Numbered tables: lists of (number, record) with the numbers strictly rising. An unlisted number is a free slot.
And vectors changed entry by entry. -/
namespace Sys2Proof.Machine

/-- A table of records by number. -/
abbrev Table (α : Type) := List (Nat × α)

/-- The record at number k, or none for a free slot. -/
def Table.get {α : Type} : Table α → Nat → Option α
  | [], _ => none
  | (i, a) :: t, k => if i = k then some a else Table.get t k

/-- Write a record at number k, in its place. -/
def Table.set {α : Type} : Table α → Nat → α → Table α
  | [], k, v => [(k, v)]
  | (i, a) :: t, k, v =>
    if k < i then (k, v) :: (i, a) :: t
    else if k = i then (k, v) :: t
    else (i, a) :: Table.set t k v

/-- Free the slot of number k. -/
def Table.erase {α : Type} (t : Table α) (k : Nat) : Table α := t.filter (fun e => e.1 ≠ k)

/-- Change every record of the table in place. -/
def Table.mapVals {α : Type} (f : α → α) (t : Table α) : Table α := t.map (fun e => (e.1, f e.2))

/-- The numbers in use, ascending. -/
def Table.keys {α : Type} (t : Table α) : List Nat := t.map (·.1)

/-- The canonical form: the numbers strictly rise. -/
def Table.wf {α : Type} (t : Table α) : Bool := decide (t.Pairwise (fun a b => a.1 < b.1))

/-- The vector with every entry changed, in a form that the kernel evaluates. -/
def mapVec {α β : Type} {n : Nat} (f : α → β) (v : Vector α n) : Vector β n := ⟨(v.toList.map f).toArray, by simp⟩

end Sys2Proof.Machine
end

