-- ==== Sys2Proof/Machine/State.lean ====
section
/-! DEFINITION. Every piece of state the spec gives the controller, as plain data, and the state after power-on.

Each record cites the chapter that names its fields. What the spec calls a derived quantity (live-card count, reserved sum, available
credit, used and free counts) is computed where it is read. -/
namespace Sys2Proof.Machine

/-! ### Outcomes -/

/-- Reasons the block would stop with a fault. It has none: the spec describes no fault (INVENTORY.md, "Faults"). -/
inductive Fault where
deriving DecidableEq, Repr

/-- Reasons a command has no meaning. -/
inductive Refusal where
  /-- Raised by exec's arm of a command that the model gives no meaning yet. Safe: nothing is claimed of it. -/
  | notModelled (mnemonic : String)
deriving DecidableEq, Repr

/-! ### Cards, persons and the purge (chapter 1) -/

/-- The state of a card (R1). -/
inductive CardState where
  | active | suspended | lost | departed | withdrawn
deriving DecidableEq, Repr

/-- The master-key rank of a card (chapter 1.1). -/
inductive KeyLevel where
  | noKey | housekeeping | officer
deriving DecidableEq, Repr

/-- A card record (chapter 1.1). -/
structure Card where
  serial     : Word32
  person     : Nat
  state      : CardState
  keyLevel   : KeyLevel
  mask       : Byte
  failStreak : Nat
  issuedAt   : Nat
  lastUse    : Option Nat
deriving DecidableEq, Repr

/-- The class of a person (chapter 1.5). -/
inductive PersonClass where
  | guest | child | crew | visitor
deriving DecidableEq, Repr

/-- The charge privilege of a person (chapter 5.4). -/
inductive Privilege where
  | full | allowance | noPrivilege
deriving DecidableEq, Repr

/-- The recorded place of a person (chapter 1.5). -/
inductive Presence where
  | expected | aboard | ashore | departed
deriving DecidableEq, Repr

/-- The identity part of a person, the CRG's (R12). -/
structure Identity where
  cls       : PersonClass
  folio     : Nat
  cardCount : Nat
  cabins    : List Nat
deriving DecidableEq, Repr

/-- The spending part of a person, the CHU's (chapter 5.4). -/
structure Spending where
  privilege  : Privilege
  allowance  : Int
  spentToday : Int
  spendDay   : Option Nat
  minor      : Bool
deriving DecidableEq, Repr

/-- The presence part of a person, the PRU's (chapter 8). -/
structure Attendance where
  presence    : Presence
  stamp       : Nat
  lastStation : Option (Fin 4)
  final       : Bool
  missing     : Bool
  irregular   : Bool
deriving DecidableEq, Repr

/-- A person in use, in its three parts (chapter 1.5). -/
structure Person where
  ident : Identity
  spend : Spending
  att   : Attendance
deriving DecidableEq, Repr

/-- The phase of the purge with its walk position (chapter 1.7). In IDLE there is no walk position. -/
inductive Phase where
  | idle
  | cards (walk : Nat)
  | persons (walk : Nat)
  | folios (walk : Nat)
deriving DecidableEq, Repr

/-- The phase of the purge by name alone, as STATUS carries it (R200). -/
inductive PhaseName where
  | idle | cards | persons | folios
deriving DecidableEq, Repr

/-- The name of a phase. -/
def Phase.name : Phase → PhaseName
  | .idle => .idle
  | .cards _ => .cards
  | .persons _ => .persons
  | .folios _ => .folios

/-- A backward shift in progress: the HOLE's slot and the next slot to examine (R18). -/
structure Shift where
  hole    : Nat
  examine : Nat
deriving DecidableEq, Repr

/-- The removal counts of a purge (R15). -/
structure Removals where
  cards   : Nat
  persons : Nat
  folios  : Nat
deriving DecidableEq, Repr

/-- How a purge ended (R22, R23). -/
inductive Ending where
  | complete | aborted
deriving DecidableEq, Repr

/-- The purge's state (chapter 1.7). In IDLE abort requested is no, the model's choice after a purge that ended ABORTED (log 56). -/
structure Purge where
  phase   : Phase
  shift   : Option Shift
  abort   : Bool
  counts  : Removals
  last    : Option (Removals × Ending)
deriving DecidableEq, Repr

/-- What QUERY PURGE carries of the purge (R24): of a shift in progress the HOLE's slot alone. -/
structure PurgeReading where
  phase  : Phase
  hole   : Option Nat
  abort  : Bool
  counts : Removals
  last   : Option (Removals × Ending)
deriving DecidableEq, Repr

/-- The purge as QUERY PURGE reads it (R24). -/
def Purge.reading (p : Purge) : PurgeReading :=
  { phase := p.phase, hole := p.shift.map (·.hole), abort := p.abort, counts := p.counts, last := p.last }

/-- The Card Registry: the ring by slot, an unlisted slot being FREE or the HOLE; and the purge. -/
structure Crg where
  ring  : Table Card
  purge : Purge
deriving DecidableEq, Repr

/-! ### Ship time (chapter 2) -/

/-- A pending zone shift (R32). -/
structure PendingShift where
  offset    : Int
  effective : Nat
deriving DecidableEq, Repr

/-- The last day close (R36). -/
structure LastClose where
  voyage : Nat
  atLocal : Int
deriving DecidableEq, Repr

/-- The Ship Clock (chapter 2.1). -/
structure Scl where
  voyage     : Nat
  offset     : Int
  shift      : Option PendingShift
  trimHold   : Nat
  folioDay   : Nat
  closeHour  : Nat
  closePoint : Option Int
  lastClose  : Option LastClose
  closeHeld  : Bool
deriving DecidableEq, Repr

/-! ### Tills and venues (chapter 5) -/

/-- The four till requests (R88). -/
inductive TillKind where
  | charge | openTab | closeTab | void
deriving DecidableEq, Repr

/-- The verdict of a till answer (R89). -/
inductive Verdict where
  | approved | declined | notConfigured | busy | notServing | malformed
deriving DecidableEq, Repr

/-- The decline reasons (R89, chapter 5.5). -/
inductive Reason where
  | venueClosed | unknownCard | cardLost | cardSuspended | cardDeparted | noChargePrivilege | noFolio | ageRestricted
  | ashore | amountRange | folioFrozen | folioClosed | overLimit | overAllowance | returnsRefused | holdsFull
  | holdUnknown | voidRefused | journalFull
deriving DecidableEq, Repr

/-- The quantity that left its range (R53). -/
inductive Quantity where
  | b | l | s | sumB | sumG | sumT
deriving DecidableEq, Repr

/-- The part of a till answer that a decision keeps (chapter 5.2). -/
structure AnswerBody where
  verdict : Verdict
  reason  : Option Reason
  detail1 : Nat
  detail2 : Nat
  charge  : Word32
  amount1 : Int
  amount2 : Int
  amount3 : Int
  hold    : Nat
deriving DecidableEq, Repr

/-- A till answer as sent (R89): its kind byte, the sequence echoed, the till byte, the repeat mark and the rest. -/
structure TillAnswer where
  kind     : Byte
  sequence : Byte
  till     : Byte
  repeated : Bool
  body     : AnswerBody
deriving DecidableEq, Repr

/-- A till's last decision: the kind decided and the answer given (chapter 5.2). -/
structure Decision where
  kind : TillKind
  body : AnswerBody
deriving DecidableEq, Repr

/-- Whether an approved charge was a CHARGE or a CLOSE TAB (chapter 5.2). -/
inductive ChargeKind where
  | charge | tabClose
deriving DecidableEq, Repr

/-- The last approved charge of a till (chapter 5.2). -/
structure Approved where
  kind   : ChargeKind
  charge : Word32
  voyage : Nat
  folio  : Nat
  person : Nat
  total  : Int
deriving DecidableEq, Repr

/-- The sums of a priced charge that its settlement carries (R51). -/
structure Sums where
  s : Int
  g : Int
  t : Int
deriving DecidableEq, Repr

/-- What a WORKING till waits to have settled, beside what every kind records (R101, R107). -/
inductive Work where
  | charge (sums : Sums) (lines : Nat)
  | openTab (amount : Int)
  | closeTab (hold : Nat) (sums : Sums) (lines : Nat)
  | void (of : Approved)
deriving DecidableEq, Repr

/-- The request of a WORKING till (R94, R101). -/
structure Waiting where
  sequence : Byte
  folio    : Nat
  person   : Nat
  serial   : Word32
  venue    : Fin 64
  lenient  : Bool
  work     : Work
deriving DecidableEq, Repr

/-- A till record (chapter 5.2). It is configured when it has a venue (R91), and WORKING when it has a waiting request (R94). -/
structure Till where
  venue        : Option (Fin 64)
  working      : Option Waiting
  lastSequence : Option Byte
  lastDecision : Option Decision
  lastApproved : Option Approved
deriving DecidableEq, Repr

/-- What QUERY TILL carries of a till record (R98): the fields of chapter 5.2, the state being WORKING or IDLE. -/
structure TillReading where
  venue        : Option (Fin 64)
  working      : Bool
  lastSequence : Option Byte
  lastDecision : Option Decision
  lastApproved : Option Approved
deriving DecidableEq, Repr

/-- The till record as QUERY TILL reads it (R98). -/
def Till.reading (t : Till) : TillReading :=
  { venue := t.venue, working := t.working.isSome, lastSequence := t.lastSequence, lastDecision := t.lastDecision, lastApproved := t.lastApproved }

/-- The venue's categories (chapter 5.3). -/
inductive Category where
  | bar | dining | shop | spa | shoreDesk
deriving DecidableEq, Repr

/-- The currencies a venue prices in (R46). -/
inductive Currency where
  | base | port
deriving DecidableEq, Repr

/-- The settlings of a tie (R44). -/
inductive Rounding where
  | halfEven | tiesUp
deriving DecidableEq, Repr

/-- One copy of a venue's pricing (chapter 5.3). -/
structure Pricing where
  currency      : Currency
  gratuity      : Nat
  tax           : Nat
  taxOnGratuity : Bool
  rounding      : Rounding
deriving DecidableEq, Repr

/-- A venue record (chapter 5.3). -/
structure Venue where
  isOpen        : Bool
  category      : Category
  exempt        : Bool
  returns       : Bool
  live          : Pricing
  staged        : Pricing
  stagedPending : Bool
deriving DecidableEq, Repr

/-- The till presence policy (R102) and the access policy (R118). -/
inductive Policy where
  | strict | lenient
deriving DecidableEq, Repr

/-- The Charge Unit (chapter 5). -/
structure Chu where
  tills       : Vector Till 128
  venues      : Vector Venue 64
  rateLive    : Nat
  rateStaged  : Nat
  ratePending : Bool
  policy      : Policy
deriving DecidableEq, Repr

/-! ### Folios and holds (chapter 4) -/

/-- The state of a folio in use (R64). -/
inductive FolioState where
  | opened | frozen | closed
deriving DecidableEq, Repr

/-- A hold (chapter 4.2). The mark fallenDue is the model's: R84 says that a hold kept for want of a journal slot has already fallen due. -/
structure Hold where
  number    : Nat
  venue     : Fin 64
  till      : Fin 128
  person    : Nat
  amount    : Int
  openedAt  : Nat
  fallenDue : Bool
deriving DecidableEq, Repr

/-- What QUERY FOLIO carries of a hold (R83): the fields of chapter 4.2. -/
structure HoldReading where
  number   : Nat
  venue    : Fin 64
  till     : Fin 128
  person   : Nat
  amount   : Int
  openedAt : Nat
deriving DecidableEq, Repr

/-- The hold as QUERY FOLIO reads it (R83). -/
def Hold.reading (h : Hold) : HoldReading :=
  { number := h.number, venue := h.venue, till := h.till, person := h.person, amount := h.amount, openedAt := h.openedAt }

/-- A folio in use (chapter 4.1). -/
structure Folio where
  state       : FolioState
  balance     : Int
  limit       : Int
  holds       : List Hold
  personCount : Nat
  near        : Bool
  limited     : Bool
deriving DecidableEq, Repr

/-- The Folio Store (chapter 4, chapter 3.7). -/
structure Fst where
  folios    : Table Folio
  nextHold  : Nat
  band      : Nat
  lifetime  : Nat
  dayTotal  : Int
  saturated : Bool
deriving DecidableEq, Repr

/-! ### Cabins (chapter 6) -/

/-- The service state of a cabin (chapter 6.5). -/
inductive CabinState where
  | inService | outOfOrder | lockedDown
deriving DecidableEq, Repr

/-- The door as last reported (chapter 6.6). -/
inductive EntryState where
  | unknown | closed | opened | heldOpen
deriving DecidableEq, Repr

/-- The kind of a binding (chapter 6.1). -/
inductive BindingKind where
  | occupant | shared | service
deriving DecidableEq, Repr

/-- A binding (chapter 6.1). -/
structure Binding where
  person     : Nat
  kind       : BindingKind
  validFrom  : Nat
  validUntil : Option Nat
deriving DecidableEq, Repr

/-- A cabin record (chapter 6.1); its number is its place in the table. -/
structure Cabin where
  segment  : Fin 8
  node     : Nat
  state    : CabinState
  entry    : EntryState
  privacy  : Bool
  bindings : List Binding
deriving DecidableEq, Repr

/-- The access logging setting (R122). -/
inductive Logging where
  | nothing | denials | all
deriving DecidableEq, Repr

/-- An entry report handed to the CAU (R125, R137). -/
structure EntryReport where
  segment : Fin 8
  node    : Nat
  entry   : EntryState
  privacy : Bool
deriving DecidableEq, Repr

/-- The Cabin Access Unit (chapter 6), with the reports the LSCs have handed it and it has not yet taken (R137). -/
structure Cau where
  cabins  : Table Cabin
  policy  : Policy
  logging : Logging
  reports : List EntryReport
deriving DecidableEq, Repr

/-- The access decisions, in the order of the table of chapter 6.3. -/
inductive AccessDecision where
  | grant | grantMaster | defer | denyNotBound | denyUnknown | denyLost | denySuspended | denyDeparted | denyAshore
  | denyCabinClosed | denyPrivacy | denyNotYet | denyExpired
deriving DecidableEq, Repr

/-! ### Lock segments (chapter 7) -/

/-- The state of a node record (R131). -/
inductive NodeState where
  | unprobed | online | silent
deriving DecidableEq, Repr

/-- The mode still to be given to a node (chapter 7.4). -/
inductive LockMode where
  | noMode | lockdown | outOfOrder | normal
deriving DecidableEq, Repr

/-- A node record (chapter 7.1); its address is its place in the poll list. -/
structure Node where
  state       : NodeState
  missCount   : Nat
  pendingMode : LockMode
  isNew       : Bool
deriving DecidableEq, Repr

/-- What QUERY CABIN carries of a node record (R129): its state, miss count and pending mode. -/
structure NodeReading where
  state       : NodeState
  missCount   : Nat
  pendingMode : LockMode
deriving DecidableEq, Repr

/-- The node record as QUERY CABIN reads it (R129). -/
def Node.reading (n : Node) : NodeReading := { state := n.state, missCount := n.missCount, pendingMode := n.pendingMode }

/-- A reply window in ms: still to begin, running, or ended (R135, R136, R149). -/
inductive Window where
  | toBegin | running | over
deriving DecidableEq, Repr

/-- A turn in progress (R135): the node's address, the mode of the MODE frame sent (noMode for POLL), whether a request has set the pending mode since (R141), its
window, whether its record has been removed (R143), and a CARD reply whose decision has not been sent (R146). -/
structure Turn where
  address  : Nat
  sent     : LockMode
  replaced : Bool
  windowMs : Nat
  window   : Window
  removed  : Bool
  heldCard : Option Word32
deriving DecidableEq, Repr

/-- The kind of the frame that opened a turn (R135, R145). -/
inductive TurnKind where
  | poll | mode
deriving DecidableEq, Repr

/-- The kind of the frame that opened the turn, without the mode it held (R145). -/
def Turn.kind (t : Turn) : TurnKind :=
  match t.sent with
  | .noMode => .poll
  | _ => .mode

/-- The turn after a request has set the pending mode of a node (R141): a MODE frame in flight to that node holds a mode that has been replaced. -/
def Turn.replacedAt (t : Turn) (address : Nat) : Turn := if t.address = address then { t with replaced := true } else t

/-- A Lock Segment Controller (chapter 7.1). The field lastTurn is the address of the last turn of the cycle; waitMs is the wait of a cycle in which
no record is due (R132). -/
structure Lsc where
  nodes    : Table Node
  windowMs : Nat
  cycle    : Nat
  running  : Bool
  turn     : Option Turn
  lastTurn : Option Nat
  waitMs   : Option Nat
deriving DecidableEq, Repr

/-! ### Gangways (chapter 8) -/

/-- The attach state of a station (chapter 8.1). -/
inductive AttachState where
  | detached | attached | silent
deriving DecidableEq, Repr

/-- The directions a station accepts (chapter 8.1). -/
inductive StationMode where
  | closed | outbound | inbound | twoWay
deriving DecidableEq, Repr

/-- The display frequency of a station (R165). -/
inductive Frequency where
  | off | onChange | every30
deriving DecidableEq, Repr

/-- One passage record of a PASSAGES frame (R148). -/
structure Passage where
  sequence : Word16
  serial   : Word32
  inward   : Bool
  age      : Nat
deriving DecidableEq, Repr

/-- The passage verdicts (R151). -/
inductive PassageVerdict where
  | accepted | acceptedWithNote | duplicate | refusedClosed | refusedWrongWay | refusedUnknown | refusedLost | refusedDeparted
deriving DecidableEq, Repr

/-- A fetch of a station: none open; waiting for its reply; or its accepted reply being judged, with the records still to judge and the verdicts
given (R149-R151). -/
inductive Fetch where
  | none
  | waiting (window : Window)
  | judging (todo : List Passage) (done : List (Word16 × PassageVerdict))
deriving DecidableEq, Repr

/-- The values of a COUNTS frame (R165). -/
structure Counts where
  guestsAboard : Nat
  crewAboard   : Nat
  guestsAshore : Nat
  crewAshore   : Nat
  minutes      : Option Nat
  hour         : Nat
  minute       : Nat
deriving DecidableEq, Repr

/-- A station record (chapter 8.1), with the level of its attention line. -/
structure Station where
  lineHigh    : Bool
  attached    : AttachState
  mode        : StationMode
  pulseLimit  : Nat
  shortSeen   : Bool
  longSeen    : Bool
  expected    : Option Word16
  failures    : Nat
  fetch       : Fetch
  retryMs     : Option Nat
  frequency   : Frequency
  lastShown   : Option Counts
  tallyDay    : Option Nat
  tallyIn     : Nat
  tallyOut    : Nat
deriving DecidableEq, Repr

/-- What QUERY STATION carries of a station record (R166): the fields of chapter 8.1, a fetch being open or not. -/
structure StationReading where
  attached   : AttachState
  mode       : StationMode
  pulseLimit : Nat
  shortSeen  : Bool
  longSeen   : Bool
  expected   : Option Word16
  failures   : Nat
  fetchOpen  : Bool
  retryMs    : Option Nat
  frequency  : Frequency
  lastShown  : Option Counts
  tallyDay   : Option Nat
  tallyIn    : Nat
  tallyOut   : Nat
deriving DecidableEq, Repr

/-- The station record as QUERY STATION reads it (R166). -/
def Station.reading (t : Station) : StationReading :=
  { attached := t.attached, mode := t.mode, pulseLimit := t.pulseLimit, shortSeen := t.shortSeen, longSeen := t.longSeen, expected := t.expected,
    failures := t.failures, fetchOpen := decide (t.fetch ≠ .none), retryMs := t.retryMs, frequency := t.frequency, lastShown := t.lastShown,
    tallyDay := t.tallyDay, tallyIn := t.tallyIn, tallyOut := t.tallyOut }

/-- The all-aboard timer (chapter 8.6). -/
inductive Timer where
  | clear
  | armed (deadline : Nat)
  | running (deadline : Nat)
  | expiring (deadline walk : Nat)
  | expired (deadline : Nat)
deriving DecidableEq, Repr

/-- The state of the all-aboard timer by name alone, as STATUS carries it (R200). -/
inductive TimerName where
  | clear | armed | running | expiring | expired
deriving DecidableEq, Repr

/-- The name of a timer's state. -/
def Timer.name : Timer → TimerName
  | .clear => .clear
  | .armed _ => .armed
  | .running _ => .running
  | .expiring _ _ => .expiring
  | .expired _ => .expired

/-- The Presence Unit (chapter 8), less the presence parts of the persons. The sixteen counts stand class by class, in the order of
EXPECTED, ABOARD, ASHORE, DEPARTED (chapter 8.4). -/
structure Pru where
  stations     : Vector Station 4
  counts       : Vector Nat 16
  timer        : Timer
  newlyMarked  : Nat
  missingCount : Nat
deriving DecidableEq, Repr

/-! ### The journal (chapter 9) -/

/-- The fourteen record kinds (R176). -/
inductive RecordKind where
  | charge | void | tabOpen | tabClose | tabExpire | credit | dayClose
  | access | passage | anomaly | allAboard | zoneShift | node | gap
deriving DecidableEq, Repr

/-- The four record flags (R176). -/
structure RecordFlags where
  irregular : Bool := false
  limited   : Bool := false
  saturated : Bool := false
  lenient   : Bool := false
deriving DecidableEq, Repr

/-- A journal record, field by field of the layout of chapter 9.3. The sequence and the voyage time are given at admission. The verdict-or-reason byte, reason, is 0
where R176 and R177 give it no value (ALL ABOARD, ZONE SHIFT and GAP): the model's choice (log 53). -/
structure Record where
  sequence : Word32 := 0
  kind     : RecordKind
  flags    : RecordFlags := {}
  voyage   : Nat := 0
  index    : Nat := 0
  serial   : Word32 := 0
  folio    : Nat := 0
  place    : Nat := 0
  reason   : Nat := 0
  a        : Int := 0
  b        : Int := 0
  c        : Int := 0
  aux      : Int := 0
deriving DecidableEq, Repr

/-- The Journal (chapter 9.1): the ring by slot, and the three pointers. -/
structure Jnl where
  ring      : Table Record
  next      : Word32
  delivered : Word32
  released  : Word32
  drops     : Nat
  overflow  : Bool
deriving DecidableEq, Repr

/-! ### Attention (chapter 10.5) -/

/-- The attention causes, in the order of their numbers 1 to 25. -/
inductive Cause where
  | lostCardPresented | cardFailStreak | ashoreSighting | nodeSilent | nodeRestarted
  | entryHeldOpen | stationDetached | stationRestart | stationSilent | sequenceGap
  | passageRefused | allAboardExpired | allAboardComplete | openTabAtDeparture | folioNearLimit
  | folioOverLimit | balanceLimited | journalHigh | journalFull | drainOverrun
  | loadOverrun | purgeDone | purgeAdvised | dayClosed | zoneShiftTaken
deriving DecidableEq, Repr

/-- The three detail items of a pending record. -/
structure Detail where
  d1 : Word16 := 0
  d2 : Word16 := 0
  d3 : Word16 := 0
deriving DecidableEq, Repr

/-- A pending record of a cause (R195). -/
structure PendingRecord where
  subject : Word32
  detail  : Detail
  first   : Nat
  count   : Nat
deriving DecidableEq, Repr

/-- What the ATU holds of one cause. -/
structure CauseEntry where
  priority : Nat
  pending  : Option PendingRecord
deriving DecidableEq, Repr

/-- The Attention Unit: the causes by number less one, and the ATTN line (R196). -/
structure Atu where
  causes : Vector CauseEntry 25
  attn   : Bool
deriving DecidableEq, Repr

/-! ### The service link (chapter 10) -/

/-- The service states (chapter 10.6). -/
inductive ServiceState where
  | loading | serving
deriving DecidableEq, Repr

/-- The tables of a LOAD transfer (chapter 10.4). -/
inductive LoadTable where
  | persons | cards | folios | cabins | bindings
deriving DecidableEq, Repr

/-- The conditions of SCAN FOLIOS (R85). -/
inductive ScanCondition where
  | balanceAtLeast | balanceAtMost | balanceEqual | availableAtMost
deriving DecidableEq, Repr

/-- What SCAN FOLIOS looks for (R85): the state filter has a bit each for OPEN, FROZEN and CLOSED. -/
structure ScanQuery where
  condition : ScanCondition
  x         : Int
  inOpen    : Bool
  inFrozen  : Bool
  inClosed  : Bool
deriving DecidableEq, Repr

/-- The status of a service-link reply (R187). -/
inductive Status where
  | done | busy | invalid | malformed | notNow | ready | notFound | range | conflict | departed | personFull
  | registryFull | cabinFull | tableFull | overLimit | amountRange | holdsOutstanding | journalFull | purgeActive
deriving DecidableEq, Repr

/-- A quantity in split form (R55). -/
structure Split where
  high : Int
  low  : Int
deriving DecidableEq, Repr

/-- The further fields of a service-link reply, as the owning rule lists them. -/
inductive Payload where
  | nothing
  /-- the field index of MALFORMED, NOT FOUND or CONFLICT -/
  | field (index : Nat)
  | slot (slot distance : Nat)
  | cardState (state : CardState)
  | card (card : Card) (slot distance : Nat)
  | purge (purge : PurgeReading)
  | trimmed (voyage hold : Nat)
  | clock (clock : Scl) (hour minute second : Nat)
  | dayTotal (day : Nat) (total : Split) (saturated : Bool)
  | folioState (state : FolioState)
  | credit (balance : Int) (state : FolioState)
  | folio (state : FolioState) (balance : Int) (limit reserved available : Split) (persons : Nat) (near limited : Bool)
      (holds : List HoldReading)
  | folioSplit (state : FolioState) (balance : Split)
  | flags (near limited : Bool)
  | folioPolicy (band lifetime : Nat)
  | numbers (found : List Nat) (last : Nat) (fin : Bool)
  | lastVisited (last : Nat)
  | lastSequence (sequence : Word32)
  | venue (venue : Venue)
  | portRate (live staged : Nat) (pending : Bool) (policy : Policy)
  | till (till : TillReading)
  | position (position : Nat)
  | bound (position swept : Nat)
  | swept (swept : Nat)
  | bindings (removed : Nat)
  | cabinsSet (cabins : Nat)
  | accessPolicy (policy : Policy) (logging : Logging)
  | cabin (number : Nat) (cabin : Cabin) (node : Option NodeReading)
  | windows (before : List Nat)
  | segment (running : Bool) (cycle windowMs : Nat) (listed unprobed online silent pendingModes : Nat)
      (turn : Option (Nat × TurnKind)) (lowestSilent : Option Nat)
  | stationSettings (mode : StationMode) (pulseLimit : Nat) (frequency : Frequency)
  | station (station : StationReading)
  | presence (before : Presence)
  | person (person : Person) (effectiveSpent : Int)
  | counts (counts : List Nat) (missing : Nat) (timer : Timer) (newlyMarked : Nat) (minutes : Option Nat)
  | missingCount (before : Nat)
  | pointers (first second : Word32)
  | released (release : Word32) (used : Nat)
  | journal (release delivery next : Word32) (used free drops : Nat) (overflow drainOpen : Bool)
  | records (records : List Record) (fin : Bool)
  | nextIndex (index : Nat)
  | item (detail : Payload) (index next : Nat) (fin : Bool)
  | noCause
  | cause (number priority : Nat) (record : PendingRecord)
  | priority (before : Nat)
  | attention (causes : List (Nat × Option Nat))
  | status (service : ServiceState) (transferKind : Nat) (voyage day live persons folios holds cabins silentNodes : Nat)
      (stations : List AttachState) (release delivery next : Word32) (free drops : Nat) (phase : PhaseName) (timer : TimerName)
      (missing causesPending nextCause : Nat)
deriving DecidableEq, Repr

/-- What a reply's further fields are made of on the line, as far as the spec lays them out: money fields (R54), quantities in split form (R55), journal records
(chapter 9.3), and between them fields whose layout it gives nowhere. -/
inductive ReplyPart where
  | others
  | money (value : Int)
  | split (value : Split)
  | record (record : Record)
deriving DecidableEq, Repr

/-- A service-link reply frame (R188). The mark ofExchange tells the reply of an exchange from one formed without execution (R189). -/
structure Reply where
  kind       : Byte
  tag        : Byte
  status     : Status
  payload    : Payload
  ofExchange : Bool
deriving DecidableEq, Repr

/-- The stored verdict of a LOAD transfer (R193). -/
structure StoredVerdict where
  status  : Status
  payload : Payload
deriving DecidableEq, Repr

/-- The open transfer with its owner's position (chapter 10.3). -/
inductive Transfer where
  | drain (position : Word32) (remaining : Nat) (last : Word32)
  | scan (query : ScanQuery) (walk last : Nat)
  | missing (walk last : Nat)
  | load (table : LoadTable) (count next : Nat) (stored : Option StoredVerdict)
deriving DecidableEq, Repr

/-- The Service Link Controller (chapter 10). windowMs is the service window, present while it runs (R191). -/
structure Slc where
  service  : ServiceState
  exchange : Bool
  transfer : Option Transfer
  windowMs : Option Nat
deriving DecidableEq, Repr

/-! ### Ports (chapter 10.1) -/

/-- A receiver: hunting, or collecting a frame, with whether its start byte arrived inside the reply window then open (R136, R150) and the bytes
collected so far, the start byte first (R185). -/
inductive Receiver where
  | hunting
  | collecting (inWindow : Bool) (bytes : List Byte)
deriving DecidableEq, Repr

/-- What comes in on the line of a port (R185): a byte, or the passing of more than 10 ms since the byte before. -/
inductive LineEvent where
  | byte (b : Byte)
  | gap
deriving DecidableEq, Repr

/-- A frame formed for transmission (R186). -/
inductive Frame where
  | reply (reply : Reply)
  | tillAnswer (answer : TillAnswer)
  | poll (address : Nat)
  | mode (address : Nat) (mode : LockMode)
  | decision (address : Nat) (serial : Word32) (decision : AccessDecision)
  | fetch
  | verdicts (entries : List (Word16 × PassageVerdict))
  | counts (counts : Counts)
deriving DecidableEq, Repr

/-- The ports' receivers and transmit queues, by port number: service 0, till 1, segments 2-9, stations 10-13. -/
structure Ports where
  rx : Vector Receiver 14
  tx : Vector (List Frame) 14
deriving DecidableEq, Repr

/-! ### Boundaries -/

/-- Where the work of a second boundary stands (R26): the zone shift, the day close, the holds that have fallen due, or the all-aboard timer. -/
inductive Stage where
  | zone
  | close
  | holds (due : List (Nat × Nat))
  | timer
deriving DecidableEq, Repr

/-- The work of a boundary still outstanding: the voyage time before it and the stage to come. -/
structure Boundary where
  before : Nat
  stage  : Stage
deriving DecidableEq, Repr

/-! ### The whole state -/

/-- The controller, with what comes to it from outside: the bytes that arrive on its lines, in their order, and the commands that wait. -/
structure State where
  slc      : Slc
  atu      : Atu
  crg      : Crg
  persons  : Table Person
  scl      : Scl
  chu      : Chu
  fst      : Fst
  cau      : Cau
  lscs     : Vector Lsc 8
  pru      : Pru
  jnl      : Jnl
  ports    : Ports
  boundary : Option Boundary
  free     : Nat
  lines    : List (Port × LineEvent)
  pending  : List Instr
deriving DecidableEq, Repr

/-! ### Reset values -/

/-- The SLC after power-on (R202). -/
def Slc.reset : Slc := { service := .loading, exchange := false, transfer := none, windowMs := none }

/-- The default priorities of causes 1 to 25 (chapter 10.5). -/
def defaultPriorities : Vector Nat 25 := #v[6, 4, 3, 4, 2, 3, 5, 3, 5, 4, 4, 7, 6, 3, 2, 5, 2, 5, 7, 3, 3, 1, 2, 1, 1]

/-- The ATU after power-on (R202). -/
def Atu.reset : Atu := { causes := mapVec (fun p => { priority := p, pending := none }) defaultPriorities, attn := false }

/-- The purge after power-on (R14). -/
def Purge.reset : Purge := { phase := .idle, shift := none, abort := false, counts := ⟨0, 0, 0⟩, last := none }

/-- The CRG after power-on (R14). -/
def Crg.reset : Crg := { ring := [], purge := Purge.reset }

/-- The clock after power-on (R40). -/
def Scl.reset : Scl :=
  { voyage := 0, offset := 0, shift := none, trimHold := 0, folioDay := 0, closeHour := 5, closePoint := none, lastClose := none,
    closeHeld := false }

/-- A till after power-on (R109). -/
def Till.reset : Till := { venue := none, working := none, lastSequence := none, lastDecision := none, lastApproved := none }

/-- A pricing copy after power-on (R109). -/
def Pricing.reset : Pricing := { currency := .base, gratuity := 0, tax := 0, taxOnGratuity := false, rounding := .halfEven }

/-- A venue after power-on (R109). -/
def Venue.reset : Venue :=
  { isOpen := false, category := .bar, exempt := false, returns := false, live := Pricing.reset, staged := Pricing.reset,
    stagedPending := false }

/-- The CHU after power-on (R109). -/
def Chu.reset : Chu :=
  { tills := Vector.replicate 128 Till.reset, venues := Vector.replicate 64 Venue.reset, rateLive := 16777216, rateStaged := 16777216,
    ratePending := false, policy := .lenient }

/-- The FST after power-on (R87, R63). -/
def Fst.reset : Fst := { folios := [], nextHold := 1, band := 90, lifetime := 8, dayTotal := 0, saturated := false }

/-- The CAU after power-on (R130). -/
def Cau.reset : Cau := { cabins := [], policy := .lenient, logging := .denials, reports := [] }

/-- An LSC after power-on (R146). -/
def Lsc.reset : Lsc := { nodes := [], windowMs := 6, cycle := 0, running := false, turn := none, lastTurn := none, waitMs := none }

/-- A station after power-on with its line sampled (R147, R170). -/
def Station.reset (lineHigh : Bool) : Station :=
  { lineHigh := lineHigh, attached := if lineHigh then .attached else .detached, mode := .closed, pulseLimit := 3, shortSeen := false,
    longSeen := false, expected := none, failures := 0, fetch := .none, retryMs := none, frequency := .off, lastShown := none,
    tallyDay := none, tallyIn := 0, tallyOut := 0 }

/-- The PRU after power-on, the station lines standing as given (R170). -/
def Pru.reset (lines : Vector Bool 4) : Pru :=
  { stations := mapVec Station.reset lines, counts := Vector.replicate 16 0, timer := .clear, newlyMarked := 0, missingCount := 0 }

/-- The journal after power-on (R183). -/
def Jnl.reset : Jnl := { ring := [], next := 1, delivered := 1, released := 1, drops := 0, overflow := false }

/-- The ports after power-on: every receiver hunting (R202), nothing to transmit. -/
def Ports.reset : Ports := { rx := Vector.replicate 14 .hunting, tx := Vector.replicate 14 [] }

/-- The controller after power-on with its station lines standing as given (R202). -/
def State.powerOn (lines : Vector Bool 4) : State :=
  { slc := Slc.reset, atu := Atu.reset, crg := Crg.reset, persons := [], scl := Scl.reset, chu := Chu.reset, fst := Fst.reset,
    cau := Cau.reset, lscs := Vector.replicate 8 Lsc.reset, pru := Pru.reset lines, jnl := Jnl.reset, ports := Ports.reset,
    boundary := none, free := 0, lines := [], pending := [] }

/-- The machine right after reset. DESIGN CHOICE (log 4): the station lines stand high, so that the four stations are ATTACHED. -/
def State.reset : State := State.powerOn (Vector.replicate 4 true)

end Sys2Proof.Machine
end

