-- ==== Sys2Proof/Machine/Flags.lean ====
section
/-! DEFINITION. Codes, flags and marks: journal record layout (R176, R177), split form and balance fields (R55, R56), the NEAR test (R76),
and the byte layout of the frames that the spec tabulates (R89, R134, R148). -/
namespace Sys2Proof.Config

/-- Free value: the bytes of a reply's k-th part, of fields whose layout the spec does not tabulate (log 15). -/
opaque payloadBytes : Machine.Payload → (k : Nat) → List Byte

end Sys2Proof.Config

namespace Sys2Proof.Machine

/-! ### Split form and balance fields -/

/-- A value in split form (R55): high is the floor of v / 2^24 and low what remains, as Int division by a positive number gives them. -/
def splitOf (v : Int) : Split := { high := v / Config.scale24, low := v % Config.scale24 }

/-- The value of a split form (R55). -/
def Split.value (p : Split) : Int := p.high * Config.scale24 + p.low

/-- A balance held to the money-field range (R56). -/
def balanceField (balance : Int) : Int :=
  if balance > Config.maxMoney then Config.maxMoney else if balance < -8388608 then -8388608 else balance

/-- The balance lies outside the money-field range, so that a field showing it is limited (R56). -/
def isLimited (balance : Int) : Bool := decide (balance > Config.maxMoney) || decide (balance < -8388608)

/-! ### Folio marks -/

/-- The reserved sum of a folio (R65). -/
def Folio.reserved (f : Folio) : Int := (f.holds.map (·.amount)).sum

/-- The available credit of a folio (chapter 4.1). -/
def Folio.available (f : Folio) : Int := f.limit - f.balance - f.reserved

/-- Balance plus reserved sum exceeds the credit limit (R70). -/
def Folio.overLimit (f : Folio) : Bool := decide (f.balance + f.reserved > f.limit)

/-- The NEAR test finds the folio at or beyond its warning band, with NEAR clear (R76). -/
def Folio.nearDue (f : Folio) (band : Nat) : Bool :=
  decide (f.limit > 0) && !f.near && decide (100 * (f.balance + f.reserved) ≥ band * f.limit)

/-! ### Codes of journal records (R176) -/

/-- The kind code of a record (R176). -/
def RecordKind.code : RecordKind → Nat
  | .charge => 1 | .void => 2 | .tabOpen => 3 | .tabClose => 4 | .tabExpire => 5 | .credit => 6 | .dayClose => 7
  | .access => 16 | .passage => 17 | .anomaly => 18 | .allAboard => 19 | .zoneShift => 20 | .node => 21 | .gap => 22

/-- The money kinds (chapter 9.2). -/
def RecordKind.isMoney (k : RecordKind) : Bool := decide (k.code < 16)

/-- The flags byte: IRREGULAR, LIMITED, SATURATED, LENIENT in bits 0 to 3 (R176). -/
def RecordFlags.byte (f : RecordFlags) : Byte :=
  BitVec.ofNat 8 (f.irregular.toNat + 2 * f.limited.toNat + 4 * f.saturated.toNat + 8 * f.lenient.toNat)

/-- The 32 bytes of a record (chapter 9.3). -/
def Record.bytes (r : Record) : List Byte :=
  leBytes 4 r.sequence.toNat ++ [BitVec.ofNat 8 r.kind.code, r.flags.byte] ++ leBytes 4 r.voyage ++ leBytes 2 r.index
  ++ leBytes 4 r.serial.toNat ++ leBytes 2 r.folio ++ leBytes 1 r.place ++ leBytes 1 r.reason
  ++ leInt 3 r.a ++ leInt 3 r.b ++ leInt 3 r.c ++ leInt 3 r.aux

/-- The number of a decision, 1-13 in the order of the table of chapter 6.3 (R176). -/
def AccessDecision.number : AccessDecision → Nat
  | .grant => 1 | .grantMaster => 2 | .defer => 3 | .denyNotBound => 4 | .denyUnknown => 5 | .denyLost => 6 | .denySuspended => 7
  | .denyDeparted => 8 | .denyAshore => 9 | .denyCabinClosed => 10 | .denyPrivacy => 11 | .denyNotYet => 12 | .denyExpired => 13

/-- The ten denials (chapter 6.3). -/
def AccessDecision.isDenial (d : AccessDecision) : Bool := decide (4 ≤ d.number)

/-- 0 NONE, 1 HOUSEKEEPING, 2 OFFICER (R122). -/
def KeyLevel.number : KeyLevel → Nat
  | .noKey => 0 | .housekeeping => 1 | .officer => 2

/-- 0 NONE, 1 LOCKDOWN, 2 OUT OF ORDER, 3 NORMAL (R134, R140). -/
def LockMode.number : LockMode → Nat
  | .noMode => 0 | .lockdown => 1 | .outOfOrder => 2 | .normal => 3

/-- 0 EXPECTED, 1 ABOARD, 2 ASHORE, 3 DEPARTED (R154). -/
def Presence.number : Presence → Nat
  | .expected => 0 | .aboard => 1 | .ashore => 2 | .departed => 3

/-- GUEST, CHILD, CREW, VISITOR from 0, the rows of the presence counts (chapter 8.4). -/
def PersonClass.number : PersonClass → Nat
  | .guest => 0 | .child => 1 | .crew => 2 | .visitor => 3

/-- 0 PERSONS to 4 BINDINGS (chapter 10.5). -/
def LoadTable.number : LoadTable → Nat
  | .persons => 0 | .cards => 1 | .folios => 2 | .cabins => 3 | .bindings => 4

/-- The verdict byte of a VERDICTS entry (R148). -/
def PassageVerdict.number : PassageVerdict → Nat
  | .accepted => 1 | .acceptedWithNote => 2 | .duplicate => 3 | .refusedClosed => 4 | .refusedWrongWay => 5 | .refusedUnknown => 6
  | .refusedLost => 7 | .refusedDeparted => 8

/-- The status byte of a service-link reply (R187). -/
def Status.code : Status → Nat
  | .done => 0 | .busy => 1 | .invalid => 2 | .malformed => 3 | .notNow => 4 | .ready => 5 | .notFound => 6 | .range => 7
  | .conflict => 8 | .departed => 9 | .personFull => 10 | .registryFull => 11 | .cabinFull => 12 | .tableFull => 13
  | .overLimit => 14 | .amountRange => 15 | .holdsOutstanding => 16 | .journalFull => 17 | .purgeActive => 18

/-! ### Till answers (R89) -/

/-- The verdict byte (R89). -/
def Verdict.number : Verdict → Nat
  | .approved => 1 | .declined => 2 | .notConfigured => 3 | .busy => 4 | .notServing => 5 | .malformed => 6

/-- The reason byte, 1-19 (R89). -/
def Reason.number : Reason → Nat
  | .venueClosed => 1 | .unknownCard => 2 | .cardLost => 3 | .cardSuspended => 4 | .cardDeparted => 5 | .noChargePrivilege => 6
  | .noFolio => 7 | .ageRestricted => 8 | .ashore => 9 | .amountRange => 10 | .folioFrozen => 11 | .folioClosed => 12
  | .overLimit => 13 | .overAllowance => 14 | .returnsRefused => 15 | .holdsFull => 16 | .holdUnknown => 17 | .voidRefused => 18
  | .journalFull => 19

/-- The failing quantity of detail 2 (R89). -/
def Quantity.number : Quantity → Nat
  | .b => 1 | .l => 2 | .s => 3 | .sumB => 4 | .sumG => 5 | .sumT => 6

/-- The reason byte of an answer: 0 when the verdict is not DECLINED (R89). -/
def AnswerBody.reasonByte (b : AnswerBody) : Nat :=
  match b.reason with
  | some r => r.number
  | none => 0

/-- The body bytes of a till answer, bytes 5 to 25 of its frame (R89). -/
def TillAnswer.bytes (a : TillAnswer) : List Byte :=
  [a.till, BitVec.ofNat 8 a.body.verdict.number, BitVec.ofNat 8 a.body.reasonByte, BitVec.ofNat 8 a.body.detail1,
   BitVec.ofNat 8 a.body.detail2, BitVec.ofNat 8 a.repeated.toNat]
  ++ leBytes 4 a.body.charge.toNat ++ leInt 3 a.body.amount1 ++ leInt 3 a.body.amount2 ++ leInt 3 a.body.amount3
  ++ leBytes 2 a.body.hold

/-! ### Field frames as bytes (R134, R148) -/

/-- The body bytes of a VERDICTS entry (R148). -/
def verdictBytes (e : Word16 × PassageVerdict) : List Byte := leBytes 2 e.1.toNat ++ leBytes 1 e.2.number

/-- The body bytes of a COUNTS frame (R148). -/
def Counts.bytes (c : Counts) : List Byte :=
  leBytes 2 c.guestsAboard ++ leBytes 2 c.crewAboard ++ leBytes 2 c.guestsAshore ++ leBytes 2 c.crewAshore
  ++ leBytes 2 (c.minutes.getD 0xFFFF) ++ leBytes 1 c.hour ++ leBytes 1 c.minute

/-- A money field's three bytes (R54). -/
def moneyBytes (value : Int) : List Byte := leInt 3 value

/-- A split form's four bytes: the low field, then the high field (R55, R188). -/
def Split.bytes (p : Split) : List Byte := leInt 3 p.low ++ leInt 1 p.high

/-- The parts of an answer that a till record keeps: its amounts, and what follows them (chapter 5.2). -/
def Decision.parts (d : Decision) : List ReplyPart := [.money d.body.amount1, .money d.body.amount2, .money d.body.amount3, .others]

/-- The further fields of a reply part by part, in the order in which the owning rule gives them (R188; log 15): QUERY DAY TOTAL (R62), POST CREDIT (R80), QUERY FOLIO
and QUERY FOLIO SPLIT (R83), QUERY TILL (R98), QUERY PERSON (R169), a frame of a drain (R179), and an item of a LOAD with the detail of its request (R193). -/
def Payload.parts : Payload → List ReplyPart
  | .nothing => []
  | .dayTotal _ total _ => [.others, .split total, .others]
  | .credit balance _ => [.money balance, .others]
  | .folio _ balance limit reserved available _ _ _ holds =>
    [.others, .money balance, .split limit, .split reserved, .split available, .others] ++ holds.flatMap (fun h => [.money h.amount, .others])
  | .folioSplit _ balance => [.others, .split balance]
  | .till t => .others :: (t.lastDecision.toList.flatMap Decision.parts ++ t.lastApproved.toList.map (fun a => .money a.total))
  | .person p effective => [.others, .money p.spend.allowance, .money p.spend.spentToday, .others, .money effective, .others]
  | .records rs _ => .others :: (rs.map .record ++ [.others])
  | .item detail _ _ _ => detail.parts ++ [.others]
  | _ => [.others]

/-- The bytes of a reply's k-th part. The fields that the spec lays out nowhere are free, but for a bound that leaves the other parts their place in the frame. -/
def ReplyPart.bytes (p : Payload) (k : Nat) : ReplyPart → List Byte
  | .others => (Config.payloadBytes p k).take 160
  | .money value => moneyBytes value
  | .split value => value.bytes
  | .record r => r.bytes

/-- The bytes of a reply's parts from the k-th on. -/
def partsBytes (p : Payload) : (k : Nat) → List ReplyPart → List Byte
  | _, [] => []
  | k, x :: rest => x.bytes p k ++ partsBytes p (k + 1) rest

/-- The bytes of a reply's further fields, within the bound that R184 sets the length field. -/
def Payload.bytes (p : Payload) : List Byte := (partsBytes p 0 p.parts).take 1021

/-- The fields of a service-link reply (R187, R188): the status byte, then the further fields. -/
def Reply.bytes (r : Reply) : List Byte := BitVec.ofNat 8 r.status.code :: r.payload.bytes

/-- The whole frame as transmitted, its length field and CRC computed as R185 checks them (R184, R186). -/
def Frame.bytes : Frame → List Byte
  | .reply r => envelope r.kind r.tag r.bytes
  | .tillAnswer a => envelope a.kind a.sequence a.bytes
  | .poll a => envelope 0x01 0 (leBytes 2 a)
  | .mode a m => envelope 0x02 0 (leBytes 2 a ++ leBytes 1 m.number)
  | .decision a serial d => envelope 0x03 0 (leBytes 2 a ++ leBytes 4 serial.toNat ++ leBytes 1 d.number)
  | .fetch => envelope 0x01 0 (leBytes 1 16)
  | .verdicts es => envelope 0x02 0 (leBytes 1 es.length ++ es.flatMap verdictBytes)
  | .counts c => envelope 0x03 0 c.bytes

/-! ### Causes -/

/-- The number of a cause, 1-25 (chapter 10.5). -/
def Cause.number : Cause → Nat
  | .lostCardPresented => 1 | .cardFailStreak => 2 | .ashoreSighting => 3 | .nodeSilent => 4 | .nodeRestarted => 5
  | .entryHeldOpen => 6 | .stationDetached => 7 | .stationRestart => 8 | .stationSilent => 9 | .sequenceGap => 10
  | .passageRefused => 11 | .allAboardExpired => 12 | .allAboardComplete => 13 | .openTabAtDeparture => 14 | .folioNearLimit => 15
  | .folioOverLimit => 16 | .balanceLimited => 17 | .journalHigh => 18 | .journalFull => 19 | .drainOverrun => 20
  | .loadOverrun => 21 | .purgeDone => 22 | .purgeAdvised => 23 | .dayClosed => 24 | .zoneShiftTaken => 25

/-- The place of a cause in the ATU's table: its number less one. -/
def Cause.place (c : Cause) : Fin 25 := ⟨c.number - 1, by cases c <;> decide⟩

/-- A cause has a pending record: the level that ATTN follows (R196). -/
def Atu.anyPending (a : Atu) : Bool := a.causes.toList.any (fun e => e.pending.isSome)

end Sys2Proof.Machine
end

