-- ==== Sys2Proof/Machine/Operands.lean ====
section
/-! DEFINITION. Operand forms: the field tables and encodings of service-link requests (R188), and the bodies of till, node and
station frames (R88, R134, R148). -/
namespace Sys2Proof.Machine

/-! ### Fields of service-link requests -/

/-- The form of one field (R188). Enumerated values are numbered from 0 in the order of the field table. -/
inductive Form where
  /-- one of n listed values, one byte -/
  | enum (n : Nat)
  /-- yes or no, one byte, 0 or 1 -/
  | yesNo
  /-- a set, one byte, one bit for each of n members; mayBeEmpty says whether the empty set is a value -/
  | set (n : Nat) (mayBeEmpty : Bool)
  /-- a number of a range, in the fewest of 1 to 4 bytes -/
  | number (lo hi : Int)
  /-- a number of a range that is a multiple of step -/
  | multiple (lo hi step : Int)
  /-- one of the listed numbers -/
  | among (values : List Int)
  /-- a money field of a range, 3 bytes (R54) -/
  | money (lo hi : Int)
  /-- a quantity in split form of a range, 4 bytes (R55) -/
  | split (lo hi : Int)
deriving DecidableEq, Repr

/-- A field of a request, and whether it may be absent (R188). -/
structure Field where
  form     : Form
  optional : Bool := false
deriving DecidableEq, Repr

/-- The field is signed: its range is. -/
def Form.signed : Form → Bool
  | .enum _ | .yesNo | .set _ _ | .among _ => false
  | .number lo _ => decide (lo < 0)
  | .multiple lo _ _ => decide (lo < 0)
  | .money _ _ => true
  | .split _ _ => true

/-- The fewest of 1 to 4 bytes that hold a range (R188). -/
def rangeWidth (lo hi : Int) : Nat :=
  if lo < 0 then
    if -128 ≤ lo ∧ hi ≤ 127 then 1
    else if -32768 ≤ lo ∧ hi ≤ 32767 then 2
    else if -8388608 ≤ lo ∧ hi ≤ 8388607 then 3
    else 4
  else
    if hi ≤ 255 then 1
    else if hi ≤ 65535 then 2
    else if hi ≤ 16777215 then 3
    else 4

/-- The width of a form's value in bytes (R188). -/
def Form.width : Form → Nat
  | .enum _ | .yesNo | .set _ _ | .among _ => 1
  | .number lo hi => rangeWidth lo hi
  | .multiple lo hi _ => rangeWidth lo hi
  | .money _ _ => 3
  | .split _ _ => 4

/-- The values that a form's field table lists. -/
def Form.admits : Form → Int → Bool
  | .enum n, x => decide (0 ≤ x) && decide (x < n)
  | .yesNo, x => decide (0 ≤ x) && decide (x < 2)
  | .set n mayBeEmpty, x => decide (0 ≤ x) && decide (x < 2 ^ n) && (mayBeEmpty || decide (x ≠ 0))
  | .number lo hi, x => decide (lo ≤ x) && decide (x ≤ hi)
  | .multiple lo hi step, x => decide (lo ≤ x) && decide (x ≤ hi) && decide (x % step = 0)
  | .among values, x => values.contains x
  | .money lo hi, x => decide (lo ≤ x) && decide (x ≤ hi)
  | .split lo hi, x => decide (lo ≤ x) && decide (x ≤ hi)

/-- The value that a form's bytes carry. A split field's low field comes first and its high field fourth (R188), which is a signed
32-bit number in little-endian order. -/
def Form.read (f : Form) (bytes : List Byte) : Int :=
  if f.signed then asSigned f.width (leNat bytes) else leNat bytes

/-- The bytes that carry a value. -/
def Form.write (f : Form) (x : Int) : List Byte := leInt f.width x

/-- The width of a field: its value, and a flag byte when it may be absent (R188). -/
def Field.width (f : Field) : Nat := if f.optional then f.form.width + 1 else f.form.width

/-- The values of a request's fields in order; none for an absent field. -/
abbrev Values := List (Option Int)

/-- One field from its bytes: its value, or none when it is badly encoded or out of range. A flag byte is 0 or 1, and the value bytes of an
absent field hold 0 (R188). -/
def Field.decode (f : Field) (bytes : List Byte) : Option (Option Int) :=
  if f.optional then
    match bytes with
    | [] => none
    | flag :: rest =>
      if flag = 0 then (if rest.all (· == 0) then some none else none)
      else if flag = 1 then (if f.form.admits (f.form.read rest) then some (some (f.form.read rest)) else none)
      else none
  else if f.form.admits (f.form.read bytes) then some (some (f.form.read bytes)) else none

/-- The length that a request's field table gives its fields. -/
def fieldsWidth (fs : List Field) : Nat := (fs.map Field.width).sum

/-- Judge the fields in order from index i on: their values, or the index of the first at fault (R190 test 4). -/
def decodeFieldsFrom (i : Nat) : List Field → List Byte → Except Nat Values
  | [], _ => .ok []
  | f :: fs, bytes =>
    match f.decode (bytes.take f.width) with
    | none => .error i
    | some v =>
      match decodeFieldsFrom (i + 1) fs (bytes.drop f.width) with
      | .error j => .error j
      | .ok vs => .ok (v :: vs)

/-- Judge a request's fields (R190 test 4): index 0 for a length that does not suit the kind, else the first field at fault, else the values. -/
def decodeFields (fs : List Field) (body : List Byte) : Except Nat Values :=
  if body.length = fieldsWidth fs then decodeFieldsFrom 1 fs body else .error 0

/-- The bytes of one field (R188). -/
def Field.encode (f : Field) (v : Option Int) : List Byte :=
  if f.optional then
    match v with
    | none => List.replicate (f.form.width + 1) 0
    | some x => 1 :: f.form.write x
  else f.form.write (v.getD 0)

/-- The bytes of a request's fields (R188). -/
def encodeFields : List Field → Values → List Byte
  | f :: fs, v :: vs => f.encode v ++ encodeFields fs vs
  | _, _ => []

/-- The value is one of the field's. -/
def Field.fits (f : Field) : Option Int → Bool
  | none => f.optional
  | some x => f.form.admits x

/-- The values are those of the field table, one for each field. -/
def fitsAll : List Field → Values → Bool
  | [], [] => true
  | f :: fs, v :: vs => f.fits v && fitsAll fs vs
  | _, _ => false

/-- Field number i (from 1), or none when it is absent. -/
def Values.opt (v : Values) (i : Nat) : Option Int := v.getD (i - 1) none
/-- Field number i as an integer. -/
def Values.int (v : Values) (i : Nat) : Int := (v.opt i).getD 0
/-- Field number i as a natural number. -/
def Values.nat (v : Values) (i : Nat) : Nat := (v.int i).toNat
/-- Field number i as a 32-bit word. -/
def Values.word (v : Values) (i : Nat) : Word32 := BitVec.ofNat 32 (v.nat i)
/-- Field number i as a yes or no. -/
def Values.yes (v : Values) (i : Nat) : Bool := decide (v.int i = 1)
/-- Field number i as a natural number, or none when it is absent. -/
def Values.optNat (v : Values) (i : Nat) : Option Nat := (v.opt i).map Int.toNat

/-- The n-th value of an enumeration's list, the last one past its end. -/
def pick {α : Type} (default : α) : List α → Nat → α
  | [], _ => default
  | a :: _, 0 => a
  | _ :: l, n + 1 => pick default l n

/-- NONE, HOUSEKEEPING, OFFICER. -/
def keyLevelOf : Nat → KeyLevel := pick .officer [.noKey, .housekeeping, .officer]
/-- GUEST, CHILD, CREW, VISITOR. -/
def classOf : Nat → PersonClass := pick .visitor [.guest, .child, .crew, .visitor]
/-- EXPECTED, ABOARD, ASHORE, DEPARTED. -/
def presenceOf : Nat → Presence := pick .departed [.expected, .aboard, .ashore, .departed]
/-- FULL, ALLOWANCE, NONE. -/
def privilegeOf : Nat → Privilege := pick .noPrivilege [.full, .allowance, .noPrivilege]
/-- BAR, DINING, SHOP, SPA, SHORE DESK. -/
def categoryOf : Nat → Category := pick .shoreDesk [.bar, .dining, .shop, .spa, .shoreDesk]
/-- STRICT, LENIENT. -/
def policyOf : Nat → Policy := pick .lenient [.strict, .lenient]
/-- OCCUPANT, SHARED, SERVICE. -/
def bindingKindOf : Nat → BindingKind := pick .service [.occupant, .shared, .service]
/-- IN SERVICE, OUT OF ORDER, LOCKED DOWN. -/
def cabinStateOf : Nat → CabinState := pick .lockedDown [.inService, .outOfOrder, .lockedDown]
/-- NONE, DENIALS, ALL. -/
def loggingOf : Nat → Logging := pick .all [.nothing, .denials, .all]
/-- CLOSED, OUTBOUND, INBOUND, TWO-WAY. -/
def stationModeOf : Nat → StationMode := pick .twoWay [.closed, .outbound, .inbound, .twoWay]
/-- OFF, ON CHANGE, EVERY 30 S. -/
def frequencyOf : Nat → Frequency := pick .every30 [.off, .onChange, .every30]
/-- BALANCE AT LEAST, BALANCE AT MOST, BALANCE EQUAL, AVAILABLE AT MOST. -/
def conditionOf : Nat → ScanCondition := pick .availableAtMost [.balanceAtLeast, .balanceAtMost, .balanceEqual, .availableAtMost]
/-- PERSONS, CARDS, FOLIOS, CABINS, BINDINGS. -/
def loadTableOf : Nat → LoadTable := pick .bindings [.persons, .cards, .folios, .cabins, .bindings]

/-! ### The field tables -/

/-- A card serial, 1 to 0xFFFFFFFE. -/
def serialField : Field := { form := .number 1 4294967294 }
/-- A person number. -/
def personField : Field := { form := .number 1 8000 }
/-- A folio number. -/
def folioField : Field := { form := .number 1 4000 }
/-- A cabin number. -/
def cabinField : Field := { form := .number 1 65535 }
/-- A voyage time, or a journal sequence. -/
def word32Field : Field := { form := .number 0 4294967295 }
/-- A zone offset. -/
def offsetField : Field := { form := .multiple (-720) 840 15 }
/-- A credit limit. -/
def limitField : Field := { form := .split 0 1073741824 }

/-- ISSUE CARD (chapter 1.4). -/
def issueCardFields : List Field := [serialField, personField, { form := .enum 3 }, { form := .set 8 true }]
/-- SET CARD STATE (chapter 1.4): the actions are SUSPEND, RESUME, LOST, WITHDRAW. -/
def setCardStateFields : List Field := [serialField, { form := .enum 4 }]
/-- QUERY CARD (chapter 1.4). -/
def queryCardFields : List Field := [serialField]
/-- ADD PERSON (chapter 1.5). -/
def addPersonFields : List Field := [personField, { form := .enum 4 }, { form := .number 0 4000 }, { form := .enum 4, optional := true }]
/-- SET TIME (chapter 2.3). -/
def setTimeFields : List Field := [word32Field, offsetField]
/-- TRIM (chapter 2.3). -/
def trimFields : List Field := [{ form := .number (-60) 60 }]
/-- ZONE SHIFT (chapter 2.4). -/
def zoneShiftFields : List Field := [offsetField, word32Field]
/-- SET DAY CLOSE HOUR (chapter 2.6). -/
def setDayCloseHourFields : List Field := [{ form := .number 0 23 }]
/-- OPEN FOLIO (chapter 4.5). -/
def openFolioFields : List Field := [folioField, limitField, { form := .split (-1073741824) 1107296256 }]
/-- SET LIMIT (chapter 4.5). -/
def setLimitFields : List Field := [folioField, limitField]
/-- POST CREDIT (chapter 4.5). -/
def postCreditFields : List Field := [folioField, { form := .money (-8388608) 8388607 }]
/-- FREEZE, THAW, CLOSE FOLIO, REOPEN, QUERY FOLIO, QUERY FOLIO SPLIT and CLEAR FLAGS (chapters 4.4, 4.5). -/
def oneFolioFields : List Field := [folioField]
/-- SET FOLIO POLICY (chapter 4.5). -/
def setFolioPolicyFields : List Field := [{ form := .number 50 100 }, { form := .number 1 24 }]
/-- SCAN FOLIOS (chapter 4.6). -/
def scanFoliosFields : List Field :=
  [{ form := .enum 4 }, { form := .split (-2147483648) 2147483647 }, { form := .set 3 false }, folioField]
/-- SET TILL (chapter 5.2). -/
def setTillFields : List Field := [{ form := .number 0 127 }, { form := .yesNo }, { form := .number 0 63, optional := true }]
/-- SET VENUE (chapter 5.3): the states are OPEN, CLOSED. -/
def setVenueFields : List Field :=
  [{ form := .number 0 63 }, { form := .enum 2 }, { form := .enum 5 }, { form := .yesNo, optional := true }, { form := .yesNo }]
/-- STAGE VENUE PRICING (chapter 5.3): BASE, PORT; HALF-EVEN, TIES-UP; NEXT MINUTE, AT ONCE. -/
def stageVenuePricingFields : List Field :=
  [{ form := .number 0 63 }, { form := .enum 2 }, { form := .number 0 5000 }, { form := .number 0 5000 }, { form := .yesNo },
   { form := .enum 2 }, { form := .enum 2 }]
/-- STAGE PORT RATE (chapter 5.3). -/
def stagePortRateFields : List Field := [{ form := .number 1 4294967295 }, { form := .enum 2 }]
/-- QUERY VENUE (R98). -/
def queryVenueFields : List Field := [{ form := .number 0 63 }]
/-- QUERY TILL (R98). -/
def queryTillFields : List Field := [{ form := .number 0 127 }]
/-- SET TILL POLICY (R102). -/
def setTillPolicyFields : List Field := [{ form := .enum 2 }]
/-- ADD CABIN (chapter 6.7). -/
def addCabinFields : List Field :=
  [cabinField, { form := .number 0 7 }, { form := .number 1 511 }, { form := .enum 3, optional := true }]
/-- REMOVE CABIN and QUERY CABIN (chapter 6.7). -/
def oneCabinFields : List Field := [cabinField]
/-- BIND (chapter 6.2). -/
def bindFields : List Field :=
  [personField, cabinField, { form := .enum 3 }, word32Field, { form := .number 0 4294967295, optional := true }]
/-- UNBIND (chapter 6.2). -/
def unbindFields : List Field := [personField, cabinField]
/-- SET CABIN STATE (chapter 6.5): the targets are ONE CABIN, SEGMENT. -/
def setCabinStateFields : List Field :=
  [{ form := .enum 2 }, { form := .number 1 65535, optional := true }, { form := .number 0 7, optional := true }, { form := .enum 3 }]
/-- SET ACCESS POLICY (chapter 6.4). -/
def setAccessPolicyFields : List Field := [{ form := .enum 2 }, { form := .enum 3 }]
/-- SET POLL WINDOW (chapter 7.6): the targets are ONE SEGMENT, ALL SEGMENTS. -/
def setPollWindowFields : List Field := [{ form := .enum 2 }, { form := .number 0 7, optional := true }, { form := .number 2 20 }]
/-- QUERY SEGMENT (chapter 7.6). -/
def querySegmentFields : List Field := [{ form := .number 0 7 }]
/-- SET STATION (chapter 8.8). -/
def setStationFields : List Field :=
  [{ form := .number 0 3 }, { form := .enum 4, optional := true }, { form := .among [1, 3, 10, 40], optional := true },
   { form := .enum 3, optional := true }]
/-- QUERY STATION (R166). -/
def queryStationFields : List Field := [{ form := .number 0 3 }]
/-- SET PERSON (chapter 8.8): MINOR and FINAL list set, then clear. -/
def setPersonFields : List Field :=
  [personField, { form := .enum 3, optional := true }, { form := .money 0 8388607, optional := true },
   { form := .enum 2, optional := true }, { form := .enum 2, optional := true }]
/-- SET PRESENCE (chapter 8.8). -/
def setPresenceFields : List Field := [personField, { form := .enum 4 }]
/-- QUERY PERSON (R169). -/
def queryPersonFields : List Field := [personField]
/-- SET ALL ABOARD (chapter 8.6). -/
def setAllAboardFields : List Field := [word32Field]
/-- READ MISSING (chapter 8.6). -/
def readMissingFields : List Field := [personField]
/-- DRAIN (chapter 9.4). -/
def drainFields : List Field := [word32Field, { form := .number 1 256 }]
/-- RELEASE (chapter 9.5). -/
def releaseFields : List Field := [word32Field]
/-- LOAD (chapter 10.4). -/
def loadFields : List Field := [{ form := .enum 5 }, { form := .number 1 8000 }]
/-- The index field of LOAD ITEM (chapter 10.4). -/
def loadIndexField : Field := { form := .number 1 8000 }
/-- The item fields of each table: those of its single request (chapter 10.4). -/
def itemFields : LoadTable → List Field
  | .persons => addPersonFields
  | .cards => issueCardFields
  | .folios => openFolioFields
  | .cabins => addCabinFields
  | .bindings => bindFields
/-- SET PRIORITY (chapter 10.5). -/
def setPriorityFields : List Field := [{ form := .number 1 25 }, { form := .number 0 7 }]
/-- START SERVICE (chapter 10.6). -/
def startServiceFields : List Field := [{ form := .number 0 65535 }]

/-! ### Fields that are judged together -/

/-- No test beyond the fields' own. -/
def noCross (_ : Values) : Option Nat := none

/-- SET TILL: configured yes needs a venue and configured no forbids it; the index is that of the venue field (R91). -/
def setTillCross (v : Values) : Option Nat := if v.yes 2 = (v.opt 3).isSome then none else some 3

/-- SET CABIN STATE: a cabin for ONE CABIN and a segment for SEGMENT, and neither otherwise; the index is that of the target field (R124). -/
def setCabinStateCross (v : Values) : Option Nat :=
  if v.nat 1 = 0 then (if (v.opt 2).isSome && (v.opt 3).isNone then none else some 1)
  else (if (v.opt 2).isNone && (v.opt 3).isSome then none else some 1)

/-- SET POLL WINDOW: a segment for ONE SEGMENT and none for ALL SEGMENTS; the index is that of the target field (R144). -/
def setPollWindowCross (v : Values) : Option Nat :=
  if (v.nat 1 == 0) = (v.opt 2).isSome then none else some 1

/-! ### Till frames (chapter 5.1) -/

/-- A charge line (R43). -/
structure Line where
  price    : Int
  quantity : Int
  age      : Bool
  noGrat   : Bool
  noTax    : Bool
deriving DecidableEq, Repr

/-- What a well-formed till request asks (R88). -/
inductive TillAsk where
  | charge (lines : List Line)
  | openTab (amount : Int)
  | closeTab (hold : Nat) (lines : List Line)
  | void (charge : Word32)
deriving DecidableEq, Repr

/-- A well-formed till request (R88). -/
structure TillRequest where
  till   : Fin 128
  serial : Word32
  ask    : TillAsk
deriving DecidableEq, Repr

/-- What is wrong with a malformed till request: the field index, and for field 4 the index of R43 (R88). -/
structure TillFault where
  field : Nat
  line  : Nat
deriving DecidableEq, Repr

/-- One charge line from its 5 bytes, when it is valid (R43). -/
def lineOf (bytes : List Byte) : Option Line :=
  let price := leNat (slice bytes 0 3)
  let quantity := asSigned 1 (leNat (slice bytes 3 1))
  let flags := leNat (slice bytes 4 1)
  if price ≤ 9999999 ∧ -99 ≤ quantity ∧ quantity ≤ 99 ∧ quantity ≠ 0 ∧ flags < 8 then
    some { price := price, quantity := quantity, age := flags.testBit 0, noGrat := flags.testBit 1, noTax := flags.testBit 2 }
  else none

/-- n charge lines, or the index of the first that is not valid (R43). -/
def linesOf (index : Nat) : (n : Nat) → List Byte → Except Nat (List Line)
  | 0, _ => .ok []
  | n + 1, bytes =>
    match lineOf (bytes.take 5) with
    | none => .error index
    | some l =>
      match linesOf (index + 1) n (bytes.drop 5) with
      | .error i => .error i
      | .ok ls => .ok (l :: ls)

/-- The line count at a place of the body and the lines after it: field 4 with 0 for a bad count, or with the first bad line's index (R43, R88). -/
def lineListOf (body : List Byte) (countAt : Nat) : Except TillFault (List Line) :=
  let n := leNat (slice body countAt 1)
  if 1 ≤ n ∧ n ≤ 8 then
    match linesOf 1 n (body.drop (countAt + 1)) with
    | .error i => .error ⟨4, i⟩
    | .ok ls => .ok ls
  else .error ⟨4, 0⟩

/-- The body has the length that its kind and its line count require (R88). -/
def tillLengthOk : TillKind → List Byte → Bool
  | .charge, body => decide (6 ≤ body.length) && decide (body.length = 6 + 5 * leNat (slice body 5 1))
  | .openTab, body => decide (body.length = 8)
  | .closeTab, body => decide (8 ≤ body.length) && decide (body.length = 8 + 5 * leNat (slice body 7 1))
  | .void, body => decide (body.length = 9)

/-- What the kind asks, from field 3 on (R88). -/
def tillAskOf (kind : TillKind) (body : List Byte) : Except TillFault TillAsk :=
  match kind with
  | .charge =>
    match lineListOf body 5 with
    | .error f => .error f
    | .ok ls => .ok (.charge ls)
  | .openTab =>
    let amount := asSigned 3 (leNat (slice body 5 3))
    if 1 ≤ amount ∧ amount ≤ 8388607 then .ok (.openTab amount) else .error ⟨3, 0⟩
  | .closeTab =>
    let hold := leNat (slice body 5 2)
    if 1 ≤ hold then
      match lineListOf body 7 with
      | .error f => .error f
      | .ok ls => .ok (.closeTab hold ls)
    else .error ⟨3, 0⟩
  | .void => .ok (.void (BitVec.ofNat 32 (leNat (slice body 5 4))))

/-- A till request from its body: length, till, serial, then the rest; the first at fault is named (R88). -/
def tillRequestOf (kind : TillKind) (body : List Byte) : Except TillFault TillRequest :=
  if tillLengthOk kind body then
    if h : leNat (slice body 0 1) < 128 then
      let serial := leNat (slice body 1 4)
      if serial = 0 ∨ serial = 0xFFFFFFFF then .error ⟨2, 0⟩
      else
        match tillAskOf kind body with
        | .error f => .error f
        | .ok ask => .ok { till := ⟨leNat (slice body 0 1), h⟩, serial := BitVec.ofNat 32 serial, ask := ask }
    else .error ⟨1, 0⟩
  else .error ⟨0, 0⟩

/-- The kind code of a till request (R187). -/
def TillKind.code : TillKind → Byte
  | .charge => 0x01
  | .openTab => 0x02
  | .closeTab => 0x03
  | .void => 0x04

/-! ### Node frames (R134) -/

/-- A node's reply, less its address. -/
inductive NodeReply where
  | quiet
  | card (serial : Word32)
  | entry (entry : EntryState) (privacy : Bool)
  | restarted
deriving DecidableEq, Repr

/-- A reply's node address and content. -/
structure NodeFrame where
  address : Nat
  reply   : NodeReply
deriving DecidableEq, Repr

/-- The address of a node frame's body, when it lies in 1-511. -/
def nodeAddressOf (body : List Byte) : Option Nat :=
  let a := leNat (slice body 0 2)
  if 1 ≤ a ∧ a ≤ 511 then some a else none

/-- A QUIET frame's body. -/
def quietOf (body : List Byte) : Option NodeFrame :=
  if body.length = 2 then (nodeAddressOf body).map (fun a => ⟨a, .quiet⟩) else none

/-- A CARD frame's body; every serial is within its range (R138). -/
def cardOf (body : List Byte) : Option NodeFrame :=
  if body.length = 6 then (nodeAddressOf body).map (fun a => ⟨a, .card (BitVec.ofNat 32 (leNat (slice body 2 4)))⟩) else none

/-- An ENTRY frame's body: 0 CLOSED, 1 OPEN, 2 HELD OPEN; privacy 0 OFF, 1 ON. -/
def entryOf (body : List Byte) : Option NodeFrame :=
  let e := leNat (slice body 2 1)
  let p := leNat (slice body 3 1)
  if body.length = 4 ∧ e ≤ 2 ∧ p ≤ 1 then
    (nodeAddressOf body).map (fun a => ⟨a, .entry (pick .heldOpen [.closed, .opened, .heldOpen] e) (p == 1)⟩)
  else none

/-- A RESTARTED frame's body. -/
def restartedOf (body : List Byte) : Option NodeFrame :=
  if body.length = 2 then (nodeAddressOf body).map (fun a => ⟨a, .restarted⟩) else none

/-! ### Station frames (R148) -/

/-- One passage record from its 8 bytes, when its direction is 0 or 1. -/
def passageOf (bytes : List Byte) : Option Passage :=
  let d := leNat (slice bytes 6 1)
  if d ≤ 1 then
    some { sequence := BitVec.ofNat 16 (leNat (slice bytes 0 2)), serial := BitVec.ofNat 32 (leNat (slice bytes 2 4)), inward := d == 1,
           age := leNat (slice bytes 7 1) }
  else none

/-- n passage records, when every one is in range. -/
def passageListOf : (n : Nat) → List Byte → Option (List Passage)
  | 0, _ => some []
  | n + 1, bytes =>
    match passageOf (bytes.take 8), passageListOf n (bytes.drop 8) with
    | some p, some ps => some (p :: ps)
    | _, _ => none

/-- A PASSAGES frame's body: a count of 0-16, a length of 1 + 8 × count, and directions of 0 or 1 (R150). -/
def passagesOf (body : List Byte) : Option (List Passage) :=
  let n := leNat (slice body 0 1)
  if 1 ≤ body.length ∧ n ≤ 16 ∧ body.length = 1 + 8 * n then passageListOf n (body.drop 1) else none

end Sys2Proof.Machine
end

