-- ==== Sys2Proof/Machine/Ops.lean ====
section
/-! DEFINITION. Operations that the meanings share: the ports, attention, the journal, the registry, the presence counts, and the folio marks. -/
namespace Sys2Proof.Machine

/-! ### Ports -/

/-- The number of a port in the tables of receivers and transmit queues. -/
def portIndex : Port → Fin 14
  | .service => 0
  | .till => 1
  | .segment i => ⟨i.val + 2, by omega⟩
  | .station g => ⟨g.val + 10, by omega⟩

/-- The receiver of a port. -/
def State.rxOf (s : State) (p : Port) : Receiver := s.ports.rx[portIndex p]

/-- The frames formed on a port and not yet transmitted, the one in transmission first (R186). -/
def State.txOf (s : State) (p : Port) : List Frame := s.ports.tx[portIndex p]

/-- Set the receiver of a port. -/
def setRx (p : Port) (r : Receiver) (s : State) : State :=
  { s with ports := { s.ports with rx := s.ports.rx.set (portIndex p) r } }

/-- Set the transmit queue of a port. -/
def setTx (p : Port) (q : List Frame) (s : State) : State :=
  { s with ports := { s.ports with tx := s.ports.tx.set (portIndex p) q } }

/-- Form a frame: it follows the frames already formed for its port (R186). -/
def send (p : Port) (f : Frame) (s : State) : State := setTx p (s.txOf p ++ [f]) s

/-! ### Free values -/

/-- The next free value. -/
def State.freeValue (s : State) : Nat := Config.free s.free

/-- A free value has been used; the next use takes another. -/
def useFree (s : State) : State := { s with free := s.free + 1 }

/-! ### Attention (R195, R196) -/

/-- The entry of a cause. -/
def State.cause (s : State) (c : Cause) : CauseEntry := s.atu.causes[c.place]

/-- The ATU with the causes given, ATTN following them (R196). -/
def Atu.withCauses (v : Vector CauseEntry 25) : Atu := { causes := v, attn := v.toList.any (fun e => e.pending.isSome) }

/-- What a raise makes of a cause's entry of priority above 0 (R195). -/
def CauseEntry.raised (e : CauseEntry) (subject : Word32) (detail : Detail) (now : Nat) : CauseEntry :=
  match e.pending with
  | none => { e with pending := some { subject := subject, detail := detail, first := now, count := 1 } }
  | some p => { e with pending := some { p with count := min 255 (p.count + 1) } }

/-- Raise a cause with its subject and detail (R195); a cause of priority 0 discards it. -/
def raise (c : Cause) (subject : Word32) (detail : Detail) (s : State) : State :=
  if (s.cause c).priority = 0 then s
  else { s with atu := Atu.withCauses (s.atu.causes.set c.place ((s.cause c).raised subject detail s.scl.voyage)) }

/-- A subject that is a number. -/
def subj (n : Nat) : Word32 := BitVec.ofNat 32 n

/-- Detail items that are numbers. -/
def detail (a : Nat) (b : Nat := 0) (c : Nat := 0) : Detail :=
  { d1 := BitVec.ofNat 16 a, d2 := BitVec.ofNat 16 b, d3 := BitVec.ofNat 16 c }

/-! ### The journal (R171-R175) -/

/-- The distance of a sequence forward from the release point, modulo 2^32 (R171). -/
def Jnl.ahead (j : Jnl) (n : Word32) : Nat := (n - j.released).toNat

/-- The used count (R171). -/
def Jnl.used (j : Jnl) : Nat := j.ahead j.next

/-- The free count (R171). -/
def Jnl.freeSlots (j : Jnl) : Nat := Config.journalSlots - j.used

/-- The slot of a sequence (R171). -/
def slotOf (n : Word32) : Nat := n.toNat % Config.journalSlots

/-- The record a sequence names, while it is held (R171). -/
def Jnl.recordAt (j : Jnl) (n : Word32) : Option Record := j.ring.get (slotOf n)

/-- The journal with a record written at the next sequence (R171, R172). -/
def Jnl.push (j : Jnl) (r : Record) (now : Nat) : Jnl :=
  { j with ring := j.ring.set (slotOf j.next) { r with sequence := j.next, voyage := now }, next := j.next + 1 }

/-- Take a record in: it is written, and JOURNAL HIGH is raised at the crossing of 12,288 used slots (R171, R175). -/
def takeIn (r : Record) (s : State) : State :=
  let t := { s with jnl := s.jnl.push r s.scl.voyage }
  if s.jnl.used + 1 = Config.journalHigh then raise .journalHigh (subj Config.journalHigh) {} t else t

/-- Offer a money record (R173): the sequence it took and the state after, or none with JOURNAL FULL raised when no slot is free (R175). -/
def offerMoney (r : Record) (s : State) : Option Word32 × State :=
  if 1 ≤ s.jnl.freeSlots then (some s.jnl.next, takeIn r s)
  else (none, raise .journalFull (subj r.kind.code) {} s)

/-- Count a dropped record (R174). -/
def Jnl.dropped (j : Jnl) : Jnl :=
  if j.drops ≥ 65535 then { j with overflow := true } else { j with drops := j.drops + 1 }

/-- The GAP record that a non-money offer brings while drops are counted, when there is room (R174). Its verdict-or-reason byte is 0, the model's choice (log 53). -/
def offerGap (s : State) : State :=
  if 0 < s.jnl.drops ∧ Config.moneyReserve < s.jnl.freeSlots then
    let t := takeIn { kind := .gap, flags := { saturated := s.jnl.overflow }, a := s.jnl.drops } s
    { t with jnl := { t.jnl with drops := 0, overflow := false } }
  else s

/-- Offer a non-money record: after the GAP it brings, it is taken in, or dropped and counted (R173, R174). -/
def offerEvent (r : Record) (s : State) : State :=
  let t := offerGap s
  if Config.moneyReserve < t.jnl.freeSlots then takeIn r t else { t with jnl := t.jnl.dropped }

/-! ### The card ring (R2-R8) -/

/-- The home slot of a serial (R2). -/
def homeSlot (serial : Word32) : Nat := (serial * 2654435761#32).toNat / 262144

/-- The slot after a slot in probe order (R2). -/
def nextSlot (slot : Nat) : Nat := if slot + 1 = Config.ringSlots then 0 else slot + 1

/-- The probe moves from one slot to another (R2). -/
def probeMoves (start slot : Nat) : Nat := (slot + (Config.ringSlots - start)) % Config.ringSlots

/-- How a search ends (R3). -/
inductive Search where
  | found (slot : Nat) (card : Card)
  | freeAt (slot : Nat)
  | noSlot
deriving DecidableEq, Repr

/-- A search from a slot with so many examinations left (R3). -/
def searchFrom (ring : Table Card) (hole : Option Nat) (serial : Word32) : (fuel : Nat) → (slot : Nat) → Search
  | 0, _ => .noSlot
  | n + 1, slot =>
    if hole = some slot then searchFrom ring hole serial n (nextSlot slot)
    else
      match ring.get slot with
      | none => .freeAt slot
      | some c => if c.serial = serial then .found slot c else searchFrom ring hole serial n (nextSlot slot)

/-- The HOLE's slot, while a shift is in progress. -/
def Crg.hole (g : Crg) : Option Nat := g.purge.shift.map (·.hole)

/-- A search for a serial from its home slot (R3). -/
def Crg.search (g : Crg) (serial : Word32) : Search :=
  searchFrom g.ring g.hole serial Config.ringSlots (homeSlot serial)

/-- The live-card count: the OCCUPIED slots (R4). -/
def Crg.live (g : Crg) : Nat := g.ring.length

/-- Write a card into a slot. -/
def putCard (slot : Nat) (c : Card) (s : State) : State := { s with crg := { s.crg with ring := s.crg.ring.set slot c } }

/-- Write a person's record. -/
def putPerson (n : Nat) (p : Person) (s : State) : State := { s with persons := s.persons.set n p }

/-- What a lookup finds: the card and its person (R6). -/
structure Found where
  slot   : Nat
  card   : Card
  person : Person
deriving DecidableEq, Repr

/-- A lookup by serial (R6): a WITHDRAWN card is NOT FOUND. -/
def lookup (serial : Word32) (s : State) : Option Found :=
  match s.crg.search serial with
  | .found slot c =>
    if c.state = .withdrawn then none
    else (s.persons.get c.person).map (fun p => { slot := slot, card := c, person := p })
  | _ => none

/-- A failure update (R7): the fail streak rises by one up to 7, and CARD FAIL STREAK is raised from 4 to 5. -/
def failureUpdate (serial : Word32) (s : State) : State :=
  match s.crg.search serial with
  | .found slot c =>
    if c.state = .withdrawn then s
    else
      let t := putCard slot { c with failStreak := min 7 (c.failStreak + 1) } s
      if c.failStreak = 4 then raise .cardFailStreak serial {} t else t
  | _ => s

/-- A success update (R7): fail streak 0, last use now. -/
def successUpdate (serial : Word32) (s : State) : State :=
  match s.crg.search serial with
  | .found slot c =>
    if c.state = .withdrawn then s else putCard slot { c with failStreak := 0, lastUse := some s.scl.voyage } s
  | _ => s

/-- A departure's change of one card (R8). -/
def Card.departedIf (c : Card) (person : Nat) : Card :=
  if c.person = person ∧ (c.state = .active ∨ c.state = .suspended) then { c with state := .departed } else c

/-- Every ACTIVE or SUSPENDED card of the person becomes DEPARTED (R8). -/
def departCards (person : Nat) (s : State) : State :=
  { s with crg := { s.crg with ring := s.crg.ring.mapVals (fun c => c.departedIf person) } }

/-! ### Presence (R156-R163) -/

/-- The place of a class and presence among the sixteen counts (chapter 8.4). -/
def countPlace (cls : PersonClass) (p : Presence) : Fin 16 :=
  ⟨4 * cls.number + p.number, by cases cls <;> cases p <;> decide⟩

/-- A presence count. -/
def Pru.count (r : Pru) (cls : PersonClass) (p : Presence) : Nat := r.counts[countPlace cls p]

/-- One presence count set. -/
def Pru.setCount (r : Pru) (cls : PersonClass) (p : Presence) (n : Nat) : Pru := { r with counts := r.counts.set (countPlace cls p) n }

/-- One person leaves a count and enters another, within the class (R157). -/
def Pru.moveCount (r : Pru) (cls : PersonClass) (before after : Presence) : Pru :=
  let r1 := r.setCount cls before (r.count cls before - 1)
  r1.setCount cls after (r1.count cls after + 1)

/-- A MISSING mark is cleared (R163): the missing count falls by one, and ALL ABOARD COMPLETE is raised when it falls from 1 to 0. -/
def clearMark (s : State) : State :=
  let t := { s with pru := { s.pru with missingCount := s.pru.missingCount - 1 } }
  if s.pru.missingCount = 1 then raise .allAboardComplete 0 {} t else t

/-- The person's folio carries a hold that names the person (R65, R156). -/
def State.hasHold (s : State) (person folio : Nat) : Bool :=
  match s.fst.folios.get folio with
  | some f => f.holds.any (fun h => h.person == person)
  | none => false

/-- The departure's part beside presence and counts (R156): the cards depart, and an open tab is reported. -/
def depart (person folio : Nat) (s : State) : State :=
  let t := departCards person s
  if t.hasHold person folio then raise .openTabAtDeparture (subj person) (detail folio) t else t

/-- Change a person's presence in one event (R154, R156, R157, R159, R163, R169): the presence part as given, the count moved, a MISSING mark
cleared when the person leaves ASHORE, and a departure made when the new presence is DEPARTED. -/
def changePresence (n : Nat) (p : Person) (after : Presence) (stamp : Nat) (station : Option (Fin 4)) (irregular : Bool) (s : State) : State :=
  let leaves := p.att.presence = .ashore ∧ p.att.missing
  let att := { p.att with presence := after, stamp := stamp, lastStation := station, irregular := irregular,
                          missing := if leaves then false else p.att.missing }
  let s1 := putPerson n { p with att := att } s
  let s2 := { s1 with pru := s1.pru.moveCount p.ident.cls p.att.presence after }
  let s3 := if leaves then clearMark s2 else s2
  if after = .departed then depart n p.ident.folio s3 else s3

/-- Where a card was used aboard: at a lock, by segment and cabin, or at a till (R158). -/
inductive Sighted where
  | atLock (segment cabin : Nat)
  | atTill (till : Nat)
deriving DecidableEq, Repr

/-- The source of a sighting, 1 lock, 2 till (R159, chapter 10.5). -/
def Sighted.source : Sighted → Nat
  | .atLock _ _ => 1
  | .atTill _ => 2

/-- The place of a sighting: the segment or the till. -/
def Sighted.place : Sighted → Nat
  | .atLock seg _ => seg
  | .atTill t => t

/-- The cabin of a sighting at a lock, 0 at a till. -/
def Sighted.cabin : Sighted → Nat
  | .atLock _ c => c
  | .atTill _ => 0

/-- ASHORE SIGHTING is raised with the person and the place (R158, R159). -/
def raiseSighting (n : Nat) (w : Sighted) (s : State) : State :=
  raise .ashoreSighting (subj n) (detail w.source w.place w.cabin) s

/-- A sighting of a person (R159): an ASHORE or EXPECTED person becomes ABOARD with IRREGULAR set, the cause is raised and the ANOMALY record offered;
otherwise it is discarded. -/
def sighting (n : Nat) (p : Person) (serial : Word32) (w : Sighted) (s : State) : State :=
  if p.att.presence = .ashore ∨ p.att.presence = .expected then
    offerEvent
      { kind := .anomaly, flags := { lenient := true, irregular := true }, index := n, serial := serial, folio := p.ident.folio,
        place := w.place, reason := 4, a := w.source, b := p.att.presence.number, c := 0, aux := w.cabin }
      (raiseSighting n w (changePresence n p .aboard s.scl.voyage none true s))
  else s

/-! ### Folios (R57, R65, R70, R76) -/

/-- Write a folio. -/
def putFolio (n : Nat) (f : Folio) (s : State) : State := { s with fst := { s.fst with folios := s.fst.folios.set n f } }

/-- The NEAR test (R76). -/
def nearTest (n : Nat) (s : State) : State :=
  match s.fst.folios.get n with
  | some f =>
    if f.nearDue s.fst.band then raise .folioNearLimit (subj n) {} (putFolio n { f with near := true } s) else s
  | none => s

/-- A balance field of the folio is formed (R57): when it is limited, LIMITED is set, and BALANCE LIMITED raised when it was clear. -/
def showBalance (n : Nat) (s : State) : State :=
  match s.fst.folios.get n with
  | some f =>
    if isLimited f.balance ∧ f.limited = false then raise .balanceLimited (subj n) {} (putFolio n { f with limited := true } s) else s
  | none => s

/-- An OPEN folio over its limit becomes FROZEN (R70). -/
def Folio.frozenIfOver (f : Folio) : Folio := if f.state = .opened ∧ f.overLimit then { f with state := .frozen } else f

/-- A folio changed by a till posting: frozen, with FOLIO OVER LIMIT, when it is OPEN and over its limit (R70). -/
def postFromTill (n : Nat) (f : Folio) (s : State) : State :=
  let t := putFolio n f.frozenIfOver s
  if f.state = .opened ∧ f.overLimit then raise .folioOverLimit (subj n) {} t else t

/-- The day total with an amount added (R59, R60). -/
def Fst.addToDay (f : Fst) (amount : Int) : Fst :=
  if f.dayTotal + amount > Config.dayTotalBound then { f with dayTotal := Config.dayTotalBound, saturated := true }
  else if f.dayTotal + amount < -Config.dayTotalBound then { f with dayTotal := -Config.dayTotalBound, saturated := true }
  else { f with dayTotal := f.dayTotal + amount }

/-- Add an amount to the day total (R59). -/
def addToDay (amount : Int) (s : State) : State := { s with fst := s.fst.addToDay amount }

/-- The holds outstanding on every folio (R65). -/
def Fst.outstanding (f : Fst) : List Hold := f.folios.flatMap (fun e => e.2.holds)

/-- The hold number after a number (R65). -/
def nextHoldNumber (n : Nat) : Nat := if n ≥ 65535 then 1 else n + 1

/-- The first number from n on that no outstanding hold carries, within so many trials (R65). -/
def freeHoldNumber (used : List Nat) : (fuel : Nat) → (n : Nat) → Nat
  | 0, n => n
  | k + 1, n => if n ∈ used then freeHoldNumber used k (nextHoldNumber n) else n

/-- The number a new hold takes (R65). -/
def Fst.holdNumber (f : Fst) : Nat :=
  freeHoldNumber (f.outstanding.map (·.number)) f.outstanding.length f.nextHold

/-! ### Time -/

/-- Local time in seconds (R25, R31). -/
def Scl.localTime (c : Scl) : Int := c.voyage + 60 * c.offset

/-- The time of day of a local time, 0-86,399 (R25). -/
def timeOfDay (t : Int) : Nat := (t % 86400).toNat

/-- The earliest close instant for an hour that lies after a local time (R25, R35). -/
def nextCloseInstant (hour : Nat) (after : Int) : Int :=
  86400 * ((after - 3600 * hour) / 86400 + 1) + 3600 * hour

/-! ### Venues, tills, segments and stations -/

/-- Write a till record. -/
def putTill (n : Fin 128) (t : Till) (s : State) : State := { s with chu := { s.chu with tills := s.chu.tills.set n t } }

/-- Write a venue record. -/
def putVenue (n : Fin 64) (v : Venue) (s : State) : State := { s with chu := { s.chu with venues := s.chu.venues.set n v } }

/-- Write a segment controller. -/
def putLsc (i : Fin 8) (l : Lsc) (s : State) : State := { s with lscs := s.lscs.set i l }

/-- Write a station record. -/
def putStation (g : Fin 4) (t : Station) (s : State) : State := { s with pru := { s.pru with stations := s.pru.stations.set g t } }

/-- The number of a segment field, which its form holds to 0-7. -/
def segmentOf (n : Nat) : Fin 8 := ⟨n % 8, by omega⟩
/-- The number of a station field, held to 0-3. -/
def stationOf (n : Nat) : Fin 4 := ⟨n % 4, by omega⟩
/-- The number of a till field, held to 0-127. -/
def tillOf (n : Nat) : Fin 128 := ⟨n % 128, by omega⟩
/-- The number of a venue field, held to 0-63. -/
def venueOf (n : Nat) : Fin 64 := ⟨n % 64, by omega⟩

/-- Write a cabin record. -/
def putCabin (n : Nat) (c : Cabin) (s : State) : State := { s with cau := { s.cau with cabins := s.cau.cabins.set n c } }

/-- The cabin whose lock address is the segment and node given, with its number (R116). -/
def Cau.cabinAt (c : Cau) (segment : Fin 8) (node : Nat) : Option (Nat × Cabin) :=
  c.cabins.find? (fun e => e.2.segment == segment && e.2.node == node)

/-- The number of the cabin at a lock address, 0 when there is none. -/
def Cau.cabinNumberAt (c : Cau) (segment : Fin 8) (node : Nat) : Nat :=
  match c.cabinAt segment node with
  | some e => e.1
  | none => 0

/-- A lock address as a subject: segment × 512 + node (chapter 10.5). -/
def lockAddress (segment : Fin 8) (node : Nat) : Word32 := subj (segment.val * 512 + node)

end Sys2Proof.Machine
end

