-- ==== Sys2Proof/Machine/Boundary.lean ====
section
/-! DEFINITION. Second boundaries and their work (R26, R27): the staged settings, the zone shift, the day close, the holds that fall due, the
all-aboard timer and the station displays.

A boundary is delivered by TICK or TRIM. Its work stands in State.boundary until it has come about, stage by stage; a command of another kind
that comes meanwhile is taken after it (log 3). -/
namespace Sys2Proof.Machine

/-- A move of the voyage time, from a value excluded to a value included, passes over or lands on a multiple of a step (R27, R165). -/
def passes (before after step : Nat) : Bool := decide (before / step < after / step)

/-! ### The minute boundary (R96, R97) -/

/-- The venue with its staged pricing live, when it is pending (R96). -/
def Venue.minute (v : Venue) : Venue := if v.stagedPending then { v with live := v.staged, stagedPending := false } else v

/-- The staged settings become live (R96, R97). -/
def Chu.minute (c : Chu) : Chu :=
  { c with venues := mapVec Venue.minute c.venues, rateLive := if c.ratePending then c.rateStaged else c.rateLive, ratePending := false }

/-! ### The zone shift (R33) -/

/-- The pending zone shift's effective time has come (R33). -/
def State.zoneDue (s : State) : Bool :=
  match s.scl.shift with
  | some p => decide (p.effective ≤ s.scl.voyage)
  | none => false

/-- The pending zone shift takes effect (R33). The verdict-or-reason byte of its record is 0, the model's choice (log 53). -/
def takeZoneShift (s : State) : State :=
  match s.scl.shift with
  | some p =>
    raise .zoneShiftTaken (BitVec.ofInt 32 p.offset) {}
      (offerEvent { kind := .zoneShift, a := s.scl.offset, b := p.offset }
        { s with scl := { s.scl with offset := p.offset, shift := none } })
  | none => s

/-! ### The day close (R35, R36, R61) -/

/-- The 20-hour guard is past (R35). -/
def Scl.guardPast (c : Scl) : Bool :=
  match c.lastClose with
  | some l => decide (l.voyage + Config.closeGuard ≤ c.voyage)
  | none => true

/-- The day close is due (R35). -/
def State.closeDue (s : State) : Bool :=
  decide (s.slc.service = .serving)
  && (match s.scl.closePoint with
      | some p => decide (p ≤ s.scl.localTime)
      | none => false)
  && s.scl.guardPast

/-- The clock after a day close (R36). -/
def Scl.closed (c : Scl) : Scl :=
  { c with folioDay := min 65535 (c.folioDay + 1), lastClose := some { voyage := c.voyage, atLocal := c.localTime },
           closePoint := some (nextCloseInstant c.closeHour c.localTime), closeHeld := false }

/-- The DAY CLOSE record of the day that ends (R36, R61). -/
def State.dayCloseRecord (s : State) : Record :=
  { kind := .dayClose, flags := { saturated := s.fst.saturated }, a := (splitOf s.fst.dayTotal).low, b := s.scl.folioDay,
    aux := (splitOf s.fst.dayTotal).high }

/-- A due day close (R36): made when its record is admitted, held otherwise. Close held then stays yes until a close is made, START SERVICE, RESTART or power-on,
the model's choice where the close stops being due meanwhile (log 52). -/
def makeDayClose (s : State) : State :=
  match offerMoney s.dayCloseRecord s with
  | (some _, t) =>
    raise .dayClosed (subj s.scl.closed.folioDay) {}
      { t with scl := t.scl.closed, fst := { t.fst with dayTotal := 0, saturated := false } }
  | (none, t) => { t with scl := { t.scl with closeHeld := true } }

/-! ### Holds that fall due (R75) -/

/-- The hold has fallen due: at or beyond its lifetime now, or at an earlier boundary (R75, R84). -/
def Hold.dueAt (h : Hold) (now lifetime : Nat) : Bool := h.fallenDue || decide (h.openedAt + 3600 * lifetime ≤ now)

/-- The holds that have fallen due, folio by folio in ascending number and oldest first, as folio and hold numbers (R75). -/
def State.dueHolds (s : State) : List (Nat × Nat) :=
  s.fst.folios.flatMap (fun e => (e.2.holds.filter (fun h => h.dueAt s.scl.voyage s.fst.lifetime)).map (fun h => (e.1, h.number)))

/-- A hold's aux field: its number in the low 16 bits, its venue in the high 8 (R177). -/
def holdAux (number : Nat) (venue : Fin 64) : Int := (number + 65536 * venue.val : Nat)

/-- The folio without a hold number (R65). -/
def Folio.without (f : Folio) (number : Nat) : Folio := { f with holds := f.holds.filter (fun h => h.number ≠ number) }

/-- The hold of a number on the folio. -/
def Folio.hold (f : Folio) (number : Nat) : Option Hold := f.holds.find? (fun h => h.number == number)

/-- The folio with a hold marked as fallen due (R84). -/
def Folio.markDue (f : Folio) (number : Nat) : Folio :=
  { f with holds := f.holds.map (fun h => if h.number = number then { h with fallenDue := true } else h) }

/-- The TAB EXPIRE record of a hold (R75, R177). -/
def expireRecord (folio : Nat) (h : Hold) : Record :=
  { kind := .tabExpire, index := h.person, folio := folio, place := h.till.val, a := h.amount, aux := holdAux h.number h.venue }

/-- A hold that has fallen due expires, or is kept when its record is not admitted (R75). -/
def expireHold (folio number : Nat) (s : State) : State :=
  match s.fst.folios.get folio with
  | some f =>
    match f.hold number with
    | some h =>
      match offerMoney (expireRecord folio h) s with
      | (some _, t) => nearTest folio (putFolio folio (f.without number) t)
      | (none, t) => putFolio folio (f.markDue number) t
    | none => s
  | none => s

/-! ### The all-aboard timer (R161) -/

/-- The timer expires at this voyage time (R161). -/
def Timer.dueAt (t : Timer) (now : Nat) : Bool :=
  match t with
  | .armed d => decide (d ≤ now)
  | .running d => decide (d ≤ now)
  | _ => false

/-- The timer expires (R161): EXPIRING with walk position 1, nobody newly marked. -/
def Pru.expire (r : Pru) : Pru :=
  match r.timer with
  | .armed d => { r with timer := .expiring d 1, newlyMarked := 0 }
  | .running d => { r with timer := .expiring d 1, newlyMarked := 0 }
  | _ => r

/-- An ARMED timer becomes RUNNING (R161). -/
def Pru.arm (r : Pru) : Pru :=
  match r.timer with
  | .armed d => { r with timer := .running d }
  | _ => r

/-! ### Station displays (R165) -/

/-- The minutes to the deadline (R165): whole minutes to a deadline ahead, held at 999, when the timer is RUNNING, and absent otherwise. For a
deadline already passed, which a SET ALL ABOARD can leave until the next boundary, the spec states no value: a free one (log 29). -/
def State.minutesLeft (s : State) : Option Nat :=
  match s.pru.timer with
  | .running d => if s.scl.voyage ≤ d then some (min 999 ((d - s.scl.voyage) / 60)) else some s.freeValue
  | _ => none

/-- The timer is RUNNING towards a deadline that has passed (log 29). -/
def State.deadlinePassed (s : State) : Bool :=
  match s.pru.timer with
  | .running d => decide (d < s.scl.voyage)
  | _ => false

/-- The values of a COUNTS frame formed now (R157, R165). -/
def State.countsFrame (s : State) : Counts :=
  let g (p : Presence) := s.pru.count .guest p + s.pru.count .child p + s.pru.count .visitor p
  let t := timeOfDay s.scl.localTime
  { guestsAboard := g .aboard, crewAboard := s.pru.count .crew .aboard, guestsAshore := g .ashore, crewAshore := s.pru.count .crew .ashore,
    minutes := s.minutesLeft, hour := t / 3600, minute := t / 60 % 60 }

/-- The station is sent a COUNTS frame at this boundary (R165). -/
def Station.callsFor (t : Station) (before after : Nat) (c : Counts) : Bool :=
  t.attached != .detached
  && (match t.frequency with
      | .off => false
      | .every30 => passes before after 30
      | .onChange => t.lastShown != some c)

/-- Send a station its COUNTS frame when its display calls for one (R165). -/
def showCounts (before : Nat) (c : Counts) (g : Fin 4) (s : State) : State :=
  if s.pru.stations[g].callsFor before s.scl.voyage c then
    putStation g { s.pru.stations[g] with lastShown := some c } (send (.station g) (.counts c) s)
  else s

/-- The displays of a boundary, station by station (R165). -/
def showAll (before : Nat) (s : State) : State :=
  let c := s.countsFrame
  showCounts before c 3 (showCounts before c 2 (showCounts before c 1 (showCounts before c 0 s)))

/-! ### The stages of a boundary -/

/-- The boundary's work is done but for arming the timer and the displays (R161, R165). -/
def finishBoundary (before : Nat) (s : State) : State :=
  { showAll before { s with pru := s.pru.arm } with boundary := none }

/-- The boundary has come to the timer: it waits for ALL_ABOARD_EXPIRY when the timer expires at it, and is finished otherwise. -/
def reachTimer (before : Nat) (s : State) : State :=
  if s.pru.timer.dueAt s.scl.voyage then { s with boundary := some { before := before, stage := .timer } }
  else finishBoundary before s

/-- The boundary has come to the holds, with these still to expire. -/
def reachHolds (before : Nat) (due : List (Nat × Nat)) (s : State) : State :=
  match due with
  | [] => reachTimer before s
  | _ => { s with boundary := some { before := before, stage := .holds due } }

/-- The boundary has come to the day close: it waits for DAY_CLOSE when the close is due (R35). A held close that is due no more, a zone shift having set local
time back, is not tried, and close held stays yes (log 52). -/
def reachClose (before : Nat) (s : State) : State :=
  if s.closeDue then { s with boundary := some { before := before, stage := .close } }
  else reachHolds before s.dueHolds s

/-- The boundary begins: it waits for ZONE_SHIFT_TAKEN when a shift is due (R33). -/
def reachZone (before : Nat) (s : State) : State :=
  if s.zoneDue then { s with boundary := some { before := before, stage := .zone } }
  else reachClose before s

/-- The zone shift of a boundary comes about, and the boundary goes on to the day close. -/
def passZone (before : Nat) (s : State) : State := reachClose before (takeZoneShift s)

/-- The day close of a boundary comes about, and the boundary goes on to the holds. -/
def passClose (before : Nat) (s : State) : State :=
  let t := makeDayClose s
  reachHolds before t.dueHolds t

/-- The first hold of a boundary expires, and the boundary goes on. -/
def passHold (before : Nat) (due : List (Nat × Nat)) (s : State) : State :=
  match due with
  | [] => reachTimer before s
  | d :: rest => reachHolds before rest (expireHold d.1 d.2 s)

/-- The timer of a boundary expires, and the boundary ends with the displays (R161, R165). -/
def passTimer (before : Nat) (s : State) : State := finishBoundary before { s with pru := s.pru.expire }

/-- Bring the outstanding boundary past its zone shift. -/
def settleZone (s : State) : State :=
  match s.boundary with
  | some b =>
    match b.stage with
    | .zone => passZone b.before s
    | _ => s
  | none => s

/-- Bring the outstanding boundary past its day close. -/
def settleClose (s : State) : State :=
  let t := settleZone s
  match t.boundary with
  | some b =>
    match b.stage with
    | .close => passClose b.before t
    | _ => t
  | none => t

/-- Bring the outstanding boundary past its holds. -/
def settleHolds (s : State) : State :=
  let t := settleClose s
  match t.boundary with
  | some b =>
    match b.stage with
    | .holds due => reachTimer b.before (due.foldl (fun u d => expireHold d.1 d.2 u) t)
    | _ => t
  | none => t

/-- Bring the outstanding boundary to its end (log 3). -/
def settle (s : State) : State :=
  let t := settleHolds s
  match t.boundary with
  | some b =>
    match b.stage with
    | .timer => passTimer b.before t
    | _ => t
  | none => t

/-- A second boundary that carries voyage time from a value to a value (R26, R27): the minute's settings become live and the rest of its work
begins. -/
def deliverBoundary (before after : Nat) (s : State) : State :=
  let t := { s with scl := { s.scl with voyage := after } }
  let u := if passes before after 60 then { t with chu := t.chu.minute } else t
  reachZone before u

end Sys2Proof.Machine
end

