-- ==== Sys2Proof/Machine/Exchange.lean ====
section
/-! DEFINITION. How a service-link request is judged, executed and answered (R188-R191). -/
namespace Sys2Proof.Machine

/-- The outcome of every command: a next state. -/
abbrev Out := Host.Outcome State Fault Refusal

/-- A reply's status and further fields. -/
structure Answer where
  status  : Status
  payload : Payload := .nothing
deriving DecidableEq, Repr

/-- Form a reply frame (R188): the request's kind with its top bit set, its tag, the status and the further fields. -/
def sendReply (code tag : Byte) (a : Answer) (ofExchange : Bool) (s : State) : State :=
  send .service (.reply { kind := code ||| 0x80, tag := tag, status := a.status, payload := a.payload, ofExchange := ofExchange }) s

/-- A frame has been received on a port, which hunts again (R185); the work of an outstanding boundary has come first (log 3). -/
def received (p : Port) (s : State) : State := setRx p .hunting (settle s)

/-- Open an exchange, execute the request at its owner, and form its reply (R189). All of it is the one event of the acceptance, the model's choice where R189 lets a
request wait at its owner with the exchange open (log 57); the exchange then stays open until the reply has been transmitted. -/
def execute (code tag : Byte) (own : State → Answer × State) (s : State) : State :=
  sendReply code tag (own s).1 true { (own s).2 with slc := { (own s).2.slc with exchange := true } }

/-- Judge the fields of a request (R190 test 4): each field alone first, in order, and then those judged together. A request with faults of both kinds is so answered
with the index of the field that is at fault alone, the model's choice (log 50). -/
def judgeFields (fields : List Field) (cross : Values → Option Nat) (body : List Byte) : Except Nat Values :=
  match decodeFields fields body with
  | .error i => .error i
  | .ok v =>
    match cross v with
    | some i => .error i
    | none => .ok v

/-- The service link can take a request that belongs to no transfer: no exchange and no transfer is open (R190 test 3). -/
def State.linkFree (s : State) : Bool := !s.slc.exchange && s.slc.transfer.isNone

/-- A service-link request that belongs to no transfer, judged by R190 and executed by its owner. -/
def hostRequest (code : Byte) (fields : List Field) (cross : Values → Option Nat) (own : Values → State → Answer × State)
    (tag : Byte) (body : List Byte) (s : State) : State :=
  let t := received .service s
  if t.linkFree then
    match judgeFields fields cross body with
    | .error i => sendReply code tag { status := .malformed, payload := .field i } false t
    | .ok v => execute code tag (own v) t
  else sendReply code tag { status := .busy } false t

/-- A request answered DONE with fields read in one event; nothing changes. -/
def reading (f : State → Payload) (_ : Values) (s : State) : Answer × State := ({ status := .done, payload := f s }, s)

/-- A request answered with a status alone; nothing changes. -/
def refuse (status : Status) (s : State) : Answer × State := ({ status := status }, s)

end Sys2Proof.Machine
end

