-- ==== Sys2Proof/Machine/Clock.lean ====
section
/-! DEFINITION. Ship time (chapter 2): ticks, boundaries and the clock requests. -/
namespace Sys2Proof.Machine

/-- TICK (R26): voyage time rises by one as a second boundary, or the trim hold absorbs the tick, or voyage time stands at its end. -/
def execTick (s : State) : Out :=
  let t := settle s
  .next (if t.scl.trimHold > 0 then { t with scl := { t.scl with trimHold := t.scl.trimHold - 1 } }
    else if t.scl.voyage < Config.maxVoyage then deliverBoundary t.scl.voyage (t.scl.voyage + 1) t
    else t)

/-- ZONE_SHIFT_TAKEN (R33): the zone shift of the boundary in hand. -/
def execZoneShiftTaken (s : State) : Out := .next (settleZone s)

/-- DAY_CLOSE (R36): the day close of the boundary in hand. -/
def execDayClose (s : State) : Out := .next (settleClose s)

/-- HOLD_EXPIRY (R75): the next hold of the boundary in hand. -/
def execHoldExpiry (s : State) : Out :=
  let t := settleClose s
  .next (match t.boundary with
    | some b =>
      match b.stage with
      | .holds due => passHold b.before due t
      | _ => t
    | none => t)

/-- ALL_ABOARD_EXPIRY (R161): the timer's expiry at the boundary in hand. -/
def execAllAboardExpiry (s : State) : Out := .next (settle s)

/-- SET TIME at the SCL (R28). -/
def setTime (v : Values) (s : State) : Answer × State :=
  if s.slc.service = .serving then refuse .notNow s
  else
    ({ status := .done },
     { s with scl := { s.scl with voyage := v.nat 1, offset := v.int 2, trimHold := 0, shift := none, lastClose := none } })

/-- SET_TIME (R28). -/
def execSetTime (tag : Byte) (body : List Byte) (s : State) : Out :=
  .next (hostRequest 0x10 setTimeFields noCross setTime tag body s)

/-- TRIM's reply: the voyage time and the trim hold after the request (R29). -/
def trimDone (s : State) : Answer × State := ({ status := .done, payload := .trimmed s.scl.voyage s.scl.trimHold }, s)

/-- A TRIM of +k (R29). -/
def trimForward (k : Nat) (s : State) : Answer × State :=
  if k ≤ s.scl.trimHold then trimDone { s with scl := { s.scl with trimHold := s.scl.trimHold - k } }
  else
    let m := k - s.scl.trimHold
    if s.scl.voyage + m > Config.maxVoyage then refuse .range s
    else trimDone (deliverBoundary s.scl.voyage (s.scl.voyage + m) { s with scl := { s.scl with trimHold := 0 } })

/-- A TRIM of −k (R30). -/
def trimBack (k : Nat) (s : State) : Answer × State :=
  if s.scl.trimHold + k > 60 then refuse .range s
  else trimDone { s with scl := { s.scl with trimHold := s.scl.trimHold + k } }

/-- TRIM at the SCL (R29, R30). -/
def trim (v : Values) (s : State) : Answer × State :=
  if v.int 1 > 0 then trimForward (v.int 1).toNat s
  else if v.int 1 < 0 then trimBack (-v.int 1).toNat s
  else trimDone s

/-- TRIM (R29, R30). -/
def execTrim (tag : Byte) (body : List Byte) (s : State) : Out :=
  .next (hostRequest 0x11 trimFields noCross trim tag body s)

/-- ZONE SHIFT at the SCL (R32). -/
def zoneShift (v : Values) (s : State) : Answer × State :=
  ({ status := .done }, { s with scl := { s.scl with shift := some { offset := v.int 1, effective := v.nat 2 } } })

/-- ZONE_SHIFT (R32). -/
def execZoneShift (tag : Byte) (body : List Byte) (s : State) : Out :=
  .next (hostRequest 0x12 zoneShiftFields noCross zoneShift tag body s)

/-- CANCEL ZONE SHIFT at the SCL (R34). -/
def cancelZoneShift (_ : Values) (s : State) : Answer × State :=
  if s.scl.shift.isSome then ({ status := .done }, { s with scl := { s.scl with shift := none } }) else refuse .notFound s

/-- CANCEL_ZONE_SHIFT (R34). -/
def execCancelZoneShift (tag : Byte) (body : List Byte) (s : State) : Out :=
  .next (hostRequest 0x13 [] noCross cancelZoneShift tag body s)

/-- SET DAY CLOSE HOUR at the SCL (R38). -/
def setDayCloseHour (v : Values) (s : State) : Answer × State :=
  if s.slc.service = .serving then refuse .notNow s
  else ({ status := .done }, { s with scl := { s.scl with closeHour := v.nat 1 } })

/-- SET_DAY_CLOSE_HOUR (R38). -/
def execSetDayCloseHour (tag : Byte) (body : List Byte) (s : State) : Out :=
  .next (hostRequest 0x14 setDayCloseHourFields noCross setDayCloseHour tag body s)

/-- What QUERY TIME carries (R39): the clock, and the local time of day as hours, minutes and seconds. -/
def clockReading (s : State) : Payload :=
  let t := timeOfDay s.scl.localTime
  .clock s.scl (t / 3600) (t / 60 % 60) (t % 60)

/-- QUERY_TIME (R39). -/
def execQueryTime (tag : Byte) (body : List Byte) (s : State) : Out :=
  .next (hostRequest 0x15 [] noCross (reading clockReading) tag body s)

/-- QUERY_DAY_TOTAL (R62). -/
def execQueryDayTotal (tag : Byte) (body : List Byte) (s : State) : Out :=
  .next (hostRequest 0x16 [] noCross (reading (fun t => .dayTotal t.scl.folioDay (splitOf t.fst.dayTotal) t.fst.saturated)) tag body s)

end Sys2Proof.Machine
end

