-- ==== Sys2Proof/Machine/Gangways.lean ====
section
/-! DEFINITION. Gangways and presence (chapter 8): station lines, fetches, passages, the all-aboard walk and the presence requests. -/
namespace Sys2Proof.Machine

/-- The station of a number. -/
def State.station (s : State) (g : Fin 4) : Station := s.pru.stations[g]

/-- A station as a subject. -/
def stationSubject (g : Fin 4) : Word32 := subj g.val

/-! ### The fetch (R149, R150) -/

/-- No fetch of the station is open. -/
def Station.idle (t : Station) : Bool := decide (t.fetch = .none)

/-- A fetch starts (R149): SHORT SEEN is cleared, FETCH is sent, the fetch is open. -/
def startFetch (g : Fin 4) (s : State) : State :=
  send (.station g) .fetch (putStation g { s.station g with shortSeen := false, fetch := .waiting .toBegin } s)

/-- The conditions of a fetch (R149). -/
def State.wantsFetch (s : State) (g : Fin 4) : Bool :=
  decide (s.slc.service = .serving) && decide ((s.station g).attached = .attached) && (s.station g).shortSeen && (s.station g).idle

/-- Judge whether a fetch of the station starts (R149). -/
def judgeFetch (g : Fin 4) (s : State) : State := if s.wantsFetch g then startFetch g s else s

/-- The station when a fetch of it has failed (R150). -/
def Station.failed (t : Station) : Station :=
  let n := min 3 (t.failures + 1)
  let silent := t.attached = .silent ∨ (t.attached = .attached ∧ n = 3)
  { t with failures := n, fetch := .none, attached := if silent then .silent else t.attached,
           retryMs := if silent then some Config.retryMs else t.retryMs }

/-- A fetch fails (R150): an ATTACHED station becomes SILENT at the third failure, with STATION SILENT. -/
def failFetch (g : Fin 4) (s : State) : State :=
  let t := s.station g
  let u := putStation g t.failed s
  if t.attached = .attached ∧ t.failed.attached = .silent then raise .stationSilent (stationSubject g) {} u else u

/-- The end of a fetch by failure, after which a fetch is judged (R149, R150). -/
def fetchFails (g : Fin 4) (s : State) : State := judgeFetch g (failFetch g s)

/-- The receiver of a field port whose reply window has gone with its turn or fetch: a frame that is coming began within no window that is open
later (R136, R150). -/
def Receiver.windowless (r : Receiver) : Receiver :=
  match r with
  | .collecting _ bytes => .collecting false bytes
  | .hunting => .hunting

/-- The reply window of a station is gone with its fetch: a frame that is coming is no reply to a later fetch (R150). -/
def dropWindow (g : Fin 4) (s : State) : State := setRx (.station g) (s.rxOf (.station g)).windowless s

/-! ### Station lines (R147) -/

/-- STATION_LINE_FALL (R147): a low period begins. -/
def execStationLineFall (g : Fin 4) (s : State) : Out :=
  let t := settle s
  .next (putStation g { t.station g with lineHigh := false } t)

/-- REQUEST_PULSE (R147 step 1): a rise after a low period shorter than the short-pulse limit. -/
def execRequestPulse (g : Fin 4) (lowMs : Nat) (s : State) : Out :=
  let t := settle s
  .next (if (t.station g).attached ≠ .detached ∧ lowMs < (t.station g).pulseLimit then
      judgeFetch g (putStation g { t.station g with lineHigh := true, shortSeen := true } t)
    else t)

/-- The station after a restart pulse (R147 step 2). -/
def Station.restartPulsed (t : Station) : Station :=
  { t with lineHigh := true, longSeen := true, expected := none, failures := 0,
           attached := if t.attached = .silent then .attached else t.attached,
           retryMs := if t.attached = .silent then none else t.retryMs, lastShown := none }

/-- RESTART_PULSE (R147 step 2): a rise after a low period of at least the short-pulse limit and less than 1,000 ms. -/
def execRestartPulse (g : Fin 4) (lowMs : Nat) (s : State) : Out :=
  let t := settle s
  .next (if (t.station g).attached ≠ .detached ∧ (t.station g).pulseLimit ≤ lowMs ∧ lowMs < 1000 then
      judgeFetch g (raise .stationRestart (stationSubject g) {} (putStation g (t.station g).restartPulsed t))
    else t)

/-- The station once its line has been low for 1,000 ms (R147 step 3). -/
def Station.detachedNow (t : Station) : Station := { t with lineHigh := false, attached := .detached, shortSeen := false, retryMs := none }

/-- DETACH (R147 step 3): a fetch whose reply has not been accepted fails. -/
def execDetach (g : Fin 4) (s : State) : Out :=
  let t := settle s
  .next (if (t.station g).attached = .detached then t
    else
      let u := raise .stationDetached (stationSubject g) {} (putStation g (t.station g).detachedNow t)
      match (u.station g).fetch with
      | .waiting _ => fetchFails g (dropWindow g u)
      | _ => u)

/-- ATTACH (R147 step 4). -/
def execAttach (g : Fin 4) (s : State) : Out :=
  let t := settle s
  .next (if (t.station g).attached = .detached then
      putStation g { t.station g with lineHigh := true, attached := .attached, expected := none, failures := 0, lastShown := none } t
    else t)

/-- RETRY_FETCH (R149): the timebase reaches a SILENT station's retry time with no fetch open. -/
def execRetryFetch (g : Fin 4) (s : State) : Out :=
  let t := settle s
  .next (if (t.station g).attached = .silent ∧ (t.station g).retryMs.isSome ∧ (t.station g).idle then startFetch g t else t)

/-! ### Replies -/

/-- A frame completed on a station link began within the fetch window (R150): by its START_BYTE event, or, without one, now (log 6). -/
def begunInFetch (g : Fin 4) (w : Window) (s : State) : Bool :=
  match s.rxOf (.station g) with
  | .collecting inWindow _ => inWindow
  | .hunting => w == .running

/-- A frame on a station link is discarded (R150): the receiver hunts, and a fetch whose window ended while the frame was coming now fails. -/
def discardOnStation (g : Fin 4) (s : State) : State :=
  let t := setRx (.station g) .hunting s
  match (t.station g).fetch with
  | .waiting .over => fetchFails g t
  | _ => t

/-- The end of a fetch whose reply was accepted (R149, R151): VERDICTS is sent unless the station is DETACHED. -/
def endFetch (g : Fin 4) (done : List (Word16 × PassageVerdict)) (s : State) : State :=
  let t := if (s.station g).attached = .detached then s else send (.station g) (.verdicts done) s
  judgeFetch g (putStation g { t.station g with fetch := .none } t)

/-- The acceptance of a PASSAGES reply (R150): failures 0, no retry time, a SILENT station ATTACHED; its records are to be judged, or VERDICTS
goes at once when it holds none. -/
def acceptPassages (g : Fin 4) (records : List Passage) (s : State) : State :=
  let t := s.station g
  let u := { t with failures := 0, retryMs := none, attached := if t.attached = .silent then .attached else t.attached }
  match records with
  | [] => endFetch g [] (putStation g u s)
  | _ => putStation g { u with fetch := .judging records [] } s

/-- PASSAGES (R150). -/
def execPassages (g : Fin 4) (body : List Byte) (s : State) : Out :=
  let t := settle s
  .next (match (t.station g).fetch, passagesOf body with
    | .waiting w, some records =>
      if begunInFetch g w t then acceptPassages g records (setRx (.station g) .hunting t) else discardOnStation g t
    | _, _ => discardOnStation g t)

/-- FETCH_FAILURE (R150): the end of the fetch window, unless a frame that began within it is still coming (log 9). -/
def execFetchFailure (g : Fin 4) (s : State) : Out :=
  let t := settle s
  .next (match (t.station g).fetch with
    | .waiting .running =>
      match t.rxOf (.station g) with
      | .collecting true _ => putStation g { t.station g with fetch := .waiting .over } t
      | _ => fetchFails g t
    | _ => t)

/-! ### Judging a passage (R152-R155) -/

/-- The tallies brought to the folio day, and one passage counted (R154, R167). -/
def Station.tallied (t : Station) (day : Nat) (inward : Bool) : Station :=
  let b := if t.tallyDay = some day then t else { t with tallyDay := some day, tallyIn := 0, tallyOut := 0 }
  if inward then { b with tallyIn := min 65535 (b.tallyIn + 1) } else { b with tallyOut := min 65535 (b.tallyOut + 1) }

/-- The presence that a passage leads to, or the anomaly's reason code (R154, R155, R176). -/
def transition (p : Presence) (inward final : Bool) : Except Nat Presence :=
  match p, inward with
  | .expected, true => .ok .aboard
  | .expected, false => .error 1
  | .aboard, true => .error 2
  | .aboard, false => if final then .ok .departed else .ok .ashore
  | .ashore, true => .ok .aboard
  | .ashore, false => .error 3
  | .departed, true => .ok .aboard
  | .departed, false => .error 3

/-- A direction as a record states it: 0 OUT, 1 IN (R154). -/
def directionCode (inward : Bool) : Int := if inward then 1 else 0

/-- The PASSAGE record (R154). -/
def passageRecord (g : Fin 4) (r : Passage) (f : Found) (after : Presence) : Record :=
  { kind := .passage, flags := { irregular := f.person.att.irregular }, index := f.card.person, serial := r.serial,
    folio := f.person.ident.folio, place := g.val, reason := 1, a := directionCode r.inward, b := after.number, c := r.age,
    aux := r.sequence.toNat }

/-- The ANOMALY record of a passage (R155). -/
def anomalyRecord (g : Fin 4) (r : Passage) (f : Found) (reason : Nat) : Record :=
  { kind := .anomaly, flags := { irregular := f.person.att.irregular }, index := f.card.person, serial := r.serial,
    folio := f.person.ident.folio, place := g.val, reason := reason, a := 0, b := f.person.att.presence.number, c := r.age,
    aux := r.sequence.toNat }

/-- A passage that changes presence (R154). -/
def movePassage (g : Fin 4) (r : Passage) (f : Found) (after : Presence) (s : State) : State :=
  let t := changePresence f.card.person f.person after (s.scl.voyage - r.age) (some g) false s
  offerEvent (passageRecord g r f after) (putStation g ((t.station g).tallied t.scl.folioDay r.inward) t)

/-- The mode refuses the direction (R153 step 1). -/
def modeRefusal (m : StationMode) (inward : Bool) : Option PassageVerdict :=
  match m, inward with
  | .closed, _ => some .refusedClosed
  | .outbound, true => some .refusedWrongWay
  | .inbound, false => some .refusedWrongWay
  | _, _ => none

/-- The judgement of a taken record by its card and presence (R153 steps 2 and 3, R154, R155). -/
def judgeCard (g : Fin 4) (r : Passage) (s : State) : PassageVerdict × State :=
  match lookup r.serial s with
  | none => (.refusedUnknown, s)
  | some f =>
    match f.card.state with
    | .lost => (.refusedLost, raise .lostCardPresented r.serial (detail 3 g.val) s)
    | .departed => (.refusedDeparted, raise .passageRefused r.serial (detail g.val) s)
    | .withdrawn => (.refusedUnknown, s)
    | _ =>
      match transition f.person.att.presence r.inward f.person.att.final with
      | .ok after => (.accepted, movePassage g r f after s)
      | .error reason => (.acceptedWithNote, offerEvent (anomalyRecord g r f reason) s)

/-- The distance of a record's sequence beyond the expected one (R152). -/
def gapOf (expected : Option Word16) (sequence : Word16) : Nat :=
  match expected with
  | none => 0
  | some e => (sequence - e).toNat

/-- A record is taken (R152): the expected sequence follows it, after SEQUENCE GAP when it lies ahead. -/
def takeSequence (g : Fin 4) (r : Passage) (d : Nat) (s : State) : State :=
  let t := if d = 0 then s else raise .sequenceGap (stationSubject g) (detail d) s
  putStation g { t.station g with expected := some (r.sequence + 1) } t

/-- One record judged: sequence, mode, card, presence (R152-R155). -/
def judgeRecord (g : Fin 4) (r : Passage) (s : State) : PassageVerdict × State :=
  let d := gapOf (s.station g).expected r.sequence
  if d ≥ 32768 then (.duplicate, s)
  else
    let t := takeSequence g r d s
    match modeRefusal (t.station g).mode r.inward with
    | some v => (v, t)
    | none => judgeCard g r t

/-- JUDGING_A_PASSAGE (R151): the next record of the accepted reply; the last one ends the fetch. -/
def execJudgingAPassage (g : Fin 4) (s : State) : Out :=
  let t := settle s
  .next (match (t.station g).fetch with
    | .judging (r :: rest) done =>
      let j := judgeRecord g r t
      let given := done ++ [(r.sequence, j.1)]
      match rest with
      | [] => endFetch g given j.2
      | _ => putStation g { j.2.station g with fetch := .judging rest given } j.2
    | _ => t)

/-! ### Station requests (R166) -/

/-- SET STATION at the PRU (R166). -/
def setStation (v : Values) (s : State) : Answer × State :=
  let g := stationOf (v.nat 1)
  let t := s.station g
  ({ status := .done, payload := .stationSettings t.mode t.pulseLimit t.frequency },
   putStation g
     { t with mode := match v.optNat 2 with
                      | some m => stationModeOf m
                      | none => t.mode,
              pulseLimit := (v.optNat 3).getD t.pulseLimit,
              frequency := match v.optNat 4 with
                           | some f => frequencyOf f
                           | none => t.frequency,
              lastShown := if (v.optNat 4).isSome then none else t.lastShown } s)

/-- SET_STATION (R166). -/
def execSetStation (tag : Byte) (body : List Byte) (s : State) : Out :=
  .next (hostRequest 0x50 setStationFields noCross setStation tag body s)

/-- The station as QUERY STATION reports it: tallies 0 when the tally day is not the current folio day (R166, R167). -/
def Station.reported (t : Station) (day : Nat) : Station :=
  if t.tallyDay = some day then t else { t with tallyIn := 0, tallyOut := 0 }

/-- QUERY STATION at the PRU (R166): it clears LONG SEEN and reports it as it stood. -/
def queryStation (v : Values) (s : State) : Answer × State :=
  let g := stationOf (v.nat 1)
  ({ status := .done, payload := .station ((s.station g).reported s.scl.folioDay).reading }, putStation g { s.station g with longSeen := false } s)

/-- QUERY_STATION (R166). -/
def execQueryStation (tag : Byte) (body : List Byte) (s : State) : Out :=
  .next (hostRequest 0x51 queryStationFields noCross queryStation tag body s)

/-! ### Presence requests (R168, R169) -/

/-- A request that names a person in use, NOT FOUND otherwise (chapter 8.8). -/
def withPerson (n : Nat) (act : Person → State → Answer × State) (s : State) : Answer × State :=
  match s.persons.get n with
  | some p => act p s
  | none => refuse .notFound s

/-- A field that lists set, then clear, and may be absent. -/
def markOf (v : Values) (i : Nat) (now : Bool) : Bool :=
  match v.optNat i with
  | some x => decide (x = 0)
  | none => now

/-- The person with the fields given changed (R168). -/
def changedPerson (v : Values) (p : Person) : Person :=
  { p with spend := { p.spend with privilege := match v.optNat 2 with
                                                | some x => privilegeOf x
                                                | none => p.spend.privilege,
                                   allowance := (v.opt 3).getD p.spend.allowance,
                                   minor := markOf v 4 p.spend.minor },
           att := { p.att with final := markOf v 5 p.att.final } }

/-- SET PERSON at the CHU and the PRU (R168). -/
def setPerson (v : Values) (s : State) : Answer × State :=
  withPerson (v.nat 1) (fun p t => ({ status := .done }, putPerson (v.nat 1) (changedPerson v p) t)) s

/-- SET_PERSON (R168). -/
def execSetPerson (tag : Byte) (body : List Byte) (s : State) : Out :=
  .next (hostRequest 0x52 setPersonFields noCross setPerson tag body s)

/-- SET PRESENCE at the PRU (R169). -/
def setPresence (v : Values) (s : State) : Answer × State :=
  let after := presenceOf (v.nat 2)
  withPerson (v.nat 1) (fun p t =>
    ({ status := .done, payload := .presence p.att.presence },
     if p.att.presence = after then t else changePresence (v.nat 1) p after t.scl.voyage none false t)) s

/-- SET_PRESENCE (R169). -/
def execSetPresence (tag : Byte) (body : List Byte) (s : State) : Out :=
  .next (hostRequest 0x53 setPresenceFields noCross setPresence tag body s)

/-- The effective spent today that QUERY PERSON reports (R99, R169). -/
def Person.effectiveSpent (p : Person) (day : Nat) : Int := if p.spend.spendDay = some day then p.spend.spentToday else 0

/-- QUERY PERSON (R169). -/
def queryPerson (v : Values) (s : State) : Answer × State :=
  withPerson (v.nat 1) (fun p t => ({ status := .done, payload := .person p (p.effectiveSpent t.scl.folioDay) }, t)) s

/-- QUERY_PERSON (R169). -/
def execQueryPerson (tag : Byte) (body : List Byte) (s : State) : Out :=
  .next (hostRequest 0x54 queryPersonFields noCross queryPerson tag body s)

/-- QUERY COUNTS (R169); when the minutes are a free value, it has been used (log 29). -/
def queryCounts (_ : Values) (s : State) : Answer × State :=
  ({ status := .done,
     payload := .counts s.pru.counts.toList s.pru.missingCount s.pru.timer s.pru.newlyMarked s.minutesLeft },
   if s.deadlinePassed then useFree s else s)

/-- QUERY_COUNTS (R169). -/
def execQueryCounts (tag : Byte) (body : List Byte) (s : State) : Out :=
  .next (hostRequest 0x55 [] noCross queryCounts tag body s)

/-! ### The all-aboard timer (R160-R163) -/

/-- Set the timer. -/
def setTimer (t : Timer) (s : State) : State := { s with pru := { s.pru with timer := t } }

/-- SET ALL ABOARD at the PRU (R160). -/
def setAllAboard (v : Values) (s : State) : Answer × State :=
  match s.pru.timer with
  | .clear => ({ status := .done }, { s with pru := { s.pru with timer := .armed (v.nat 1), newlyMarked := 0 } })
  | .expired _ => ({ status := .done }, { s with pru := { s.pru with timer := .armed (v.nat 1), newlyMarked := 0 } })
  | .armed _ => ({ status := .done }, setTimer (.armed (v.nat 1)) s)
  | .running _ => ({ status := .done }, setTimer (.running (v.nat 1)) s)
  | .expiring _ _ => refuse .notNow s

/-- SET_ALL_ABOARD (R160). -/
def execSetAllAboard (tag : Byte) (body : List Byte) (s : State) : Out :=
  .next (hostRequest 0x56 setAllAboardFields noCross setAllAboard tag body s)

/-- CANCEL ALL ABOARD at the PRU (R160). -/
def cancelAllAboard (_ : Values) (s : State) : Answer × State :=
  match s.pru.timer with
  | .armed _ => ({ status := .done }, setTimer .clear s)
  | .running _ => ({ status := .done }, setTimer .clear s)
  | .clear => refuse .notFound s
  | _ => refuse .notNow s

/-- CANCEL_ALL_ABOARD (R160). -/
def execCancelAllAboard (tag : Byte) (body : List Byte) (s : State) : Out :=
  .next (hostRequest 0x57 [] noCross cancelAllAboard tag body s)

/-- CLEAR TIMER at the PRU (R160). -/
def clearTimer (_ : Values) (s : State) : Answer × State :=
  match s.pru.timer with
  | .expired _ => ({ status := .done }, setTimer .clear s)
  | .clear => ({ status := .done }, s)
  | _ => refuse .notNow s

/-- CLEAR_TIMER (R160). -/
def execClearTimer (tag : Byte) (body : List Byte) (s : State) : Out :=
  .next (hostRequest 0x58 [] noCross clearTimer tag body s)

/-- A person without the MISSING mark. -/
def Person.unmarked (p : Person) : Person := { p with att := { p.att with missing := false } }

/-- The walk of the timer is in progress. -/
def Timer.isExpiring : Timer → Bool
  | .expiring _ _ => true
  | _ => false

/-- CLEAR MISSING at the PRU (R163). -/
def clearMissing (_ : Values) (s : State) : Answer × State :=
  if s.pru.timer.isExpiring then refuse .notNow s
  else
    ({ status := .done, payload := .missingCount s.pru.missingCount },
     { s with persons := s.persons.mapVals Person.unmarked, pru := { s.pru with missingCount := 0 } })

/-- CLEAR_MISSING (R163). -/
def execClearMissing (tag : Byte) (body : List Byte) (s : State) : Out :=
  .next (hostRequest 0x59 [] noCross clearMissing tag body s)

/-- The walk marks a person ASHORE and not yet MISSING (R162). -/
def markMissing (n : Nat) (s : State) : State :=
  match s.persons.get n with
  | some p =>
    if p.att.presence = .ashore ∧ p.att.missing = false then
      { putPerson n { p with att := { p.att with missing := true } } s with
        pru := { s.pru with missingCount := s.pru.missingCount + 1, newlyMarked := s.pru.newlyMarked + 1 } }
    else s
  | none => s

/-- The walk ends (R162): EXPIRED, ALL ABOARD EXPIRED, and an ALL ABOARD record offered. Its verdict-or-reason byte is 0, the model's choice (log 53). -/
def endWalk (deadline : Nat) (s : State) : State :=
  offerEvent { kind := .allAboard, a := s.pru.newlyMarked, aux := s.pru.missingCount }
    (raise .allAboardExpired 0 (detail s.pru.missingCount) (setTimer (.expired deadline) s))

/-- WALK_STEP (R162): one person number; after person 8,000 the walk ends. -/
def execWalkStep (s : State) : Out :=
  let t := settle s
  .next (match t.pru.timer with
    | .expiring deadline walk =>
      let u := markMissing walk t
      if walk + 1 > Config.persons then endWalk deadline u else setTimer (.expiring deadline (walk + 1)) u
    | _ => t)

end Sys2Proof.Machine
end

