-- ==== Sys2Proof/Machine/Money.lean ====
section
/-! DEFINITION. Money arithmetic (chapter 3): the pricing of charge lines on exact integers. -/
namespace Sys2Proof.Machine

/-- Round an exact integer by a divisor (R44): Q the floor of the quotient, M the remainder, H half the divisor. -/
def roundBy (rounding : Rounding) (x d : Int) : Int :=
  let q := x / d
  let m := x % d
  if m < d / 2 then q
  else if d / 2 < m then q + 1
  else
    match rounding with
    | .tiesUp => q + 1
    | .halfEven => if q % 2 = 0 then q else q + 1

/-- Stage 1, the line net (R45). -/
def Line.net (l : Line) : Int := l.price * l.quantity

/-- Stage 2, conversion to cents (R46). -/
def Line.base (l : Line) (p : Pricing) (rate : Nat) : Int :=
  match p.currency with
  | .base => l.net
  | .port => roundBy p.rounding (l.net * rate) Config.scale24

/-- Stage 3, gratuity on a base amount (R47). -/
def Line.gratuity (l : Line) (p : Pricing) (b : Int) : Int :=
  if l.noGrat ∨ p.gratuity = 0 then 0 else roundBy p.rounding (b * p.gratuity) 10000

/-- Stage 4, tax on a base amount and its gratuity (R48). -/
def Line.tax (l : Line) (p : Pricing) (b g : Int) : Int :=
  if l.noTax then 0 else roundBy p.rounding ((if p.taxOnGratuity then b + g else b) * p.tax) 10000

/-- The amounts of a priced line (R49). -/
structure LineAmounts where
  b : Int
  g : Int
  t : Int
deriving DecidableEq, Repr

/-- Stage 5, the line total (R49). -/
def LineAmounts.l (a : LineAmounts) : Int := a.b + a.g + a.t

/-- Stages 1 to 5 of a line. -/
def Line.amounts (l : Line) (p : Pricing) (rate : Nat) : LineAmounts :=
  let b := l.base p rate
  let g := l.gratuity p b
  { b := b, g := g, t := l.tax p b g }

/-- The size exceeds what a money field carries (R49, R50). -/
def outOfRange (x : Int) : Bool := decide (x > Config.maxMoney) || decide (x < -Config.maxMoney)

/-- An AMOUNT RANGE decline's detail: the line index, 0 for a sum, and the quantity (R53). -/
structure RangeFault where
  line     : Nat
  quantity : Quantity
deriving DecidableEq, Repr

/-- Stage 6, line by line from an index on: every line's amounts, or the first line that fails (R49). -/
def priceLines (p : Pricing) (rate : Nat) : (index : Nat) → List Line → Except RangeFault (List LineAmounts)
  | _, [] => .ok []
  | i, l :: ls =>
    let a := l.amounts p rate
    if outOfRange a.b then .error ⟨i, .b⟩
    else if outOfRange a.l then .error ⟨i, .l⟩
    else
      match priceLines p rate (i + 1) ls with
      | .error f => .error f
      | .ok as => .ok (a :: as)

/-- The sum of an amount over the lines (R50). -/
def sumOf (f : LineAmounts → Int) (as : List LineAmounts) : Int := (as.map f).sum

/-- Stage 7, the charge range check: S, ΣB, ΣG, ΣT in this order (R50). -/
def sumCheck (as : List LineAmounts) : Except RangeFault Sums :=
  if outOfRange (sumOf LineAmounts.l as) then .error ⟨0, .s⟩
  else if outOfRange (sumOf LineAmounts.b as) then .error ⟨0, .sumB⟩
  else if outOfRange (sumOf LineAmounts.g as) then .error ⟨0, .sumG⟩
  else if outOfRange (sumOf LineAmounts.t as) then .error ⟨0, .sumT⟩
  else .ok { s := sumOf LineAmounts.l as, g := sumOf LineAmounts.g as, t := sumOf LineAmounts.t as }

/-- The pricing of a charge (R41). -/
def priceCharge (p : Pricing) (rate : Nat) (lines : List Line) : Except RangeFault Sums :=
  match priceLines p rate 1 lines with
  | .error f => .error f
  | .ok as => sumCheck as

/-- The pricing of a tab close: an S below 0 is out of range (R52). -/
def priceTab (p : Pricing) (rate : Nat) (lines : List Line) : Except RangeFault Sums :=
  match priceCharge p rate lines with
  | .error f => .error f
  | .ok sums => if sums.s < 0 then .error ⟨0, .s⟩ else .ok sums

end Sys2Proof.Machine
end

