-- ==== Sys2Proof/Machine/Tills.lean ====
section
/-! DEFINITION. Charging at the tills (chapter 5): till and venue requests, the takes and the settlements. -/
namespace Sys2Proof.Machine

/-! ### Till and venue requests -/

/-- The till of a number. -/
def State.till (s : State) (n : Fin 128) : Till := s.chu.tills[n]

/-- The venue of a number. -/
def State.venue (s : State) (n : Fin 64) : Venue := s.chu.venues[n]

/-- SET TILL at the CHU (R91). -/
def setTill (v : Values) (s : State) : Answer × State :=
  let n := tillOf (v.nat 1)
  if (s.till n).working.isSome then refuse .notNow s
  else ({ status := .done }, putTill n { Till.reset with venue := (v.optNat 3).map venueOf } s)

/-- SET_TILL (R91). -/
def execSetTill (tag : Byte) (body : List Byte) (s : State) : Out :=
  .next (hostRequest 0x30 setTillFields setTillCross setTill tag body s)

/-- SET VENUE at the CHU (R95): an absent presence-exempt is yes for SHORE DESK and no otherwise. -/
def setVenue (v : Values) (s : State) : Answer × State :=
  let n := venueOf (v.nat 1)
  let category := categoryOf (v.nat 3)
  let exempt := match v.opt 4 with
    | some x => decide (x = 1)
    | none => decide (category = .shoreDesk)
  ({ status := .done },
   putVenue n { s.venue n with isOpen := decide (v.nat 2 = 0), category := category, exempt := exempt, returns := v.yes 5 } s)

/-- SET_VENUE (R95). -/
def execSetVenue (tag : Byte) (body : List Byte) (s : State) : Out :=
  .next (hostRequest 0x31 setVenueFields noCross setVenue tag body s)

/-- The pricing that STAGE VENUE PRICING gives (R96). -/
def pricingOf (v : Values) : Pricing :=
  { currency := if v.nat 2 = 0 then .base else .port, gratuity := v.nat 3, tax := v.nat 4, taxOnGratuity := v.yes 5,
    rounding := if v.nat 6 = 0 then .halfEven else .tiesUp }

/-- STAGE VENUE PRICING at the CHU (R96). -/
def stageVenuePricing (v : Values) (s : State) : Answer × State :=
  let n := venueOf (v.nat 1)
  if v.nat 7 = 0 then
    ({ status := .done }, putVenue n { s.venue n with staged := pricingOf v, stagedPending := true } s)
  else if s.slc.service = .serving then refuse .notNow s
  else
    ({ status := .done }, putVenue n { s.venue n with live := pricingOf v, staged := pricingOf v, stagedPending := false } s)

/-- STAGE_VENUE_PRICING (R96). -/
def execStageVenuePricing (tag : Byte) (body : List Byte) (s : State) : Out :=
  .next (hostRequest 0x32 stageVenuePricingFields noCross stageVenuePricing tag body s)

/-- STAGE PORT RATE at the CHU (R97). -/
def stagePortRate (v : Values) (s : State) : Answer × State :=
  if v.nat 2 = 0 then
    ({ status := .done }, { s with chu := { s.chu with rateStaged := v.nat 1, ratePending := true } })
  else if s.slc.service = .serving then refuse .notNow s
  else ({ status := .done }, { s with chu := { s.chu with rateLive := v.nat 1, rateStaged := v.nat 1, ratePending := false } })

/-- STAGE_PORT_RATE (R97). -/
def execStagePortRate (tag : Byte) (body : List Byte) (s : State) : Out :=
  .next (hostRequest 0x33 stagePortRateFields noCross stagePortRate tag body s)

/-- QUERY_VENUE (R98). -/
def execQueryVenue (tag : Byte) (body : List Byte) (s : State) : Out :=
  .next (hostRequest 0x34 queryVenueFields noCross (fun v => reading (fun t => .venue (t.venue (venueOf (v.nat 1)))) v) tag body s)

/-- QUERY_PORT_RATE (R98). -/
def execQueryPortRate (tag : Byte) (body : List Byte) (s : State) : Out :=
  .next (hostRequest 0x35 [] noCross
    (reading (fun t => .portRate t.chu.rateLive t.chu.rateStaged t.chu.ratePending t.chu.policy)) tag body s)

/-- QUERY_TILL (R98). -/
def execQueryTill (tag : Byte) (body : List Byte) (s : State) : Out :=
  .next (hostRequest 0x36 queryTillFields noCross (fun v => reading (fun t => .till (t.till (tillOf (v.nat 1))).reading) v) tag body s)

/-- SET TILL POLICY at the CHU (R102). -/
def setTillPolicy (v : Values) (s : State) : Answer × State :=
  ({ status := .done }, { s with chu := { s.chu with policy := policyOf (v.nat 1) } })

/-- SET_TILL_POLICY (R102). -/
def execSetTillPolicy (tag : Byte) (body : List Byte) (s : State) : Out :=
  .next (hostRequest 0x37 setTillPolicyFields noCross setTillPolicy tag body s)

/-! ### Till answers (R89) -/

/-- An answer with a verdict alone (R89). -/
def bareAnswer (v : Verdict) : AnswerBody :=
  { verdict := v, reason := none, detail1 := 0, detail2 := 0, charge := 0, amount1 := 0, amount2 := 0, amount3 := 0, hold := 0 }

/-- The answer kind of a till request's code (R187). -/
def answerKind (k : TillKind) : Byte := k.code ||| 0x80

/-- A till number as an answer's till byte. -/
def tillByte (n : Fin 128) : Byte := BitVec.ofNat 8 n.val

/-- Send a till answer (R89). -/
def answerTill (kind sequence till : Byte) (repeated : Bool) (b : AnswerBody) (s : State) : State :=
  send .till (.tillAnswer { kind := kind, sequence := sequence, till := till, repeated := repeated, body := b }) s

/-- A decline, with its detail and the hold that a CLOSE TAB named (R89). -/
structure Decline where
  reason  : Reason
  detail1 : Nat := 0
  detail2 : Nat := 0
deriving DecidableEq, Repr

/-- The answer of a decline (R89). -/
def Decline.body (d : Decline) (hold : Nat) : AnswerBody :=
  { bareAnswer .declined with reason := some d.reason, detail1 := d.detail1, detail2 := d.detail2, hold := hold }

/-- A decline for an amount out of range (R53). -/
def RangeFault.decline (f : RangeFault) : Decline := { reason := .amountRange, detail1 := f.line, detail2 := f.quantity.number }

/-- The hold number that a declined request's answer carries: the one a CLOSE TAB named (R89). -/
def TillAsk.holdNamed : TillAsk → Nat
  | .closeTab h _ => h
  | _ => 0

/-- The kind of a request. -/
def TillAsk.kind : TillAsk → TillKind
  | .charge _ => .charge
  | .openTab _ => .openTab
  | .closeTab _ _ => .closeTab
  | .void _ => .void

/-- Decide a request (R90, R93): the till keeps the sequence and the decision, is IDLE, and the answer is sent. -/
def decideTill (n : Fin 128) (kind : TillKind) (sequence : Byte) (b : AnswerBody) (s : State) : State :=
  answerTill (answerKind kind) sequence (tillByte n) false b
    (putTill n { s.till n with working := none, lastSequence := some sequence, lastDecision := some { kind := kind, body := b } } s)

/-! ### The take (R94, R101-R103, R107) -/

/-- The outcome of a take's checks. -/
inductive Take where
  | declined (d : Decline)
  | passed (w : Waiting)
deriving DecidableEq, Repr

/-- Check 2 on a found card (R101): the decline that its state gives. -/
def cardDecline : CardState → Option Reason
  | .active => none
  | .lost => some .cardLost
  | .suspended => some .cardSuspended
  | .departed => some .cardDeparted
  | .withdrawn => some .unknownCard

/-- Check 3 (R101): privilege, then folio. -/
def privilegeDecline (ask : TillAsk) (p : Person) : Option Reason :=
  if p.spend.privilege = .noPrivilege ∨ (ask.kind = .openTab ∧ p.spend.privilege ≠ .full) then some .noChargePrivilege
  else if p.ident.folio = 0 then some .noFolio
  else none

/-- The lines of a request, if its kind has lines. -/
def TillAsk.lines : TillAsk → List Line
  | .charge ls => ls
  | .closeTab _ ls => ls
  | _ => []

/-- Check 4 (R101): a minor and a line that carries AGE. -/
def ageDecline (ask : TillAsk) (p : Person) : Option Reason :=
  if p.spend.minor ∧ ask.lines.any (·.age) then some .ageRestricted else none

/-- Check 6 (R101): the work that waits for settlement, priced where the kind is priced. -/
def workOf (pricing : Pricing) (rate : Nat) (ask : TillAsk) (of : Option Approved) : Except Decline Work :=
  match ask with
  | .charge ls =>
    match priceCharge pricing rate ls with
    | .error f => .error f.decline
    | .ok sums => .ok (.charge sums ls.length)
  | .openTab amount => .ok (.openTab amount)
  | .closeTab hold ls =>
    match priceTab pricing rate ls with
    | .error f => .error f.decline
    | .ok sums => .ok (.closeTab hold sums ls.length)
  | .void _ =>
    match of with
    | some a => .ok (.void a)
    | none => .error { reason := .voidRefused }

/-- Check 6 and the pass to settlement (R101). -/
def priceTake (n : Fin 128) (vn : Fin 64) (sequence : Byte) (r : TillRequest) (f : Found) (lenient : Bool) (s : State) : Take :=
  match workOf (s.venue vn).live s.chu.rateLive r.ask (s.till n).lastApproved with
  | .error d => .declined d
  | .ok w =>
    .passed { sequence := sequence, folio := f.person.ident.folio, person := f.card.person, serial := r.serial, venue := vn,
              lenient := lenient, work := w }

/-- Check 5, the presence check (R102): whether it passes, whether a sighting was sent, and the state after. A person DEPARTED does not reach it
(log 28). -/
def presenceCheck (n : Fin 128) (vn : Fin 64) (f : Found) (s : State) : Option Reason × Bool × State :=
  if (s.venue vn).exempt then (none, false, s)
  else
    match f.person.att.presence with
    | .aboard => (none, false, s)
    | .departed => (some .cardDeparted, false, s)
    | _ =>
      match s.chu.policy with
      | .strict => (some .ashore, false, raiseSighting f.card.person (.atTill n.val) s)
      | .lenient => (none, true, sighting f.card.person f.person f.card.serial (.atTill n.val) s)

/-- Checks 3 to 6 of a CHARGE, OPEN TAB or CLOSE TAB (R101); a decline at 3, 4 or 5 sends a failure update (R103). -/
def purchaseTake (n : Fin 128) (vn : Fin 64) (sequence : Byte) (r : TillRequest) (f : Found) (s : State) : Take × State :=
  match privilegeDecline r.ask f.person with
  | some d => (.declined { reason := d }, failureUpdate r.serial s)
  | none =>
    match ageDecline r.ask f.person with
    | some d => (.declined { reason := d }, failureUpdate r.serial s)
    | none =>
      match presenceCheck n vn f s with
      | (some d, _, t) => (.declined { reason := d }, failureUpdate r.serial t)
      | (none, lenient, t) => (priceTake n vn sequence r f lenient t, t)

/-- The void tests (R107). -/
def voidTake (n : Fin 128) (vn : Fin 64) (sequence : Byte) (r : TillRequest) (charge : Word32) (f : Found) (s : State) : Take :=
  match (s.till n).lastApproved with
  | none => .declined { reason := .voidRefused }
  | some a =>
    if a.charge ≠ charge ∨ a.kind = .tabClose ∨ a.voyage + Config.voidWindow ≤ s.scl.voyage ∨ a.person ≠ f.card.person then
      .declined { reason := .voidRefused }
    else
      .passed { sequence := sequence, folio := a.folio, person := a.person, serial := r.serial, venue := vn, lenient := false,
                work := .void a }

/-- Checks 1 and 2, and the rest by kind (R101, R107). A lost card raises LOST CARD PRESENTED; a decline at check 2 for a FOUND card sends a failure
update, except for a VOID (R103). -/
def takeChecks (n : Fin 128) (vn : Fin 64) (sequence : Byte) (r : TillRequest) (s : State) : Take × State :=
  if (s.venue vn).isOpen = false then (.declined { reason := .venueClosed }, s)
  else
    match lookup r.serial s with
    | none => (.declined { reason := .unknownCard }, s)
    | some f =>
      match cardDecline f.card.state with
      | some d =>
        let t := if f.card.state = .lost then raise .lostCardPresented r.serial (detail 2 n.val) s else s
        (.declined { reason := d }, if r.ask.kind = .void then t else failureUpdate r.serial t)
      | none =>
        match r.ask with
        | .void charge => (voidTake n vn sequence r charge f s, s)
        | _ => purchaseTake n vn sequence r f s

/-- A request taken (R94): declined in the take, or waiting with the till WORKING. -/
def take (n : Fin 128) (vn : Fin 64) (sequence : Byte) (r : TillRequest) (s : State) : State :=
  match takeChecks n vn sequence r s with
  | (.declined d, t) => decideTill n r.ask.kind sequence (d.body r.ask.holdNamed) t
  | (.passed w, t) => putTill n { t.till n with working := some w } t

/-- The stored decision that a sequence repeats (R92 test 2, R93). -/
def Till.repeats (t : Till) (sequence : Byte) : Option Decision := if t.lastSequence = some sequence then t.lastDecision else none

/-- The till gate (R92): NOT CONFIGURED, the stored decision again (R93), BUSY, NOT SERVING, or the take. -/
def tillGate (sequence : Byte) (r : TillRequest) (s : State) : State :=
  let t := s.till r.till
  let bare (v : Verdict) := answerTill (answerKind r.ask.kind) sequence (tillByte r.till) false (bareAnswer v) s
  match t.venue with
  | none => bare .notConfigured
  | some vn =>
    match t.repeats sequence with
    | some d => answerTill (answerKind d.kind) sequence (tillByte r.till) true d.body s
    | none =>
      if t.working.isSome then bare .busy
      else if s.slc.service = .loading then bare .notServing
      else take r.till vn sequence r s

/-- A MALFORMED answer (R88, R89): the till byte as received; for a frame without one the spec states no value, and it is a free one (log 23). -/
def answerMalformed (kind sequence : Byte) (body : List Byte) (f : TillFault) (s : State) : State :=
  let b := { bareAnswer .malformed with detail1 := f.field, detail2 := f.line }
  match body with
  | till :: _ => answerTill kind sequence till false b s
  | [] => useFree (answerTill kind sequence (BitVec.ofNat 8 s.freeValue) false b s)

/-- A till request of one of the four kinds (R88, R92). -/
def tillFrame (kind : TillKind) (sequence : Byte) (body : List Byte) (s : State) : State :=
  let t := received .till s
  match tillRequestOf kind body with
  | .error f => answerMalformed (answerKind kind) sequence body f t
  | .ok r => tillGate sequence r t

/-- CHARGE (R101). -/
def execCharge (sequence : Byte) (body : List Byte) (s : State) : Out := .next (tillFrame .charge sequence body s)

/-- OPEN_TAB (R105). -/
def execOpenTab (sequence : Byte) (body : List Byte) (s : State) : Out := .next (tillFrame .openTab sequence body s)

/-- CLOSE_TAB (R101). -/
def execCloseTab (sequence : Byte) (body : List Byte) (s : State) : Out := .next (tillFrame .closeTab sequence body s)

/-- VOID (R107). -/
def execVoid (sequence : Byte) (body : List Byte) (s : State) : Out := .next (tillFrame .void sequence body s)

/-- MALFORMED (R88): a till frame of a kind that is none of the four; a kind that is one of them is no such frame (log 2). -/
def execMalformed (kind sequence : Byte) (body : List Byte) (s : State) : Out :=
  .next (if knownTillRequest kind then settle s
    else answerMalformed (kind ||| 0x80) sequence body ⟨0, 0⟩ (received .till s))

/-! ### Settlement (R94, R104-R108) -/

/-- The effective spent today of a person (R99). -/
def Spending.effective (p : Spending) (folioDay : Nat) : Int := if p.spendDay = some folioDay then p.spentToday else 0

/-- An amount held to 0-8,388,607 (R100, R108). -/
def heldSpent (x : Int) : Int := if x < 0 then 0 else if x > Config.maxMoney then Config.maxMoney else x

/-- The spending part after a posting (R100): changed for privilege ALLOWANCE alone. -/
def Spending.posted (p : Spending) (amount : Int) (folioDay : Nat) : Spending :=
  if p.privilege = .allowance then { p with spentToday := heldSpent (p.effective folioDay + amount), spendDay := some folioDay } else p

/-- The spending part after a void (R108): changed when its spend day is the current folio day. -/
def Spending.voided (p : Spending) (total : Int) (folioDay : Nat) : Spending :=
  if p.spendDay = some folioDay then { p with spentToday := heldSpent (p.spentToday - total) } else p

/-- Change the spending part of a person in use (R94: none is changed when the slot is no longer in use). -/
def changeSpending (person : Nat) (f : Spending → Spending) (s : State) : State :=
  match s.persons.get person with
  | some p => putPerson person { p with spend := f p.spend } s
  | none => s

/-- The allowance test fails (R100). -/
def State.overAllowance (s : State) (person : Nat) (amount : Int) : Bool :=
  match s.persons.get person with
  | some p => decide (p.spend.privilege = .allowance) && decide (p.spend.effective s.scl.folioDay + amount > p.spend.allowance)
  | none => false

/-- Check 7 of a CHARGE (R67, R68, R100, R104): the decline, if any. -/
def chargeDecline (w : Waiting) (amount : Int) (s : State) : Option Decline :=
  if amount > 0 then
    match s.fst.folios.get w.folio with
    | none => some { reason := .folioClosed }
    | some f =>
      if f.state = .frozen then some { reason := .folioFrozen }
      else if f.state = .closed then some { reason := .folioClosed }
      else if f.balance + f.reserved + amount > f.limit then some { reason := .overLimit }
      else if s.overAllowance w.person amount then some { reason := .overAllowance }
      else none
  else if amount < 0 ∧ (s.venue w.venue).returns = false then some { reason := .returnsRefused }
  else
    match s.fst.folios.get w.folio with
    | none => some { reason := .folioClosed }
    | some f =>
      if f.state = .closed then some { reason := .folioClosed }
      else if f.balance + amount < -Config.balanceBound then
        some { reason := .amountRange, detail1 := 0, detail2 := Quantity.s.number }
      else none

/-- The answer of an approval (R89). -/
def approvedBody (charge : Word32) (a1 a2 a3 : Int) (hold : Nat) : AnswerBody :=
  { verdict := .approved, reason := none, detail1 := 0, detail2 := 0, charge := charge, amount1 := a1, amount2 := a2, amount3 := a3,
    hold := hold }

/-- Add an amount to a folio's balance. -/
def Folio.plus (f : Folio) (amount : Int) : Folio := { f with balance := f.balance + amount }

/-- Change a folio in use. -/
def changeFolio (n : Nat) (f : Folio → Folio) (s : State) : State :=
  match s.fst.folios.get n with
  | some x => putFolio n (f x) s
  | none => s

/-- A folio in use takes a posting from a till, with the freeze of R70. -/
def postToFolio (n : Nat) (f : Folio → Folio) (s : State) : State :=
  match s.fst.folios.get n with
  | some x => postFromTill n (f x) s
  | none => s

/-- The till's last approved charge is set, or cleared. -/
def setApproved (n : Fin 128) (a : Option Approved) (s : State) : State := putTill n { s.till n with lastApproved := a } s

/-- The CHARGE record (R104, R177). -/
def chargeRecord (n : Fin 128) (w : Waiting) (sums : Sums) (lines : Nat) : Record :=
  { kind := .charge, flags := { lenient := w.lenient }, index := w.person, serial := w.serial, folio := w.folio, place := n.val,
    a := sums.s, b := sums.g, c := sums.t, aux := lines }

/-- An approved CHARGE is posted (R104). -/
def postCharge (n : Fin 128) (w : Waiting) (sums : Sums) (number : Word32) (s : State) : State :=
  let s1 := addToDay sums.s (changeFolio w.folio (·.plus sums.s) s)
  let s2 := changeSpending w.person (·.posted sums.s s.scl.folioDay) s1
  let s3 := nearTest w.folio s2
  let s4 := setApproved n (some { kind := .charge, charge := number, voyage := s.scl.voyage, folio := w.folio, person := w.person,
                                  total := sums.s }) s3
  decideTill n .charge w.sequence (approvedBody number sums.s sums.g sums.t 0) (successUpdate w.serial s4)

/-- The settlement of a CHARGE (R104). -/
def settleCharge (n : Fin 128) (w : Waiting) (sums : Sums) (lines : Nat) (s : State) : State :=
  match chargeDecline w sums.s s with
  | some d => decideTill n .charge w.sequence (d.body 0) s
  | none =>
    match offerMoney (chargeRecord n w sums lines) s with
    | (none, t) => decideTill n .charge w.sequence (Decline.body { reason := .journalFull } 0) t
    | (some number, t) => postCharge n w sums number t

/-- CHARGE_SETTLEMENT (R104). -/
def execChargeSettlement (n : Fin 128) (s : State) : Out :=
  let t := settle s
  .next (match (t.till n).working with
    | some w =>
      match w.work with
      | .charge sums lines => settleCharge n w sums lines t
      | _ => t
    | none => t)

/-- Check 7 of an OPEN TAB (R72). -/
def openTabDecline (w : Waiting) (amount : Int) (s : State) : Option Decline :=
  match s.fst.folios.get w.folio with
  | none => some { reason := .folioClosed }
  | some f =>
    if f.state = .frozen then some { reason := .folioFrozen }
    else if f.state = .closed then some { reason := .folioClosed }
    else if f.holds.length ≥ Config.maxHolds then some { reason := .holdsFull }
    else if f.balance + f.reserved + amount > f.limit then some { reason := .overLimit }
    else none

/-- The TAB OPEN record (R72, R105, R177). -/
def openTabRecord (n : Fin 128) (w : Waiting) (amount : Int) (hold : Nat) : Record :=
  { kind := .tabOpen, flags := { lenient := w.lenient }, index := w.person, serial := w.serial, folio := w.folio, place := n.val,
    a := amount, aux := holdAux hold w.venue }

/-- The folio with a hold appended (R65). -/
def Folio.addHold (f : Folio) (h : Hold) : Folio := { f with holds := f.holds ++ [h] }

/-- A tab is opened (R72, R105). -/
def postOpenTab (n : Fin 128) (w : Waiting) (amount : Int) (number : Nat) (s : State) : State :=
  let h : Hold := { number := number, venue := w.venue, till := n, person := w.person, amount := amount, openedAt := s.scl.voyage,
                    fallenDue := false }
  let s1 := changeFolio w.folio (·.addHold h) s
  let s2 := { s1 with fst := { s1.fst with nextHold := nextHoldNumber number } }
  let s3 := successUpdate w.serial (nearTest w.folio s2)
  decideTill n .openTab w.sequence (approvedBody 0 amount 0 0 number) s3

/-- The settlement of an OPEN TAB (R72, R105). -/
def settleOpenTab (n : Fin 128) (w : Waiting) (amount : Int) (s : State) : State :=
  match openTabDecline w amount s with
  | some d => decideTill n .openTab w.sequence (d.body 0) s
  | none =>
    match offerMoney (openTabRecord n w amount s.fst.holdNumber) s with
    | (none, t) => decideTill n .openTab w.sequence (Decline.body { reason := .journalFull } 0) t
    | (some _, t) => postOpenTab n w amount s.fst.holdNumber t

/-- OPEN_TAB_SETTLEMENT (R105). -/
def execOpenTabSettlement (n : Fin 128) (s : State) : Out :=
  let t := settle s
  .next (match (t.till n).working with
    | some w =>
      match w.work with
      | .openTab amount => settleOpenTab n w amount t
      | _ => t
    | none => t)

/-- The hold that a CLOSE TAB settles, or the decline of check 7 (R73, R106). -/
def closeTabHold (w : Waiting) (number : Nat) (s : State) : Except Decline Hold :=
  match s.fst.folios.get w.folio with
  | none => .error { reason := .folioClosed }
  | some f =>
    if f.state = .closed then .error { reason := .folioClosed }
    else
      match f.hold number with
      | none => .error { reason := .holdUnknown }
      | some h => .ok h

/-- The TAB CLOSE record (R52, R106, R177): the place is the hold's till and the reason byte the closing till. -/
def closeTabRecord (n : Fin 128) (w : Waiting) (h : Hold) (sums : Sums) : Record :=
  { kind := .tabClose, flags := { lenient := w.lenient }, index := w.person, serial := w.serial, folio := w.folio, place := h.till.val,
    reason := n.val, a := sums.s, b := sums.g, c := sums.t, aux := holdAux h.number h.venue }

/-- A tab is closed (R73, R106). -/
def postCloseTab (n : Fin 128) (w : Waiting) (hold : Nat) (sums : Sums) (number : Word32) (s : State) : State :=
  let s1 := addToDay sums.s (postToFolio w.folio (fun f => (f.without hold).plus sums.s) s)
  let s2 := changeSpending w.person (·.posted sums.s s.scl.folioDay) (nearTest w.folio s1)
  let s3 := setApproved n (some { kind := .tabClose, charge := number, voyage := s.scl.voyage, folio := w.folio, person := w.person,
                                  total := sums.s }) s2
  decideTill n .closeTab w.sequence (approvedBody number sums.s sums.g sums.t hold) (successUpdate w.serial s3)

/-- The settlement of a CLOSE TAB (R73, R106). -/
def settleCloseTab (n : Fin 128) (w : Waiting) (hold : Nat) (sums : Sums) (s : State) : State :=
  match closeTabHold w hold s with
  | .error d => decideTill n .closeTab w.sequence (d.body hold) s
  | .ok h =>
    match offerMoney (closeTabRecord n w h sums) s with
    | (none, t) => decideTill n .closeTab w.sequence (Decline.body { reason := .journalFull } hold) t
    | (some number, t) => postCloseTab n w hold sums number t

/-- CLOSE_TAB_SETTLEMENT (R106). -/
def execCloseTabSettlement (n : Fin 128) (s : State) : Out :=
  let t := settle s
  .next (match (t.till n).working with
    | some w =>
      match w.work with
      | .closeTab hold sums _ => settleCloseTab n w hold sums t
      | _ => t
    | none => t)

/-- The void's posting, minus the stored total, would leave the bounds of R71. -/
def voidOutOfRange (balance total : Int) : Bool :=
  (decide (total > 0) && decide (balance - total < -Config.balanceBound))
  || (decide (total < 0) && decide (balance - total > Config.balanceBound))

/-- Check 7 of a VOID (R74, R94, R108). -/
def voidDecline (w : Waiting) (a : Approved) (s : State) : Option Decline :=
  match s.fst.folios.get w.folio with
  | none => some { reason := .folioClosed }
  | some f =>
    if f.state = .closed then some { reason := .voidRefused }
    else if voidOutOfRange f.balance a.total then some { reason := .voidRefused }
    else none

/-- The VOID record (R108, R177): the voided charge number's low 24 bits in amount B and its high 8 bits in aux. -/
def voidRecord (n : Fin 128) (w : Waiting) (a : Approved) : Record :=
  { kind := .void, index := w.person, serial := w.serial, folio := w.folio, place := n.val, a := a.total,
    b := (a.charge.toNat % 16777216 : Nat), aux := (a.charge.toNat / 16777216 : Nat) }

/-- A void is posted (R74, R108). -/
def postVoid (n : Fin 128) (w : Waiting) (a : Approved) (number : Word32) (s : State) : State :=
  let s1 := addToDay (-a.total) (postToFolio w.folio (·.plus (-a.total)) s)
  let s2 := nearTest w.folio (changeSpending w.person (·.voided a.total s.scl.folioDay) s1)
  decideTill n .void w.sequence (approvedBody number a.total 0 0 0) (setApproved n none s2)

/-- The settlement of a VOID (R74, R108). -/
def settleVoid (n : Fin 128) (w : Waiting) (a : Approved) (s : State) : State :=
  match voidDecline w a s with
  | some d => decideTill n .void w.sequence (d.body 0) s
  | none =>
    match offerMoney (voidRecord n w a) s with
    | (none, t) => decideTill n .void w.sequence (Decline.body { reason := .journalFull } 0) t
    | (some number, t) => postVoid n w a number t

/-- VOID_SETTLEMENT (R108). -/
def execVoidSettlement (n : Fin 128) (s : State) : Out :=
  let t := settle s
  .next (match (t.till n).working with
    | some w =>
      match w.work with
      | .void a => settleVoid n w a t
      | _ => t
    | none => t)

end Sys2Proof.Machine
end

