-- ==== Sys2Proof/Machine/Segments.lean ====
section
/-! DEFINITION. Lock segments (chapter 7): poll cycles, node turns and the segment requests; and the access decision that a turn asks for
(chapter 6.3). -/
namespace Sys2Proof.Machine

/-- The segment controller of a number. -/
def State.lsc (s : State) (i : Fin 8) : Lsc := s.lscs[i]

/-! ### The poll cycle (R132) -/

/-- A record is due a turn (R132). -/
def Node.due (n : Node) (cycle : Nat) : Bool := !n.isNew && (n.state != .silent || cycle == 0)

/-- The next record of the cycle that is due: the lowest above the last turn (R132). -/
def Lsc.nextDue (l : Lsc) : Option (Nat × Node) :=
  l.nodes.find? (fun e => (match l.lastTurn with
    | some a => decide (a < e.1)
    | none => true) && e.2.due l.cycle)

/-- The frame that opens a turn (R135). -/
def turnFrame (address : Nat) (mode : LockMode) : Frame :=
  match mode with
  | .noMode => .poll address
  | m => .mode address m

/-- The segment with a turn begun (R135). -/
def Lsc.withTurn (l : Lsc) (address : Nat) (n : Node) : Lsc :=
  { l with turn := some { address := address, sent := n.pendingMode, replaced := false, windowMs := l.windowMs, window := .toBegin, removed := false,
                          heldCard := none },
           lastTurn := some address, waitMs := none, running := true }

/-- Begin a turn: MODE or POLL is sent (R135). -/
def beginTurn (i : Fin 8) (address : Nat) (n : Node) (s : State) : State :=
  send (.segment i) (turnFrame address n.pendingMode) (putLsc i ((s.lsc i).withTurn address n) s)

/-- Begin a cycle (R132): its first turn, or the wait of one reply window when no record is due. -/
def beginCycle (i : Fin 8) (s : State) : State :=
  let l := { s.lsc i with running := true, turn := none, lastTurn := none, waitMs := none }
  match l.nextDue with
  | some (a, n) => beginTurn i a n (putLsc i l s)
  | none => putLsc i { l with waitMs := some l.windowMs } s

/-- The segment at the end of a cycle (R132): the cycle number rises, the NEW marks are cleared. -/
def Lsc.cycleOver (l : Lsc) : Lsc :=
  { l with cycle := (l.cycle + 1) % 16, nodes := l.nodes.mapVals (fun n => { n with isNew := false }), turn := none, lastTurn := none,
           waitMs := none, running := false }

/-- The cycle ends (R132, R133): the segment becomes IDLE with an empty list, and begins the next cycle otherwise. -/
def endCycle (i : Fin 8) (s : State) : State :=
  let l := (s.lsc i).cycleOver
  if l.nodes.isEmpty then putLsc i l s else beginCycle i (putLsc i l s)

/-- The turn ends (R132): the next turn begins, or the cycle ends. -/
def endTurn (i : Fin 8) (s : State) : State :=
  let l := { s.lsc i with turn := none }
  match l.nextDue with
  | some (a, n) => beginTurn i a n (putLsc i l s)
  | none => endCycle i (putLsc i l s)

/-! ### Outcomes of a turn -/

/-- Change a node record that is listed. -/
def changeNode (i : Fin 8) (address : Nat) (f : Node → Node) (s : State) : State :=
  match (s.lsc i).nodes.get address with
  | some n => putLsc i { s.lsc i with nodes := (s.lsc i).nodes.set address (f n) } s
  | none => s

/-- The LSC sets a node's pending mode at the CAU's request (R124, R141): a MODE frame in flight to the node then holds a mode that has been replaced, be it by an
equal one. -/
def replaceMode (i : Fin 8) (address : Nat) (m : LockMode) (s : State) : State :=
  let t := changeNode i address (fun n => { n with pendingMode := m }) s
  putLsc i { t.lsc i with turn := (t.lsc i).turn.map (·.replacedAt address) } t

/-- The NODE record (R140): the reason is 1 SILENT or 2 ONLINE. -/
def nodeRecord (i : Fin 8) (address : Nat) (n : Node) (reason : Nat) (s : State) : Record :=
  { kind := .node, index := s.cau.cabinNumberAt i address, place := i.val, reason := reason, a := address, b := n.pendingMode.number,
    c := (s.lsc i).cycle }

/-- A miss on a listed record (R140): the count held at 3, SILENT at the third. -/
def Node.missed (n : Node) : Node :=
  { n with missCount := min 3 (n.missCount + 1), state := if n.missCount + 1 ≥ 3 then .silent else n.state }

/-- The miss makes the record SILENT (R140). -/
def Node.fallsSilent (n : Node) : Bool := n.state != .silent && decide (n.missCount + 1 ≥ 3)

/-- A miss's effect on the record of a turn (R140). -/
def missNode (i : Fin 8) (address : Nat) (s : State) : State :=
  match (s.lsc i).nodes.get address with
  | some n =>
    let t := changeNode i address Node.missed s
    if n.fallsSilent then
      offerEvent (nodeRecord i address n 1 s)
        (raise .nodeSilent (lockAddress i address) (detail (s.cau.cabinNumberAt i address)) t)
    else t
  | none => s

/-- The turn in progress ends as a miss (R140); the record of a removed node is not touched (R143). -/
def missTurn (i : Fin 8) (t : Turn) (s : State) : State :=
  endTurn i (if t.removed then s else missNode i t.address s)

/-- Set the turn in progress. -/
def putTurn (i : Fin 8) (t : Turn) (s : State) : State := putLsc i { s.lsc i with turn := some t } s

/-- A frame on a segment is discarded (R136): the receiver hunts, and a turn whose window ended while the frame was coming is now a miss. -/
def discardOnSegment (i : Fin 8) (s : State) : State :=
  let t := setRx (.segment i) .hunting s
  match (t.lsc i).turn with
  | some tr => if tr.window = .over then missTurn i tr t else t
  | none => t

/-- A frame completed on a segment began within the window of the turn (R136): by its START_BYTE event, or, without one, now (log 6). -/
def begunInTurn (i : Fin 8) (tr : Turn) (s : State) : Bool :=
  match s.rxOf (.segment i) with
  | .collecting inWindow _ => inWindow
  | .hunting => tr.window != .over

/-- The turn that a received frame answers (R136), when it is accepted. -/
def acceptedTurn (i : Fin 8) (f : Option NodeFrame) (s : State) : Option (Turn × NodeFrame) :=
  match (s.lsc i).turn, f with
  | some tr, some fr => if fr.address = tr.address ∧ begunInTurn i tr s then some (tr, fr) else none
  | _, _ => none

/-- Steps 1 and 3 of an acceptance, and its acknowledgment of a MODE (R136): the pending mode is cleared when it still is the mode sent. One replaced meanwhile
stays pending (R141), also by an equal mode, which R124 has sent again (log 47). -/
def Node.answered (n : Node) (tr : Turn) (acknowledges : Bool) : Node :=
  { n with missCount := 0, state := .online,
           pendingMode := if acknowledges ∧ tr.sent ≠ .noMode ∧ tr.replaced = false ∧ n.pendingMode = tr.sent then .noMode else n.pendingMode }

/-- The acceptance's effect on the record of the turn (R136): a SILENT record's return is offered as a NODE record. -/
def answerNode (i : Fin 8) (tr : Turn) (acknowledges : Bool) (s : State) : State :=
  if tr.removed then s
  else
    match (s.lsc i).nodes.get tr.address with
    | some n =>
      let t := if n.state = .silent then offerEvent (nodeRecord i tr.address n 2 s) s else s
      changeNode i tr.address (fun m => m.answered tr acknowledges) t
    | none => s

/-! ### The access decision (R116-R122) -/

/-- The lock mode that a cabin state asks for (R124). -/
def CabinState.mode : CabinState → LockMode
  | .inService => .normal
  | .outOfOrder => .outOfOrder
  | .lockedDown => .lockdown

/-- The card has a master key for the segment (R119). Bit n of the mask stands for segment n (log 55). -/
def Card.isMaster (c : Card) (segment : Fin 8) : Bool := c.keyLevel != .noKey && c.mask.getLsbD segment.val

/-- Line 5, the master path (R119). -/
def masterDecision (level : KeyLevel) (c : Cabin) : AccessDecision :=
  if c.state = .lockedDown then (if level = .officer then .grantMaster else .denyCabinClosed)
  else if c.privacy then (if level = .officer then .grantMaster else .denyPrivacy)
  else .grantMaster

/-- The person's binding on the cabin. -/
def Cabin.bindingOf (c : Cabin) (person : Nat) : Option Binding := c.bindings.find? (fun b => b.person == person)

/-- The binding is not yet valid (R112). -/
def Binding.notYet (b : Binding) (now : Nat) : Bool := decide (now < b.validFrom)

/-- The binding is expired (R112). -/
def Binding.expired (b : Binding) (now : Nat) : Bool :=
  match b.validUntil with
  | some u => decide (u ≤ now)
  | none => false

/-- Lines 6 to 9, the holder's own right (R120). -/
def ownDecision (c : Cabin) (person now : Nat) : AccessDecision :=
  if c.state ≠ .inService then .denyCabinClosed
  else
    match c.bindingOf person with
    | none => .denyNotBound
    | some b =>
      if b.notYet now then .denyNotYet
      else if b.expired now then .denyExpired
      else if c.privacy ∧ b.kind = .service then .denyPrivacy
      else .grant

/-- Lines 5 to 9 (R119, R120). -/
def doorDecision (c : Cabin) (f : Found) (now : Nat) : AccessDecision :=
  if f.card.isMaster c.segment then masterDecision f.card.keyLevel c else ownDecision c f.card.person now

/-- Line 3 on a found card (R117). -/
def cardDenial : CardState → Option AccessDecision
  | .active => none
  | .lost => some .denyLost
  | .suspended => some .denySuspended
  | .departed => some .denyDeparted
  | .withdrawn => some .denyUnknown

/-- What a presentation comes to: the decision, whether line 4 sent a sighting, and the state after (R116). -/
structure Presented where
  decision : AccessDecision
  lenient  : Bool
  state    : State

/-- Lines 4 to 9 for an ACTIVE card (R118-R120). A person DEPARTED does not reach line 4 (log 28). -/
def presenceLine (number : Nat) (c : Cabin) (f : Found) (s : State) : Presented :=
  match f.person.att.presence with
  | .aboard => { decision := doorDecision c f s.scl.voyage, lenient := false, state := s }
  | .departed => { decision := .denyDeparted, lenient := false, state := s }
  | _ =>
    match s.cau.policy with
    | .strict =>
      { decision := .denyAshore, lenient := false, state := raiseSighting f.card.person (.atLock c.segment.val number) s }
    | .lenient =>
      { decision := doorDecision c f s.scl.voyage, lenient := true,
        state := sighting f.card.person f.person f.card.serial (.atLock c.segment.val number) s }

/-- Lines 2 to 9 of the decision in SERVING (R117-R120). -/
def decideServing (segment : Fin 8) (node : Nat) (serial : Word32) (s : State) : Presented :=
  match s.cau.cabinAt segment node with
  | none => { decision := .denyNotBound, lenient := false, state := s }
  | some (number, c) =>
    match lookup serial s with
    | none => { decision := .denyUnknown, lenient := false, state := s }
    | some f =>
      match cardDenial f.card.state with
      | some d =>
        { decision := d, lenient := false,
          state := if f.card.state = .lost then raise .lostCardPresented serial (detail 1 number) s else s }
      | none => presenceLine number c f s

/-- The update of the card that a decision sends (R121). -/
def accessUpdate (d : AccessDecision) (serial : Word32) (s : State) : State :=
  match d with
  | .grant => successUpdate serial s
  | .grantMaster => successUpdate serial s
  | .defer => s
  | _ => failureUpdate serial s

/-- The access logging setting records the decision (R122). -/
def Logging.records (l : Logging) (d : AccessDecision) : Bool :=
  match l with
  | .nothing => false
  | .denials => d.isDenial
  | .all => true

/-- The IRREGULAR mark of a person as it stands now. -/
def State.irregular (s : State) (person : Nat) : Bool :=
  match s.persons.get person with
  | some p => p.att.irregular
  | none => false

/-- The ACCESS record of a decision (R122): cabin 0 when no cabin has the address; folio, person and key level 0 when the card was not FOUND or not
looked up. -/
def accessRecord (segment : Fin 8) (node : Nat) (serial : Word32) (cabin : Nat) (f : Option Found) (p : Presented) : Record :=
  match f with
  | some x =>
    { kind := .access, flags := { lenient := p.lenient, irregular := p.state.irregular x.card.person }, index := cabin, serial := serial,
      folio := x.person.ident.folio, place := segment.val, reason := p.decision.number, a := x.card.person, b := node,
      c := x.card.keyLevel.number }
  | none =>
    { kind := .access, flags := { lenient := p.lenient }, index := cabin, serial := serial, place := segment.val,
      reason := p.decision.number, b := node }

/-- Offer the ACCESS record when the logging setting asks for it (R122). -/
def logAccess (d : AccessDecision) (r : Record) (s : State) : State := if s.cau.logging.records d then offerEvent r s else s

/-- A presentation is decided (R116-R122): the decision, and the state after its update and its record. -/
def present (segment : Fin 8) (node : Nat) (serial : Word32) (s : State) : AccessDecision × State :=
  let cabin := s.cau.cabinNumberAt segment node
  if s.slc.service = .loading then
    let p : Presented := { decision := .defer, lenient := false, state := s }
    (.defer, logAccess .defer (accessRecord segment node serial cabin none p) s)
  else
    let p := decideServing segment node serial s
    (p.decision,
     logAccess p.decision (accessRecord segment node serial cabin (lookup serial s) p) (accessUpdate p.decision serial p.state))

/-! ### Frames from the nodes -/

/-- A QUIET reply accepted (R137). -/
def acceptQuiet (i : Fin 8) (tr : Turn) (s : State) : State := endTurn i (answerNode i tr true s)

/-- QUIET (R137). -/
def execQuiet (i : Fin 8) (body : List Byte) (s : State) : Out :=
  let t := settle s
  .next (match acceptedTurn i (quietOf body) t with
    | some (tr, _) => acceptQuiet i tr (setRx (.segment i) .hunting t)
    | none => discardOnSegment i t)

/-- A CARD reply accepted: decided, and the DECISION frame sent in the same event (R138). -/
def acceptCard (i : Fin 8) (tr : Turn) (serial : Word32) (s : State) : State :=
  let r := present i tr.address serial (answerNode i tr true s)
  endTurn i (send (.segment i) (.decision tr.address serial r.1) r.2)

/-- CARD (R138). -/
def execCard (i : Fin 8) (body : List Byte) (s : State) : Out :=
  let t := settle s
  .next (match acceptedTurn i (cardOf body) t with
    | some (tr, ⟨_, .card serial⟩) => acceptCard i tr serial (setRx (.segment i) .hunting t)
    | _ => discardOnSegment i t)

/-- An ENTRY reply accepted: handed to the CAU, which takes it in an event after it (R137; log 10). -/
def acceptEntry (i : Fin 8) (tr : Turn) (e : EntryState) (privacy : Bool) (s : State) : State :=
  let t := answerNode i tr true s
  endTurn i { t with cau := { t.cau with reports := t.cau.reports ++ [{ segment := i, node := tr.address, entry := e, privacy := privacy }] } }

/-- ENTRY (R137). -/
def execEntry (i : Fin 8) (body : List Byte) (s : State) : Out :=
  let t := settle s
  .next (match acceptedTurn i (entryOf body) t with
    | some (tr, ⟨_, .entry e privacy⟩) => acceptEntry i tr e privacy (setRx (.segment i) .hunting t)
    | _ => discardOnSegment i t)

/-- A restart's effect at the LSC, the CAU and the ATU (R139, R126). -/
def restartNode (i : Fin 8) (address : Nat) (s : State) : State :=
  match s.cau.cabinAt i address with
  | some (number, c) =>
    raise .nodeRestarted (lockAddress i address) (detail number)
      (putCabin number { c with entry := .unknown } (changeNode i address (fun n => { n with pendingMode := c.state.mode }) s))
  | none => s

/-- A RESTARTED reply accepted (R139); it acknowledges no mode, and for a removed record it does nothing more (R143). -/
def acceptRestarted (i : Fin 8) (tr : Turn) (s : State) : State :=
  let t := answerNode i tr false s
  endTurn i (if tr.removed then t else restartNode i tr.address t)

/-- RESTARTED (R139). -/
def execRestarted (i : Fin 8) (body : List Byte) (s : State) : Out :=
  let t := settle s
  .next (match acceptedTurn i (restartedOf body) t with
    | some (tr, _) => acceptRestarted i tr (setRx (.segment i) .hunting t)
    | none => discardOnSegment i t)

/-- The window of a turn ends (R135, R136, R140): a miss, unless a frame that began within it is still coming, whose end decides (log 9). -/
def windowEnds (i : Fin 8) (tr : Turn) (s : State) : State :=
  match s.rxOf (.segment i) with
  | .collecting true _ => putTurn i { tr with window := .over } s
  | _ => missTurn i tr s

/-- MISS (R140): the end of the reply window of the turn in progress, once it runs. -/
def execMiss (i : Fin 8) (s : State) : Out :=
  let t := settle s
  .next (match (t.lsc i).turn with
    | some tr =>
      match tr.window with
      | .running => windowEnds i tr t
      | _ => t
    | none => t)

/-- CYCLE_WAIT (R132): the end of the wait of a cycle in which no record was due. -/
def execCycleWait (i : Fin 8) (s : State) : Out :=
  let t := settle s
  .next (if (t.lsc i).waitMs.isSome then endCycle i t else t)

/-! ### Segment requests (R144, R145) -/

/-- Set one segment's reply window (R144). The turn in progress keeps the window it began with; so does a wait in progress, the model's reading of R144 (log 54). -/
def setWindow (i : Fin 8) (ms : Nat) (s : State) : State := putLsc i { s.lsc i with windowMs := ms } s

/-- SET POLL WINDOW at the LSCs (R144): the windows as they stood before. -/
def setPollWindow (v : Values) (s : State) : Answer × State :=
  match v.optNat 2 with
  | some n =>
    ({ status := .done, payload := .windows [(s.lsc (segmentOf n)).windowMs] }, setWindow (segmentOf n) (v.nat 3) s)
  | none =>
    ({ status := .done, payload := .windows (s.lscs.toList.map (·.windowMs)) },
     { s with lscs := mapVec (fun l => { l with windowMs := v.nat 3 }) s.lscs })

/-- SET_POLL_WINDOW (R144). -/
def execSetPollWindow (tag : Byte) (body : List Byte) (s : State) : Out :=
  .next (hostRequest 0x48 setPollWindowFields setPollWindowCross setPollWindow tag body s)

/-- The listed nodes in a state. -/
def Lsc.countState (l : Lsc) (st : NodeState) : Nat := l.nodes.countP (fun e => e.2.state == st)

/-- What QUERY SEGMENT carries (R145). -/
def segmentReading (l : Lsc) : Payload :=
  .segment l.running l.cycle l.windowMs l.nodes.length (l.countState .unprobed) (l.countState .online) (l.countState .silent)
    (l.nodes.countP (fun e => e.2.pendingMode != .noMode)) (l.turn.map (fun t => (t.address, t.kind)))
    ((l.nodes.find? (fun e => e.2.state == .silent)).map (·.1))

/-- QUERY_SEGMENT (R145). -/
def execQuerySegment (tag : Byte) (body : List Byte) (s : State) : Out :=
  .next (hostRequest 0x49 querySegmentFields noCross
    (fun v => reading (fun t => segmentReading (t.lsc (segmentOf (v.nat 1)))) v) tag body s)

end Sys2Proof.Machine
end

