-- ==== Sys2Proof/Machine/Cabins.lean ====
section
/-! DEFINITION. Cabin access (chapter 6): bindings, cabin requests and entry reports. -/
namespace Sys2Proof.Machine

/-! ### Bindings (R111-R115) -/

/-- Take a cabin off a person's bound-cabin list (R12, R111). -/
def dropFromPerson (person cabin : Nat) (s : State) : State :=
  match s.persons.get person with
  | some p => putPerson person { p with ident := { p.ident with cabins := p.ident.cabins.filter (· ≠ cabin) } } s
  | none => s

/-- Put a cabin at the end of a person's bound-cabin list (R12, R111). -/
def addToPerson (person cabin : Nat) (s : State) : State :=
  match s.persons.get person with
  | some p => putPerson person { p with ident := { p.ident with cabins := p.ident.cabins ++ [cabin] } } s
  | none => s

/-- The binding that a BIND gives (R114). -/
def bindingOfRequest (v : Values) : Binding :=
  { person := v.nat 1, kind := bindingKindOf (v.nat 3), validFrom := v.nat 4, validUntil := v.optNat 5 }

/-- A person's place on the cabin's list, from 1 (R114). -/
def Cabin.positionOf (c : Cabin) (person : Nat) : Nat := c.bindings.findIdx (fun b => b.person == person) + 1

/-- Rewrite a person's binding in its place (R114 case 1). -/
def Cabin.rewrite (c : Cabin) (b : Binding) : Cabin :=
  { c with bindings := c.bindings.map (fun x => if x.person = b.person then b else x) }

/-- Sweep the expired bindings off the cabin's list and off their persons' lists (R114 case 2). -/
def sweep (cabin : Nat) (c : Cabin) (s : State) : State :=
  (c.bindings.filter (fun b => b.expired s.scl.voyage)).foldl (fun t b => dropFromPerson b.person cabin t)
    (putCabin cabin { c with bindings := c.bindings.filter (fun b => !b.expired s.scl.voyage) } s)

/-- Append a binding (R114 case 3), so many having been swept before it in the event. -/
def appendBinding (b : Binding) (cabin swept : Nat) (s : State) : Answer × State :=
  match s.cau.cabins.get cabin, s.persons.get b.person with
  | some c, some p =>
    if p.ident.cabins.length ≥ Config.maxCabinsPerPerson then ({ status := .personFull, payload := .swept swept }, s)
    else
      ({ status := .done, payload := .bound (c.bindings.length + 1) swept },
       addToPerson b.person cabin (putCabin cabin { c with bindings := c.bindings ++ [b] } s))
  | _, _ => refuse .notFound s

/-- A BIND that passed R113, completed (R114). -/
def completeBind (b : Binding) (cabin : Nat) (c : Cabin) (s : State) : Answer × State :=
  if (c.bindingOf b.person).isSome then
    ({ status := .done, payload := .position (c.positionOf b.person) }, putCabin cabin (c.rewrite b) s)
  else if c.bindings.length ≥ Config.maxBindings then
    let t := sweep cabin c s
    let swept := (c.bindings.filter (fun x => x.expired s.scl.voyage)).length
    if c.bindings.length - swept ≥ Config.maxBindings then ({ status := .cabinFull, payload := .swept swept }, t)
    else appendBinding b cabin swept t
  else appendBinding b cabin 0 s

/-- Valid until is present and not greater than valid from (R113 check 1). -/
def Binding.emptyPeriod (b : Binding) : Bool :=
  match b.validUntil with
  | some u => decide (u ≤ b.validFrom)
  | none => false

/-- BIND at the CAU and the CRG (R113, R114). -/
def bind (v : Values) (s : State) : Answer × State :=
  let b := bindingOfRequest v
  if b.emptyPeriod then refuse .range s
  else
    match s.cau.cabins.get (v.nat 2), s.persons.get b.person with
    | none, _ => ({ status := .notFound, payload := .field 2 }, s)
    | some _, none => ({ status := .notFound, payload := .field 1 }, s)
    | some c, some p => if p.att.presence = .departed then refuse .departed s else completeBind b (v.nat 2) c s

/-- BIND (R114). -/
def execBind (tag : Byte) (body : List Byte) (s : State) : Out :=
  .next (hostRequest 0x42 bindFields noCross bind tag body s)

/-- UNBIND at the CAU and the CRG (R115). -/
def unbind (v : Values) (s : State) : Answer × State :=
  match s.cau.cabins.get (v.nat 2) with
  | none => refuse .notFound s
  | some c =>
    if (c.bindingOf (v.nat 1)).isSome then
      ({ status := .done, payload := .position (c.positionOf (v.nat 1)) },
       dropFromPerson (v.nat 1) (v.nat 2)
         (putCabin (v.nat 2) { c with bindings := c.bindings.filter (fun b => b.person ≠ v.nat 1) } s))
    else refuse .notFound s

/-- UNBIND (R115). -/
def execUnbind (tag : Byte) (body : List Byte) (s : State) : Out :=
  .next (hostRequest 0x43 unbindFields noCross unbind tag body s)

/-! ### Cabin states (R124) -/

/-- A cabin takes a state, and its node the pending mode (R124). -/
def setOneCabin (number : Nat) (c : Cabin) (st : CabinState) (s : State) : State :=
  replaceMode c.segment c.node st.mode (putCabin number { c with state := st } s)

/-- The cabins of a segment (R124). -/
def Cau.onSegment (c : Cau) (i : Fin 8) : List (Nat × Cabin) := c.cabins.filter (fun e => e.2.segment == i)

/-- SET CABIN STATE at the CAU and the LSC (R124). -/
def setCabinState (v : Values) (s : State) : Answer × State :=
  let st := cabinStateOf (v.nat 4)
  match v.optNat 2 with
  | some n =>
    match s.cau.cabins.get n with
    | none => refuse .notFound s
    | some c => ({ status := .done, payload := .cabinsSet 1 }, setOneCabin n c st s)
  | none =>
    let cs := s.cau.onSegment (segmentOf (v.nat 3))
    ({ status := .done, payload := .cabinsSet cs.length }, cs.foldl (fun t e => setOneCabin e.1 e.2 st t) s)

/-- SET_CABIN_STATE (R124). -/
def execSetCabinState (tag : Byte) (body : List Byte) (s : State) : Out :=
  .next (hostRequest 0x44 setCabinStateFields setCabinStateCross setCabinState tag body s)

/-! ### Access policy (R123) -/

/-- SET ACCESS POLICY at the CAU (R123): the settings as they stood before. -/
def setAccessPolicy (v : Values) (s : State) : Answer × State :=
  ({ status := .done, payload := .accessPolicy s.cau.policy s.cau.logging },
   { s with cau := { s.cau with policy := policyOf (v.nat 1), logging := loggingOf (v.nat 2) } })

/-- SET_ACCESS_POLICY (R123). -/
def execSetAccessPolicy (tag : Byte) (body : List Byte) (s : State) : Out :=
  .next (hostRequest 0x45 setAccessPolicyFields noCross setAccessPolicy tag body s)

/-- QUERY_ACCESS_POLICY (R123). -/
def execQueryAccessPolicy (tag : Byte) (body : List Byte) (s : State) : Out :=
  .next (hostRequest 0x46 [] noCross (reading (fun t => .accessPolicy t.cau.policy t.cau.logging)) tag body s)

/-! ### Cabins and their nodes (R127-R129) -/

/-- The node record that an added cabin brings (R131). -/
def newNode (st : CabinState) (isNew : Bool) : Node := { state := .unprobed, missCount := 0, pendingMode := st.mode, isNew := isNew }

/-- A node record is listed (R127, R131), and a cycle begins on an IDLE segment (R132). -/
def listNode (i : Fin 8) (address : Nat) (st : CabinState) (s : State) : State :=
  let l := s.lsc i
  let t := putLsc i { l with nodes := l.nodes.set address (newNode st l.running) } s
  if l.running then t else beginCycle i t

/-- ADD CABIN at the CAU and the LSC (R127). -/
def addCabin (v : Values) (s : State) : Answer × State :=
  let i := segmentOf (v.nat 2)
  let st := match v.optNat 4 with
    | some x => cabinStateOf x
    | none => .inService
  if (s.cau.cabins.get (v.nat 1)).isSome then ({ status := .conflict, payload := .field 1 }, s)
  else if (s.cau.cabinAt i (v.nat 3)).isSome then ({ status := .conflict, payload := .field 3 }, s)
  else if s.cau.cabins.length ≥ Config.maxCabins then refuse .tableFull s
  else
    ({ status := .done },
     listNode i (v.nat 3) st
       (putCabin (v.nat 1) { segment := i, node := v.nat 3, state := st, entry := .unknown, privacy := false, bindings := [] } s))

/-- ADD_CABIN (R127). -/
def execAddCabin (tag : Byte) (body : List Byte) (s : State) : Out :=
  .next (hostRequest 0x40 addCabinFields noCross addCabin tag body s)

/-- A node record leaves the list (R128, R143); the turn in progress, if it is the node's, goes on with its record removed. -/
def unlistNode (i : Fin 8) (address : Nat) (s : State) : State :=
  let l := s.lsc i
  putLsc i { l with nodes := l.nodes.erase address,
                    turn := l.turn.map (fun t => if t.address = address then { t with removed := true } else t) } s

/-- REMOVE CABIN at the CAU, the CRG and the LSC (R128). -/
def removeCabin (v : Values) (s : State) : Answer × State :=
  match s.cau.cabins.get (v.nat 1) with
  | none => refuse .notFound s
  | some c =>
    let t := c.bindings.foldl (fun u b => dropFromPerson b.person (v.nat 1) u) s
    let u := { t with cau := { t.cau with cabins := t.cau.cabins.erase (v.nat 1) } }
    ({ status := .done, payload := .bindings c.bindings.length }, unlistNode c.segment c.node u)

/-- REMOVE_CABIN (R128). -/
def execRemoveCabin (tag : Byte) (body : List Byte) (s : State) : Out :=
  .next (hostRequest 0x41 oneCabinFields noCross removeCabin tag body s)

/-- QUERY CABIN at the CAU and the LSC (R129). -/
def queryCabin (v : Values) (s : State) : Answer × State :=
  match s.cau.cabins.get (v.nat 1) with
  | none => refuse .notFound s
  | some c => ({ status := .done, payload := .cabin (v.nat 1) c (((s.lsc c.segment).nodes.get c.node).map Node.reading) }, s)

/-- QUERY_CABIN (R129). -/
def execQueryCabin (tag : Byte) (body : List Byte) (s : State) : Out :=
  .next (hostRequest 0x47 oneCabinFields noCross queryCabin tag body s)

/-! ### Entry reports (R125) -/

/-- The CAU takes an entry report (R125); one for an address of no cabin is discarded. -/
def takeReport (r : EntryReport) (s : State) : State :=
  match s.cau.cabinAt r.segment r.node with
  | none => s
  | some (number, c) =>
    let t := putCabin number { c with entry := r.entry, privacy := r.privacy } s
    if r.entry = .heldOpen ∧ c.entry ≠ .heldOpen then raise .entryHeldOpen (subj number) {} t else t

/-- ENTRY_REPORT (R125): the oldest report handed to the CAU. -/
def execEntryReport (s : State) : Out :=
  let t := settle s
  .next (match t.cau.reports with
    | [] => t
    | r :: rest => takeReport r { t with cau := { t.cau with reports := rest } })

end Sys2Proof.Machine
end

