-- ==== Sys2Proof/Machine/Folios.lean ====
section
/-! DEFINITION. Folio requests (chapter 4.5). -/
namespace Sys2Proof.Machine

/-- A request that names a folio in use, NOT FOUND otherwise (chapter 4.5). -/
def withFolio (n : Nat) (act : Folio → State → Answer × State) (s : State) : Answer × State :=
  match s.fst.folios.get n with
  | some f => act f s
  | none => refuse .notFound s

/-- The CREDIT record of an amount posted and the balance it leaves (R80, R57). -/
def creditRecord (folio : Nat) (amount after : Int) : Record :=
  { kind := .credit, flags := { limited := isLimited after }, folio := folio, a := (splitOf amount).low, b := balanceField after,
    aux := (splitOf amount).high }

/-- The folio that OPEN FOLIO brings into use (R78). -/
def openedFolio (limit initial : Int) : Folio :=
  { state := if initial ≤ limit then .opened else .frozen, balance := initial, limit := limit, holds := [], personCount := 0,
    near := false, limited := false }

/-- OPEN FOLIO once its record, if any, is admitted (R78): the slot comes into use and the NEAR test runs. -/
def bringFolio (n : Nat) (limit initial : Int) (s : State) : Answer × State :=
  ({ status := .done, payload := .folioState (openedFolio limit initial).state }, nearTest n (putFolio n (openedFolio limit initial) s))

/-- OPEN FOLIO at the FST (R78). -/
def openFolio (v : Values) (s : State) : Answer × State :=
  let n := v.nat 1
  if (s.fst.folios.get n).isSome then refuse .conflict s
  else if v.int 3 = 0 then bringFolio n (v.int 2) 0 s
  else
    match offerMoney (creditRecord n (v.int 3) (v.int 3)) s with
    | (none, t) => refuse .journalFull t
    | (some _, t) =>
      let r := bringFolio n (v.int 2) (v.int 3) t
      (r.1, showBalance n r.2)

/-- OPEN_FOLIO (R78). -/
def execOpenFolio (tag : Byte) (body : List Byte) (s : State) : Out :=
  .next (hostRequest 0x20 openFolioFields noCross openFolio tag body s)

/-- SET LIMIT at the FST (R79). -/
def setLimit (v : Values) (s : State) : Answer × State :=
  withFolio (v.nat 1) (fun f t =>
    let g := { f with limit := v.int 2 }.frozenIfOver
    ({ status := .done, payload := .folioState g.state }, nearTest (v.nat 1) (putFolio (v.nat 1) g t))) s

/-- SET_LIMIT (R79). -/
def execSetLimit (tag : Byte) (body : List Byte) (s : State) : Out :=
  .next (hostRequest 0x21 setLimitFields noCross setLimit tag body s)

/-- A host posting would leave the bounds of R71 (R80 test 1). -/
def creditOutOfRange (balance amount : Int) : Bool :=
  (decide (amount < 0) && decide (balance + amount < -Config.balanceBound))
  || (decide (amount > 0) && decide (balance + amount > Config.balanceBound))

/-- POST CREDIT at the FST (R80). -/
def postCredit (v : Values) (s : State) : Answer × State :=
  let n := v.nat 1
  let amount := v.int 2
  withFolio n (fun f t =>
    if creditOutOfRange f.balance amount then refuse .amountRange t
    else
      match offerMoney (creditRecord n amount (f.balance + amount)) t with
      | (none, u) => refuse .journalFull u
      | (some _, u) =>
        let g := { f with balance := f.balance + amount }.frozenIfOver
        ({ status := .done, payload := .credit (balanceField g.balance) g.state },
         showBalance n (nearTest n (putFolio n g u)))) s

/-- POST_CREDIT (R80). -/
def execPostCredit (tag : Byte) (body : List Byte) (s : State) : Out :=
  .next (hostRequest 0x22 postCreditFields noCross postCredit tag body s)

/-- FREEZE at the FST (R81). -/
def freeze (v : Values) (s : State) : Answer × State :=
  withFolio (v.nat 1) (fun f t =>
    match f.state with
    | .closed => refuse .notNow t
    | .frozen => refuse .done t
    | .opened => ({ status := .done }, putFolio (v.nat 1) { f with state := .frozen } t)) s

/-- FREEZE (R81). -/
def execFreeze (tag : Byte) (body : List Byte) (s : State) : Out :=
  .next (hostRequest 0x23 oneFolioFields noCross freeze tag body s)

/-- THAW at the FST (R81). -/
def thaw (v : Values) (s : State) : Answer × State :=
  withFolio (v.nat 1) (fun f t =>
    match f.state with
    | .closed => refuse .notNow t
    | .opened => refuse .done t
    | .frozen => if f.overLimit then refuse .overLimit t else ({ status := .done }, putFolio (v.nat 1) { f with state := .opened } t)) s

/-- THAW (R81). -/
def execThaw (tag : Byte) (body : List Byte) (s : State) : Out :=
  .next (hostRequest 0x24 oneFolioFields noCross thaw tag body s)

/-- CLOSE FOLIO at the FST (R82). -/
def closeFolio (v : Values) (s : State) : Answer × State :=
  withFolio (v.nat 1) (fun f t =>
    if f.holds.isEmpty then ({ status := .done }, putFolio (v.nat 1) { f with state := .closed } t)
    else refuse .holdsOutstanding t) s

/-- CLOSE_FOLIO (R82). -/
def execCloseFolio (tag : Byte) (body : List Byte) (s : State) : Out :=
  .next (hostRequest 0x25 oneFolioFields noCross closeFolio tag body s)

/-- The folio taken back into use (R82). -/
def Folio.reopened (f : Folio) : Folio := { f with state := if f.balance ≤ f.limit then .opened else .frozen }

/-- REOPEN at the FST (R82). -/
def reopen (v : Values) (s : State) : Answer × State :=
  withFolio (v.nat 1) (fun f t =>
    if f.state = .closed then
      ({ status := .done, payload := .folioState f.reopened.state }, putFolio (v.nat 1) f.reopened t)
    else refuse .notNow t) s

/-- REOPEN (R82). -/
def execReopen (tag : Byte) (body : List Byte) (s : State) : Out :=
  .next (hostRequest 0x26 oneFolioFields noCross reopen tag body s)

/-- The available credit is 2^31 or more, which no split form carries (R55): a limit of 2^30 with a balance of -2^30. -/
def Folio.availableTooWide (f : Folio) : Bool := decide (f.available > 2147483647)

/-- The available credit in split form (R55). Where split form cannot carry it the spec states no value: the high field is a free value within its
range (log 48). -/
def State.availableSplit (s : State) (f : Folio) : Split :=
  if f.availableTooWide then { splitOf f.available with high := asSigned 1 (s.freeValue % 256) } else splitOf f.available

/-- What QUERY FOLIO carries (R83), the available credit in split form as given. -/
def folioReading (available : Split) (f : Folio) : Payload :=
  .folio f.state (balanceField f.balance) (splitOf f.limit) (splitOf f.reserved) available f.personCount f.near f.limited
    (f.holds.map Hold.reading)

/-- QUERY FOLIO at the FST (R83): the flags reported are those after any setting of LIMITED by the reply itself. -/
def queryFolio (v : Values) (s : State) : Answer × State :=
  withFolio (v.nat 1) (fun f t =>
    ({ status := .done, payload := folioReading (t.availableSplit f) { f with limited := f.limited || isLimited f.balance } },
     if f.availableTooWide then useFree (showBalance (v.nat 1) t) else showBalance (v.nat 1) t)) s

/-- QUERY_FOLIO (R83). -/
def execQueryFolio (tag : Byte) (body : List Byte) (s : State) : Out :=
  .next (hostRequest 0x27 oneFolioFields noCross queryFolio tag body s)

/-- QUERY FOLIO SPLIT at the FST (R58, R83). -/
def queryFolioSplit (v : Values) (s : State) : Answer × State :=
  withFolio (v.nat 1) (fun f t => ({ status := .done, payload := .folioSplit f.state (splitOf f.balance) }, t)) s

/-- QUERY_FOLIO_SPLIT (R83). -/
def execQueryFolioSplit (tag : Byte) (body : List Byte) (s : State) : Out :=
  .next (hostRequest 0x28 oneFolioFields noCross queryFolioSplit tag body s)

/-- CLEAR FLAGS at the FST (R77). -/
def clearFlags (v : Values) (s : State) : Answer × State :=
  withFolio (v.nat 1) (fun f t =>
    ({ status := .done, payload := .flags f.near f.limited }, putFolio (v.nat 1) { f with near := false, limited := false } t)) s

/-- CLEAR_FLAGS (R77). -/
def execClearFlags (tag : Byte) (body : List Byte) (s : State) : Out :=
  .next (hostRequest 0x29 oneFolioFields noCross clearFlags tag body s)

/-- SET FOLIO POLICY at the FST (R84). -/
def setFolioPolicy (v : Values) (s : State) : Answer × State :=
  ({ status := .done }, { s with fst := { s.fst with band := v.nat 1, lifetime := v.nat 2 } })

/-- SET_FOLIO_POLICY (R84). -/
def execSetFolioPolicy (tag : Byte) (body : List Byte) (s : State) : Out :=
  .next (hostRequest 0x2A setFolioPolicyFields noCross setFolioPolicy tag body s)

/-- QUERY_FOLIO_POLICY (R84). -/
def execQueryFolioPolicy (tag : Byte) (body : List Byte) (s : State) : Out :=
  .next (hostRequest 0x2B [] noCross (reading (fun t => .folioPolicy t.fst.band t.fst.lifetime)) tag body s)

end Sys2Proof.Machine
end

