-- ==== Sys2Proof/Machine/Registry.lean ====
section
/-! DEFINITION. Cards, persons and the purge (chapter 1). -/
namespace Sys2Proof.Machine

/-! ### Cards -/

/-- The new card of an ISSUE CARD (R1). -/
def newCard (v : Values) (now : Nat) : Card :=
  { serial := v.word 1, person := v.nat 2, state := .active, keyLevel := keyLevelOf (v.nat 3), mask := BitVec.ofNat 8 (v.nat 4),
    failStreak := 0, issuedAt := now, lastUse := none }

/-- Insert a card (R4, R5, R9): its person's card count rises, and PURGE ADVISED is raised when the live count reaches 11,000. -/
def insertCard (slot : Nat) (c : Card) (p : Person) (s : State) : State :=
  let t := putPerson c.person { p with ident := { p.ident with cardCount := p.ident.cardCount + 1 } } (putCard slot c s)
  if s.crg.live + 1 = Config.adviseLiveCards then raise .purgeAdvised (subj Config.adviseLiveCards) {} t else t

/-- ISSUE CARD at the CRG (R9). -/
def issueCard (v : Values) (s : State) : Answer × State :=
  match s.persons.get (v.nat 2) with
  | none => refuse .notFound s
  | some p =>
    if p.att.presence = .departed then refuse .departed s
    else if p.ident.cardCount ≥ Config.maxCardsPerPerson then refuse .personFull s
    else if s.crg.live ≥ Config.maxLiveCards then refuse .registryFull s
    else
      match s.crg.search (v.word 1) with
      | .found _ _ => refuse .conflict s
      | .noSlot => refuse .registryFull s
      | .freeAt slot =>
        ({ status := .done, payload := .slot slot (probeMoves (homeSlot (v.word 1)) slot) },
         insertCard slot (newCard v s.scl.voyage) p s)

/-- ISSUE_CARD (R9). -/
def execIssueCard (tag : Byte) (body : List Byte) (s : State) : Out :=
  .next (hostRequest 0x01 issueCardFields noCross issueCard tag body s)

/-- The four actions of SET CARD STATE (R10), in the order of their codes. -/
inductive CardAction where
  | suspend | resume | lost | withdraw
deriving DecidableEq, Repr

/-- SUSPEND, RESUME, LOST, WITHDRAW. -/
def cardActionOf : Nat → CardAction := pick .withdraw [.suspend, .resume, .lost, .withdraw]

/-- The table of R10: the resulting state, or the refusal; departed says whether the card's person is DEPARTED. -/
def cardOutcome (state : CardState) (action : CardAction) (departed : Bool) : Except Status CardState :=
  match action, state with
  | .suspend, .active => .ok .suspended
  | .suspend, .suspended => .ok .suspended
  | .suspend, .lost => .error .notNow
  | .suspend, .departed => .error .notNow
  | .suspend, .withdrawn => .error .notNow
  | .resume, .active => .ok .active
  | .resume, .suspended => .ok .active
  | .resume, .lost => if departed then .error .departed else .ok .active
  | .resume, .departed => if departed then .error .departed else .ok .active
  | .resume, .withdrawn => .error .notNow
  | .lost, .active => .ok .lost
  | .lost, .suspended => .ok .lost
  | .lost, .lost => .ok .lost
  | .lost, .departed => .ok .lost
  | .lost, .withdrawn => .error .notNow
  | .withdraw, _ => .ok .withdrawn

/-- The person is in use and DEPARTED. -/
def State.isDeparted (s : State) (person : Nat) : Bool :=
  match s.persons.get person with
  | some p => decide (p.att.presence = .departed)
  | none => false

/-- SET CARD STATE at the CRG (R10). -/
def setCardState (v : Values) (s : State) : Answer × State :=
  match s.crg.search (v.word 1) with
  | .found slot c =>
    match cardOutcome c.state (cardActionOf (v.nat 2)) (s.isDeparted c.person) with
    | .error e => refuse e s
    | .ok st =>
      ({ status := .done, payload := .cardState st },
       putCard slot { c with state := st, failStreak := if st = .active then 0 else c.failStreak } s)
  | _ => refuse .notFound s

/-- SET_CARD_STATE (R10). -/
def execSetCardState (tag : Byte) (body : List Byte) (s : State) : Out :=
  .next (hostRequest 0x02 setCardStateFields noCross setCardState tag body s)

/-- QUERY CARD at the CRG (R11). -/
def queryCard (v : Values) (s : State) : Answer × State :=
  match s.crg.search (v.word 1) with
  | .found slot c => ({ status := .done, payload := .card c slot (probeMoves (homeSlot (v.word 1)) slot) }, s)
  | _ => refuse .notFound s

/-- QUERY_CARD (R11). -/
def execQueryCard (tag : Byte) (body : List Byte) (s : State) : Out :=
  .next (hostRequest 0x03 queryCardFields noCross queryCard tag body s)

/-! ### Persons -/

/-- The new person of an ADD PERSON (R13). -/
def newPerson (cls : PersonClass) (folio : Nat) (presence : Presence) (now : Nat) : Person :=
  { ident := { cls := cls, folio := folio, cardCount := 0, cabins := [] }
    spend := { privilege := if cls = .guest ∨ cls = .crew then .full else .noPrivilege, allowance := 0, spentToday := 0, spendDay := none,
               minor := decide (cls = .child) }
    att := { presence := presence, stamp := now, lastStation := none, final := false, missing := false, irregular := false } }

/-- One person more names a folio, or one fewer. -/
def changePersonCount (folio : Nat) (change : Nat → Nat) (s : State) : State :=
  match s.fst.folios.get folio with
  | some f => putFolio folio { f with personCount := change f.personCount } s
  | none => s

/-- ADD PERSON at the CRG, the PRU and the FST (R13). -/
def addPerson (v : Values) (s : State) : Answer × State :=
  let cls := classOf (v.nat 2)
  let folio := v.nat 3
  let presence := match v.optNat 4 with
    | some p => presenceOf p
    | none => .expected
  if (s.persons.get (v.nat 1)).isSome then refuse .conflict s
  else if folio ≠ 0 ∧ (s.fst.folios.get folio).isNone then refuse .notFound s
  else if presence = .departed then refuse .range s
  else
    let t := putPerson (v.nat 1) (newPerson cls folio presence s.scl.voyage) s
    let u := { t with pru := t.pru.setCount cls presence (t.pru.count cls presence + 1) }
    ({ status := .done }, if folio = 0 then u else changePersonCount folio (· + 1) u)

/-- ADD_PERSON (R13). -/
def execAddPerson (tag : Byte) (body : List Byte) (s : State) : Out :=
  .next (hostRequest 0x04 addPersonFields noCross addPerson tag body s)

/-! ### The purge -/

/-- Set the purge's state. -/
def setPurge (p : Purge) (s : State) : State := { s with crg := { s.crg with purge := p } }

/-- PURGE START at the CRG (R15). -/
def purgeStart (_ : Values) (s : State) : Answer × State :=
  if s.crg.purge.phase = .idle then
    ({ status := .done },
     setPurge { s.crg.purge with phase := .cards 0, shift := none, abort := false, counts := ⟨0, 0, 0⟩ } s)
  else refuse .purgeActive s

/-- PURGE_START (R15). -/
def execPurgeStart (tag : Byte) (body : List Byte) (s : State) : Out :=
  .next (hostRequest 0x05 [] noCross purgeStart tag body s)

/-- PURGE ABORT at the CRG (R23). -/
def purgeAbort (_ : Values) (s : State) : Answer × State :=
  if s.crg.purge.phase = .idle then refuse .notNow s
  else ({ status := .done }, setPurge { s.crg.purge with abort := true } s)

/-- PURGE_ABORT (R23). -/
def execPurgeAbort (tag : Byte) (body : List Byte) (s : State) : Out :=
  .next (hostRequest 0x06 [] noCross purgeAbort tag body s)

/-- QUERY_PURGE (R24). -/
def execQueryPurge (tag : Byte) (body : List Byte) (s : State) : Out :=
  .next (hostRequest 0x07 [] noCross (reading (fun t => .purge t.crg.purge.reading)) tag body s)

/-- The end of a purge (R22, R23): IDLE, the last result, the counts back to 0 (R24), and PURGE DONE. That abort requested is no from the end on, and not only from the
next PURGE START (R15), is the model's choice (log 56). -/
def endPurge (e : Ending) (s : State) : State :=
  let r := s.crg.purge.counts
  raise .purgeDone (if e = .complete then 0 else 1) (detail (min 65535 r.cards) (min 65535 r.persons) (min 65535 r.folios))
    (setPurge { phase := .idle, shift := none, abort := false, counts := ⟨0, 0, 0⟩, last := some (r, e) } s)

/-- An abort has been requested and no shift is in progress: the purge ends before its next step (R23). -/
def Purge.endsNow (p : Purge) : Bool := p.phase != .idle && p.abort && p.shift.isNone

/-- A card that the purge removes (R17). -/
def State.removable (s : State) (c : Card) : Bool :=
  match c.state with
  | .departed => true
  | .withdrawn => true
  | .lost => s.isDeparted c.person
  | .active => false
  | .suspended => false

/-- A removal (R18). -/
def removeCard (slot : Nat) (c : Card) (s : State) : State :=
  let t := match s.persons.get c.person with
    | some p => putPerson c.person { p with ident := { p.ident with cardCount := p.ident.cardCount - 1 } } s
    | none => s
  let q := t.crg.purge
  { t with crg := { ring := t.crg.ring.erase slot,
                    purge := { q with shift := some { hole := slot, examine := nextSlot slot },
                                      counts := { q.counts with cards := q.counts.cards + 1 } } } }

/-- The walk of phase CARDS goes on from a slot (R17). -/
def Purge.cardsOn (p : Purge) (walk : Nat) : Purge :=
  { p with phase := if walk + 1 = Config.ringSlots then .persons 1 else .cards (walk + 1) }

/-- A purge step in phase CARDS with no shift in progress (R17). -/
def cardsStep (walk : Nat) (s : State) : State :=
  match s.crg.ring.get walk with
  | some c => if s.removable c then removeCard walk c s else setPurge (s.crg.purge.cardsOn walk) s
  | none => setPurge (s.crg.purge.cardsOn walk) s

/-- PURGE_CARDS_STEP (R17); with an abort requested the purge ends instead (R23). -/
def execPurgeCardsStep (s : State) : Out :=
  let t := settle s
  .next (if t.crg.purge.endsNow then endPurge .aborted t
    else
      match t.crg.purge.phase, t.crg.purge.shift with
      | .cards walk, none => cardsStep walk t
      | _, _ => t)

/-- A card of a home slot, held at a slot, may fill the HOLE (R19). -/
def mayFill (home hole slot : Nat) : Bool := decide (probeMoves home hole < probeMoves home slot)

/-- The CRG after a shift step (R19). -/
def Crg.shifted (g : Crg) (h : Shift) : Crg :=
  match g.ring.get h.examine with
  | none => { g with purge := { g.purge with shift := none } }
  | some c =>
    if mayFill (homeSlot c.serial) h.hole h.examine then
      { ring := (g.ring.erase h.examine).set h.hole c,
        purge := { g.purge with shift := some { hole := h.examine, examine := nextSlot h.examine } } }
    else { g with purge := { g.purge with shift := some { h with examine := nextSlot h.examine } } }

/-- SHIFT_STEP (R19); a shift that ends with an abort requested ends the purge (R23). -/
def execShiftStep (s : State) : Out :=
  let t := settle s
  .next (match t.crg.purge.shift with
    | some h =>
      let u := { t with crg := t.crg.shifted h }
      if u.crg.purge.endsNow then endPurge .aborted u else u
    | none => t)

/-- The cabin's list without a person's binding (R111). -/
def Cabin.unbound (c : Cabin) (person : Nat) : Cabin := { c with bindings := c.bindings.filter (fun b => b.person ≠ person) }

/-- Take a person's binding off a cabin's list (R111). -/
def dropFromCabin (person cabin : Nat) (s : State) : State :=
  match s.cau.cabins.get cabin with
  | some c => putCabin cabin (c.unbound person) s
  | none => s

/-- Freeing a person (R21). -/
def freePerson (n : Nat) (p : Person) (s : State) : State :=
  let s1 := p.ident.cabins.foldl (fun t cabin => dropFromCabin n cabin t) s
  let s2 := { s1 with pru := s1.pru.setCount p.ident.cls .departed (s1.pru.count p.ident.cls .departed - 1) }
  let s3 := if p.ident.folio = 0 then s2 else changePersonCount p.ident.folio (· - 1) s2
  let s4 := { s3 with persons := s3.persons.erase n }
  setPurge { s4.crg.purge with counts := { s4.crg.purge.counts with persons := s4.crg.purge.counts.persons + 1 } } s4

/-- A purge step in phase PERSONS (R21). -/
def personsStep (walk : Nat) (s : State) : State :=
  let t := match s.persons.get walk with
    | some p => if p.att.presence = .departed ∧ p.ident.cardCount = 0 then freePerson walk p s else s
    | none => s
  setPurge { t.crg.purge with phase := if walk + 1 > Config.persons then .folios 1 else .persons (walk + 1) } t

/-- PURGE_PERSONS_STEP (R21); with an abort requested the purge ends instead (R23). -/
def execPurgePersonsStep (s : State) : Out :=
  let t := settle s
  .next (if t.crg.purge.endsNow then endPurge .aborted t
    else
      match t.crg.purge.phase with
      | .persons walk => personsStep walk t
      | _ => t)

/-- The FST frees the folio now (R22). -/
def Folio.freeable (f : Folio) : Bool := decide (f.state = .closed) && decide (f.balance = 0) && decide (f.personCount = 0)

/-- The folio's slot becomes free and the folios-freed count rises (R22). -/
def freeFolio (n : Nat) (s : State) : State :=
  let t := { s with fst := { s.fst with folios := s.fst.folios.erase n } }
  setPurge { t.crg.purge with counts := { t.crg.purge.counts with folios := t.crg.purge.counts.folios + 1 } } t

/-- A purge step in phase FOLIOS (R22); after folio 4,000 the purge ends complete. -/
def foliosStep (walk : Nat) (s : State) : State :=
  let t := match s.fst.folios.get walk with
    | some f => if f.freeable then freeFolio walk s else s
    | none => s
  if walk + 1 > Config.folios then endPurge .complete t
  else setPurge { t.crg.purge with phase := .folios (walk + 1) } t

/-- PURGE_FOLIOS_STEP (R22); with an abort requested the purge ends instead (R23). -/
def execPurgeFoliosStep (s : State) : Out :=
  let t := settle s
  .next (if t.crg.purge.endsNow then endPurge .aborted t
    else
      match t.crg.purge.phase with
      | .folios walk => foliosStep walk t
      | _ => t)

/-- PURGE_ENDS_ABORTED (R23). -/
def execPurgeEndsAborted (s : State) : Out :=
  let t := settle s
  .next (if t.crg.purge.endsNow then endPurge .aborted t else t)

end Sys2Proof.Machine
end

