-- ==== Sys2Proof/Machine/Transfers.lean ====
section
/-! DEFINITION. The journal requests (chapter 9) and the transfers: DRAIN, SCAN FOLIOS, READ MISSING and LOAD, with NEXT, STOP, LOAD ITEM and the
service window (chapter 10.3, 10.4). -/
namespace Sys2Proof.Machine

/-- The SLC's transfer is set or ended; no service window runs while an exchange of it is open (R191). -/
def setTransfer (t : Option Transfer) (s : State) : State := { s with slc := { s.slc with transfer := t, windowMs := none } }

/-! ### Frames of a drain (R178-R180) -/

/-- The records of n sequences from one on (R171). -/
def Jnl.recordsFrom (j : Jnl) : (n : Nat) → Word32 → List Record
  | 0, _ => []
  | n + 1, q =>
    match j.recordAt q with
    | some r => r :: Jnl.recordsFrom j n (q + 1)
    | none => Jnl.recordsFrom j n (q + 1)

/-- How many records a drain frame takes (R179): 8, the remaining count, or those short of the next sequence. -/
def Jnl.frameCount (j : Jnl) (position : Word32) (remaining : Nat) : Nat := min (min 8 remaining) (j.used - j.ahead position)

/-- The journal when a frame has carried the records before a sequence (R179): the delivery point moves up to it when it lies beyond. -/
def Jnl.carried (j : Jnl) (after : Word32) : Jnl := if j.ahead j.delivered < j.ahead after then { j with delivered := after } else j

/-- A frame of a drain (R179): its records and END, and the state after it; last is the sequence last carried before. -/
def drainFrame (position : Word32) (remaining : Nat) (last : Word32) (s : State) : Answer × State :=
  let k := s.jnl.frameCount position remaining
  let after := position + BitVec.ofNat 32 k
  let fin := decide (remaining ≤ k) || decide (s.jnl.used ≤ s.jnl.ahead position + k)
  let t := { s with jnl := if k = 0 then s.jnl else s.jnl.carried after }
  ({ status := .done, payload := .records (s.jnl.recordsFrom k position) fin },
   setTransfer (if fin then none else some (.drain after (remaining - k) (if k = 0 then last else after - 1))) t)

/-- DRAIN at the JNL (R178). -/
def drain (v : Values) (s : State) : Answer × State :=
  if s.jnl.ahead (v.word 1) < s.jnl.used then drainFrame (v.word 1) (v.nat 2) (v.word 1) s
  else ({ status := .range, payload := .pointers s.jnl.released s.jnl.next }, s)

/-- DRAIN (R178). -/
def execDrain (tag : Byte) (body : List Byte) (s : State) : Out :=
  .next (hostRequest 0x60 drainFields noCross drain tag body s)

/-! ### Releasing (R181) -/

/-- The journal with the first n records released (R181): their slots hold nothing more. -/
def Jnl.release (j : Jnl) (n : Nat) : Jnl :=
  { j with ring := j.ring.filter (fun e => decide (n ≤ (e.1 + (Config.journalSlots - slotOf j.released)) % Config.journalSlots)),
           released := j.released + BitVec.ofNat 32 n }

/-- RELEASE at the JNL (R181). -/
def release (v : Values) (s : State) : Answer × State :=
  let d := s.jnl.ahead (v.word 1)
  if d < s.jnl.ahead s.jnl.delivered then
    let j := s.jnl.release (d + 1)
    ({ status := .done, payload := .released j.released j.used }, { s with jnl := j })
  else if d < 2147483648 then ({ status := .range, payload := .pointers s.jnl.released s.jnl.delivered }, s)
  else ({ status := .done, payload := .released s.jnl.released s.jnl.used }, s)

/-- RELEASE (R181). -/
def execRelease (tag : Byte) (body : List Byte) (s : State) : Out :=
  .next (hostRequest 0x61 releaseFields noCross release tag body s)

/-- A drain is open. -/
def Slc.drainOpen (c : Slc) : Bool :=
  match c.transfer with
  | some (.drain _ _ _) => true
  | _ => false

/-- What QUERY JOURNAL carries (R182). -/
def journalReading (s : State) : Payload :=
  .journal s.jnl.released s.jnl.delivered s.jnl.next s.jnl.used s.jnl.freeSlots s.jnl.drops s.jnl.overflow s.slc.drainOpen

/-- QUERY_JOURNAL (R182). -/
def execQueryJournal (tag : Byte) (body : List Byte) (s : State) : Out :=
  .next (hostRequest 0x62 [] noCross (reading journalReading) tag body s)

/-! ### Frames of a walk (R86, R164) -/

/-- A frame of a walk from the numbers that match at or above the walk position. -/
structure WalkFrame where
  found : List Nat
  last  : Nat
deriving DecidableEq, Repr

/-- A walk stops when it has collected so many or has visited the end (R86, R164). -/
def walkFrame (limit fin : Nat) (hits : List Nat) : WalkFrame :=
  if limit ≤ hits.length then { found := hits.take limit, last := (hits.take limit).getLastD fin } else { found := hits, last := fin }

/-- The folio's state is in the filter (R85). -/
def ScanQuery.admits (q : ScanQuery) (st : FolioState) : Bool :=
  match st with
  | .opened => q.inOpen
  | .frozen => q.inFrozen
  | .closed => q.inClosed

/-- The condition holds on a folio (R85). -/
def ScanQuery.holds (q : ScanQuery) (f : Folio) : Bool :=
  match q.condition with
  | .balanceAtLeast => decide (q.x ≤ f.balance)
  | .balanceAtMost => decide (f.balance ≤ q.x)
  | .balanceEqual => decide (f.balance = q.x)
  | .availableAtMost => decide (f.available ≤ q.x)

/-- The folio matches (R85). -/
def ScanQuery.isMatch (q : ScanQuery) (f : Folio) : Bool := q.admits f.state && q.holds f

/-- The folios that match from a walk position on, ascending (R86). -/
def Fst.hits (f : Fst) (q : ScanQuery) (walk : Nat) : List Nat :=
  (f.folios.filter (fun e => decide (walk ≤ e.1) && q.isMatch e.2)).map (·.1)

/-- A frame of a scan (R86). -/
def scanFrame (q : ScanQuery) (walk : Nat) (s : State) : Answer × State :=
  let w := walkFrame 32 Config.folios (s.fst.hits q walk)
  let fin := decide (Config.folios ≤ w.last)
  ({ status := .done, payload := .numbers w.found w.last fin },
   setTransfer (if fin then none else some (.scan q (w.last + 1) w.last)) s)

/-- What a SCAN FOLIOS looks for (R85). The states of the filter stand from bit 0 on in the order listed (log 55). -/
def scanQueryOf (v : Values) : ScanQuery :=
  { condition := conditionOf (v.nat 1), x := v.int 2, inOpen := (v.nat 3).testBit 0, inFrozen := (v.nat 3).testBit 1,
    inClosed := (v.nat 3).testBit 2 }

/-- SCAN FOLIOS at the FST (R85). -/
def scanFolios (v : Values) (s : State) : Answer × State := scanFrame (scanQueryOf v) (v.nat 4) s

/-- SCAN_FOLIOS (R85). -/
def execScanFolios (tag : Byte) (body : List Byte) (s : State) : Out :=
  .next (hostRequest 0x2C scanFoliosFields noCross scanFolios tag body s)

/-- The persons marked MISSING from a walk position on, ascending (R164). -/
def State.missingFrom (s : State) (walk : Nat) : List Nat :=
  (s.persons.filter (fun e => decide (walk ≤ e.1) && e.2.att.missing)).map (·.1)

/-- A frame of a READ MISSING (R164). -/
def missingFrame (walk : Nat) (s : State) : Answer × State :=
  let w := walkFrame 64 Config.persons (s.missingFrom walk)
  let fin := decide (Config.persons ≤ w.last)
  ({ status := .done, payload := .numbers w.found w.last fin },
   setTransfer (if fin then none else some (.missing (w.last + 1) w.last)) s)

/-- READ MISSING at the PRU (R164). -/
def readMissing (v : Values) (s : State) : Answer × State := missingFrame (v.nat 1) s

/-- READ_MISSING (R164). -/
def execReadMissing (tag : Byte) (body : List Byte) (s : State) : Out :=
  .next (hostRequest 0x5A readMissingFields noCross readMissing tag body s)

/-! ### LOAD (R192-R194) -/

/-- LOAD at the SLC (R192). -/
def load (v : Values) (s : State) : Answer × State :=
  ({ status := .ready, payload := .nextIndex 1 }, setTransfer (some (.load (loadTableOf (v.nat 1)) (v.nat 2) 1 none)) s)

/-- LOAD (R192). -/
def execLoad (tag : Byte) (body : List Byte) (s : State) : Out :=
  .next (hostRequest 0x72 loadFields noCross load tag body s)

/-- The single request of a table (chapter 10.4). -/
def singleRequest (t : LoadTable) (v : Values) (s : State) : Answer × State :=
  match t with
  | .persons => addPerson v s
  | .cards => issueCard v s
  | .folios => openFolio v s
  | .cabins => addCabin v s
  | .bindings => bind v s

/-- The length and the index of a LOAD ITEM (R190 test 4). -/
def judgeItem (t : LoadTable) (body : List Byte) : Except Nat Nat :=
  if body.length = loadIndexField.width + fieldsWidth (itemFields t) then
    match loadIndexField.decode (body.take loadIndexField.width) with
    | some (some i) => .ok i.toNat
    | _ => .error 1
  else .error 0

/-- The item of the next index (R193 case 1): MALFORMED with its field counted after the index field, or executed as the single request. -/
def takeItem (t : LoadTable) (count index : Nat) (stored : Option StoredVerdict) (item : List Byte) (s : State) : Answer × State :=
  match decodeFieldsFrom 2 (itemFields t) item with
  | .error i => ({ status := .malformed, payload := .field i }, setTransfer (some (.load t count index stored)) s)
  | .ok v =>
    let r := singleRequest t v s
    let fin := decide (index = count)
    ({ status := r.1.status, payload := .item r.1.payload index (index + 1) fin },
     setTransfer (if fin then none else some (.load t count (index + 1) (some ⟨r.1.status, r.1.payload⟩))) r.2)

/-- A LOAD ITEM by its index (R193). -/
def loadItem (t : LoadTable) (count next : Nat) (stored : Option StoredVerdict) (index : Nat) (item : List Byte) (s : State) :
    Answer × State :=
  if index = next then takeItem t count index stored item s
  else
    match stored with
    | some w =>
      if index + 1 = next then ({ status := w.status, payload := .item w.payload index next false }, s)
      else ({ status := .range, payload := .nextIndex next }, s)
    | none => ({ status := .range, payload := .nextIndex next }, s)

/-! ### Requests of an open transfer (R190, R191) -/

/-- The service window stops (R191). -/
def stopWindow (s : State) : State := { s with slc := { s.slc with windowMs := none } }

/-- A request that the open transfer takes, judged from test 3 of R190 on; it opens an exchange and stops the service window (R191). -/
def transferRequest {α : Type} (code : Byte) (judged : Except Nat α) (own : α → State → Answer × State) (tag : Byte) (s : State) : State :=
  if s.slc.exchange then sendReply code tag { status := .busy } false s
  else
    match judged with
    | .error i => sendReply code tag { status := .malformed, payload := .field i } false s
    | .ok v => execute code tag (own v) (stopWindow s)

/-- INVALID (R190 tests 1 and 2). -/
def invalidReply (code tag : Byte) (s : State) : State := sendReply code tag { status := .invalid } false s

/-- The next frame of a transfer that is pulled (R180, R86, R164). -/
def nextFrame (t : Transfer) (s : State) : Answer × State :=
  match t with
  | .drain position remaining last => drainFrame position remaining last s
  | .scan q walk _ => scanFrame q walk s
  | .missing walk _ => missingFrame walk s
  | .load _ _ next _ => ({ status := .invalid, payload := .nextIndex next }, s)

/-- NEXT (R180, R190). -/
def execNext (tag : Byte) (body : List Byte) (s : State) : Out :=
  let t := received .service s
  .next (match t.slc.transfer with
    | none => invalidReply 0x70 tag t
    | some (.load _ _ _ _) => invalidReply 0x70 tag t
    | some tr => transferRequest 0x70 (judgeFields [] noCross body) (fun _ => nextFrame tr) tag t)

/-- What the reply to STOP names (R180, R86, R164, R194). -/
def Transfer.stopReading : Transfer → Payload
  | .drain _ _ last => .lastSequence last
  | .scan _ _ last => .lastVisited last
  | .missing _ last => .lastVisited last
  | .load _ _ next _ => .nextIndex next

/-- STOP (R180, R191): the transfer ends without another frame. -/
def execStop (tag : Byte) (body : List Byte) (s : State) : Out :=
  let t := received .service s
  .next (match t.slc.transfer with
    | none => invalidReply 0x71 tag t
    | some tr =>
      transferRequest 0x71 (judgeFields [] noCross body)
        (fun _ u => ({ status := .done, payload := tr.stopReading }, setTransfer none u)) tag t)

/-- LOAD_ITEM (R193). -/
def execLoadItem (tag : Byte) (body : List Byte) (s : State) : Out :=
  let t := received .service s
  .next (match t.slc.transfer with
    | some (.load table count next stored) =>
      transferRequest 0x73 (judgeItem table body)
        (fun index => loadItem table count next stored index (body.drop loadIndexField.width)) tag t
    | _ => invalidReply 0x73 tag t)

/-- The cause that a transfer's end by its window raises (R180, R194). -/
def raiseOverrun (t : Transfer) (s : State) : State :=
  match t with
  | .drain _ _ last => raise .drainOverrun last {} s
  | .load table _ next _ => raise .loadOverrun (subj table.number) (detail next) s
  | .scan _ _ _ => s
  | .missing _ _ => s

/-- SERVICE_WINDOW_EXPIRY (R191): the service window ends, and the open transfer with it. -/
def execServiceWindowExpiry (s : State) : Out :=
  let t := settle s
  .next (match t.slc.transfer, t.slc.windowMs with
    | some tr, some _ => raiseOverrun tr (setTransfer none t)
    | _, _ => t)

end Sys2Proof.Machine
end

