-- ==== Sys2Proof/Machine/Link.lean ====
section
/-! DEFINITION. Attention requests, service states, RESTART and power-on, and the framing events of the ports (chapter 10). -/
namespace Sys2Proof.Machine

/-! ### Attention (R197, R198) -/

/-- A cause chosen for SENSE (R197). -/
structure Chosen where
  number   : Nat
  priority : Nat
  record   : PendingRecord
deriving DecidableEq, Repr

/-- The pending cause of the highest priority, the lowest number among equals, from causes numbered from n on (R197). -/
def chooseCause : (n : Nat) → List CauseEntry → Option Chosen
  | _, [] => none
  | n, e :: es =>
    match e.pending, chooseCause (n + 1) es with
    | none, r => r
    | some p, none => some { number := n, priority := e.priority, record := p }
    | some p, some c => if e.priority < c.priority then some c else some { number := n, priority := e.priority, record := p }

/-- The cause that SENSE would report (R197). -/
def Atu.chosen (a : Atu) : Option Chosen := chooseCause 1 a.causes.toList

/-- The place of a cause's number, which is 1-25. -/
def placeOf (number : Nat) : Fin 25 := ⟨(number - 1) % 25, by omega⟩

/-- Change the entry of a cause by its number, ATTN following (R196). -/
def changeCause (number : Nat) (f : CauseEntry → CauseEntry) (s : State) : State :=
  { s with atu := Atu.withCauses (s.atu.causes.set (placeOf number) (f s.atu.causes[placeOf number])) }

/-- SENSE at the ATU (R197). -/
def sense (_ : Values) (s : State) : Answer × State :=
  match s.atu.chosen with
  | some c =>
    ({ status := .done, payload := .cause c.number c.priority c.record }, changeCause c.number (fun e => { e with pending := none }) s)
  | none => ({ status := .done, payload := .noCause }, s)

/-- SENSE (R197). -/
def execSense (tag : Byte) (body : List Byte) (s : State) : Out :=
  .next (hostRequest 0x74 [] noCross sense tag body s)

/-- The priority of a cause by its number. -/
def Atu.priorityOf (a : Atu) (number : Nat) : Nat := a.causes[placeOf number].priority

/-- A cause's entry with a new priority; priority 0 discards its pending record (R198). -/
def CauseEntry.withPriority (e : CauseEntry) (priority : Nat) : CauseEntry :=
  { priority := priority, pending := if priority = 0 then none else e.pending }

/-- SET PRIORITY at the ATU (R198). -/
def setPriority (v : Values) (s : State) : Answer × State :=
  ({ status := .done, payload := .priority (s.atu.priorityOf (v.nat 1)) },
   changeCause (v.nat 1) (fun e => e.withPriority (v.nat 2)) s)

/-- SET_PRIORITY (R198). -/
def execSetPriority (tag : Byte) (body : List Byte) (s : State) : Out :=
  .next (hostRequest 0x75 setPriorityFields noCross setPriority tag body s)

/-- What QUERY ATTENTION carries: each cause's priority and, when a record is pending, its occurrence count. -/
def attentionReading (s : State) : Payload :=
  .attention (s.atu.causes.toList.map (fun e => (e.priority, e.pending.map (·.count))))

/-- QUERY_ATTENTION (chapter 10.5). -/
def execQueryAttention (tag : Byte) (body : List Byte) (s : State) : Out :=
  .next (hostRequest 0x76 [] noCross (reading attentionReading) tag body s)

/-! ### Service states (R199, R200) -/

/-- The clock at START SERVICE (R38): the folio day given, and the close point formed from the last close, or from now when there is none. -/
def Scl.started (c : Scl) (folioDay : Nat) : Scl :=
  let after := match c.lastClose with
    | some l => l.atLocal
    | none => c.localTime
  { c with folioDay := folioDay, closePoint := some (nextCloseInstant c.closeHour after), closeHeld := false }

/-- START SERVICE at the SLC, the SCL and the PRU (R199). -/
def startService (v : Values) (s : State) : Answer × State :=
  if s.slc.service = .serving then refuse .notNow s
  else
    let t := { s with slc := { s.slc with service := .serving }, scl := s.scl.started (v.nat 1) }
    ({ status := .done }, judgeFetch 3 (judgeFetch 2 (judgeFetch 1 (judgeFetch 0 t))))

/-- START_SERVICE (R199). -/
def execStartService (tag : Byte) (body : List Byte) (s : State) : Out :=
  .next (hostRequest 0x77 startServiceFields noCross startService tag body s)

/-- The kind of the open transfer: 0 none, 1 DRAIN, 2 SCAN FOLIOS, 3 READ MISSING, 4 LOAD (R200). -/
def Slc.transferNumber (c : Slc) : Nat :=
  match c.transfer with
  | none => 0
  | some (.drain _ _ _) => 1
  | some (.scan _ _ _) => 2
  | some (.missing _ _) => 3
  | some (.load _ _ _ _) => 4

/-- What STATUS carries (R200). -/
def statusReading (s : State) : Payload :=
  .status s.slc.service s.slc.transferNumber s.scl.voyage s.scl.folioDay s.crg.live s.persons.length s.fst.folios.length
    s.fst.outstanding.length s.cau.cabins.length (s.lscs.toList.map (fun l => l.countState .silent)).sum
    (s.pru.stations.toList.map (·.attached)) s.jnl.released s.jnl.delivered s.jnl.next s.jnl.freeSlots s.jnl.drops s.crg.purge.phase.name
    s.pru.timer.name s.pru.missingCount (s.atu.causes.toList.countP (fun e => e.pending.isSome))
    (match s.atu.chosen with
     | some c => c.number
     | none => 0)

/-- STATUS (R200). -/
def execStatus (tag : Byte) (body : List Byte) (s : State) : Out :=
  .next (hostRequest 0x78 [] noCross (reading statusReading) tag body s)

/-! ### RESTART and power-on (R201, R202) -/

/-- The kind of a waiting request. -/
def Work.kind : Work → TillKind
  | .charge _ _ => .charge
  | .openTab _ => .openTab
  | .closeTab _ _ _ => .closeTab
  | .void _ => .void

/-- A WORKING till is answered NOT SERVING (R94, R201). -/
def dismissTill (n : Fin 128) (s : State) : State :=
  match (s.till n).working with
  | some w => answerTill (answerKind w.work.kind) w.sequence (tillByte n) false (bareAnswer .notServing) s
  | none => s

/-- The LSC of a segment at RESTART (R146): a turn that holds a card is closed with a DECISION of DEFER. -/
def dismissTurn (i : Fin 8) (s : State) : State :=
  match (s.lsc i).turn with
  | some tr =>
    match tr.heldCard with
    | some serial => send (.segment i) (.decision tr.address serial .defer) s
    | none => s
  | none => s

/-- The tables and settings that RESTART returns to their power-on values (R14, R63, R87, R109, R130, R146, R170, R201): the journal, the clock
less its close point, the receivers and what the ports still have to transmit are kept. -/
def restarted (s : State) : State :=
  { s with slc := Slc.reset, atu := Atu.reset, crg := Crg.reset, persons := [],
           scl := { s.scl with closePoint := none, closeHeld := false },
           chu := Chu.reset, fst := Fst.reset, cau := Cau.reset, lscs := Vector.replicate 8 Lsc.reset,
           pru := Pru.reset (mapVec (·.lineHigh) s.pru.stations),
           ports := { s.ports with rx := mapVec Receiver.windowless s.ports.rx } }

/-- The RESTART event at every block (R201). Several WORKING tills are answered in ascending till number, an order the spec does not give: the model's choice
(log 49). -/
def restartEvent (s : State) : State :=
  restarted ((List.finRange 8).foldl (fun t i => dismissTurn i t) ((List.finRange 128).foldl (fun t n => dismissTill n t) s))

/-- RESTART (R201): refused BUSY while an exchange is open, and taken whether or not a transfer is open. -/
def execRestart (tag : Byte) (body : List Byte) (s : State) : Out :=
  let t := received .service s
  .next (if t.slc.exchange then sendReply 0x79 tag { status := .busy } false t
    else
      match judgeFields [] noCross body with
      | .error i => sendReply 0x79 tag { status := .malformed, payload := .field i } false t
      | .ok _ => execute 0x79 tag (fun u => ({ status := .done }, restartEvent u)) t)

/-- POWER_ON (R202): every block takes its power-on values, the station lines being sampled as they stand (R170); the commands that wait, the
bytes still to arrive and the counter of free values are no part of the controller and stay (log 35). -/
def execPowerOn (s : State) : Out :=
  .next { State.powerOn (mapVec (·.lineHigh) s.pru.stations) with free := s.free, lines := s.lines, pending := s.pending }

/-- INVALID (R190 test 2): a frame of a kind that is no request; a kind that is one is no such frame (log 2). -/
def execInvalid (kind tag : Byte) (_body : List Byte) (s : State) : Out :=
  .next (if knownRequest kind then settle s else invalidReply kind tag (received .service s))

/-! ### Framing events (R185, R186) -/

/-- A frame is discarded on a port (R185): the receiver hunts again; no reply goes out and no state is left behind. A reply window that ended while the
frame was coming has its end now (R136, R150). -/
def discardOn (p : Port) (s : State) : State :=
  match p with
  | .segment i => discardOnSegment i s
  | .station g => discardOnStation g s
  | .service => setRx .service .hunting s
  | .till => setRx .till .hunting s

/-- DISCARDED_FRAME (R185): for a reason that the envelope or the port's owner has: a length outside 2-1,024, a gap, a CRC that fails, a kind that does
not suit the port. A frame without such a fault is not discarded, and the command has no occasion (log 2). -/
def execDiscardedFrame (p : Port) (why : Discard) (s : State) : Out :=
  let t := settle s
  .next (if why.fits p then discardOn p t else t)

/-- The end of a reply's transmission (R189, R191): the exchange ends, and the service window of a transfer that goes on begins. -/
def replySent (s : State) : State :=
  { s with slc := { s.slc with exchange := false,
                               windowMs := if s.slc.transfer.isSome then some Config.serviceWindowMs else s.slc.windowMs } }

/-- A frame that opens a turn (R135). -/
def Frame.opensTurn : Frame → Bool
  | .poll _ => true
  | .mode _ _ => true
  | _ => false

/-- The reply window of a segment's turn begins at the end of its frame (R135). -/
def startTurnWindow (i : Fin 8) (s : State) : State :=
  match (s.lsc i).turn with
  | some tr => if tr.window = .toBegin then putTurn i { tr with window := .running } s else s
  | none => s

/-- The reply window of a station's fetch begins at the end of its FETCH frame (R149). -/
def startFetchWindow (g : Fin 4) (s : State) : State :=
  match (s.station g).fetch with
  | .waiting .toBegin => putStation g { s.station g with fetch := .waiting .running } s
  | _ => s

/-- What the end of a frame's transmission brings, the later frames of its port standing as given (log 33). -/
def frameSent (p : Port) (f : Frame) (later : List Frame) (s : State) : State :=
  match p with
  | .service =>
    match f with
    | .reply r => if r.ofExchange then replySent s else s
    | _ => s
  | .till => s
  | .segment i => if f.opensTurn ∧ later.any Frame.opensTurn = false then startTurnWindow i s else s
  | .station g => if f = .fetch ∧ later.contains .fetch = false then startFetchWindow g s else s

/-- END_OF_TRANSMISSION (R186, R189): the frame in transmission on the port is complete, and the next one follows. -/
def execEndOfTransmission (p : Port) (s : State) : Out :=
  let t := settle s
  .next (match t.txOf p with
    | f :: later => frameSent p f later (setTx p later t)
    | [] => t)

/-- A frame whose start byte comes now begins within the reply window of its port (R136, R150). -/
def State.windowOpen (s : State) (p : Port) : Bool :=
  match p with
  | .service => false
  | .till => false
  | .segment i =>
    match (s.lsc i).turn with
    | some tr => tr.window != .over
    | none => false
  | .station g => decide ((s.station g).fetch = .waiting .running)

/-- START_BYTE (R185): a hunting receiver begins a frame; within a frame the byte is one of its bytes. -/
def execStartByte (p : Port) (s : State) : Out :=
  let t := settle s
  .next (match t.rxOf p with
    | .hunting => setRx p (.collecting (t.windowOpen p) [startByteCode]) t
    | .collecting _ _ => t)

end Sys2Proof.Machine
end

