-- ==== Sys2Proof/Machine/Dispatch.lean ====
section
/-! DEFINITION. The dispatch: one arm per command, each one call of its meaning. -/
namespace Sys2Proof.Machine
open Sys2Proof

/-- What a command does to everything but the queue of commands. -/
def exec (i : Instr) (s : State) : Host.Outcome State Fault Refusal :=
  match i with
  -- power and framing (chapter 10)
  | .powerOn => Sys2Proof.Machine.execPowerOn s
  | .restart tag body => Sys2Proof.Machine.execRestart tag body s
  | .discardedFrame port why => Sys2Proof.Machine.execDiscardedFrame port why s
  | .invalid kind tag body => Sys2Proof.Machine.execInvalid kind tag body s
  -- cards, persons and the purge (chapter 1)
  | .issueCard tag body => Sys2Proof.Machine.execIssueCard tag body s
  | .setCardState tag body => Sys2Proof.Machine.execSetCardState tag body s
  | .queryCard tag body => Sys2Proof.Machine.execQueryCard tag body s
  | .addPerson tag body => Sys2Proof.Machine.execAddPerson tag body s
  | .purgeStart tag body => Sys2Proof.Machine.execPurgeStart tag body s
  | .purgeAbort tag body => Sys2Proof.Machine.execPurgeAbort tag body s
  | .queryPurge tag body => Sys2Proof.Machine.execQueryPurge tag body s
  | .purgeCardsStep => Sys2Proof.Machine.execPurgeCardsStep s
  | .shiftStep => Sys2Proof.Machine.execShiftStep s
  | .purgePersonsStep => Sys2Proof.Machine.execPurgePersonsStep s
  | .purgeFoliosStep => Sys2Proof.Machine.execPurgeFoliosStep s
  -- boundaries and the clock (chapter 2)
  | .tick => Sys2Proof.Machine.execTick s
  | .zoneShiftTaken => Sys2Proof.Machine.execZoneShiftTaken s
  | .dayClose => Sys2Proof.Machine.execDayClose s
  | .holdExpiry => Sys2Proof.Machine.execHoldExpiry s
  | .allAboardExpiry => Sys2Proof.Machine.execAllAboardExpiry s
  | .walkStep => Sys2Proof.Machine.execWalkStep s
  | .setTime tag body => Sys2Proof.Machine.execSetTime tag body s
  | .trim tag body => Sys2Proof.Machine.execTrim tag body s
  | .zoneShift tag body => Sys2Proof.Machine.execZoneShift tag body s
  | .cancelZoneShift tag body => Sys2Proof.Machine.execCancelZoneShift tag body s
  | .setDayCloseHour tag body => Sys2Proof.Machine.execSetDayCloseHour tag body s
  | .queryTime tag body => Sys2Proof.Machine.execQueryTime tag body s
  | .queryDayTotal tag body => Sys2Proof.Machine.execQueryDayTotal tag body s
  -- folios (chapter 4)
  | .openFolio tag body => Sys2Proof.Machine.execOpenFolio tag body s
  | .setLimit tag body => Sys2Proof.Machine.execSetLimit tag body s
  | .postCredit tag body => Sys2Proof.Machine.execPostCredit tag body s
  | .freeze tag body => Sys2Proof.Machine.execFreeze tag body s
  | .thaw tag body => Sys2Proof.Machine.execThaw tag body s
  | .closeFolio tag body => Sys2Proof.Machine.execCloseFolio tag body s
  | .reopen tag body => Sys2Proof.Machine.execReopen tag body s
  | .queryFolio tag body => Sys2Proof.Machine.execQueryFolio tag body s
  | .queryFolioSplit tag body => Sys2Proof.Machine.execQueryFolioSplit tag body s
  | .clearFlags tag body => Sys2Proof.Machine.execClearFlags tag body s
  | .setFolioPolicy tag body => Sys2Proof.Machine.execSetFolioPolicy tag body s
  | .queryFolioPolicy tag body => Sys2Proof.Machine.execQueryFolioPolicy tag body s
  | .scanFolios tag body => Sys2Proof.Machine.execScanFolios tag body s
  -- tills and venues (chapter 5)
  | .setTill tag body => Sys2Proof.Machine.execSetTill tag body s
  | .setVenue tag body => Sys2Proof.Machine.execSetVenue tag body s
  | .stageVenuePricing tag body => Sys2Proof.Machine.execStageVenuePricing tag body s
  | .stagePortRate tag body => Sys2Proof.Machine.execStagePortRate tag body s
  | .queryVenue tag body => Sys2Proof.Machine.execQueryVenue tag body s
  | .queryPortRate tag body => Sys2Proof.Machine.execQueryPortRate tag body s
  | .queryTill tag body => Sys2Proof.Machine.execQueryTill tag body s
  | .setTillPolicy tag body => Sys2Proof.Machine.execSetTillPolicy tag body s
  | .charge sequence body => Sys2Proof.Machine.execCharge sequence body s
  | .openTab sequence body => Sys2Proof.Machine.execOpenTab sequence body s
  | .closeTab sequence body => Sys2Proof.Machine.execCloseTab sequence body s
  | .void sequence body => Sys2Proof.Machine.execVoid sequence body s
  | .malformed kind sequence body => Sys2Proof.Machine.execMalformed kind sequence body s
  | .chargeSettlement till => Sys2Proof.Machine.execChargeSettlement till s
  | .openTabSettlement till => Sys2Proof.Machine.execOpenTabSettlement till s
  | .closeTabSettlement till => Sys2Proof.Machine.execCloseTabSettlement till s
  | .voidSettlement till => Sys2Proof.Machine.execVoidSettlement till s
  -- cabins (chapter 6)
  | .addCabin tag body => Sys2Proof.Machine.execAddCabin tag body s
  | .removeCabin tag body => Sys2Proof.Machine.execRemoveCabin tag body s
  | .bind tag body => Sys2Proof.Machine.execBind tag body s
  | .unbind tag body => Sys2Proof.Machine.execUnbind tag body s
  | .setCabinState tag body => Sys2Proof.Machine.execSetCabinState tag body s
  | .setAccessPolicy tag body => Sys2Proof.Machine.execSetAccessPolicy tag body s
  | .queryAccessPolicy tag body => Sys2Proof.Machine.execQueryAccessPolicy tag body s
  | .queryCabin tag body => Sys2Proof.Machine.execQueryCabin tag body s
  -- lock segments (chapter 7)
  | .setPollWindow tag body => Sys2Proof.Machine.execSetPollWindow tag body s
  | .querySegment tag body => Sys2Proof.Machine.execQuerySegment tag body s
  | .quiet segment body => Sys2Proof.Machine.execQuiet segment body s
  | .card segment body => Sys2Proof.Machine.execCard segment body s
  | .entry segment body => Sys2Proof.Machine.execEntry segment body s
  | .restarted segment body => Sys2Proof.Machine.execRestarted segment body s
  | .miss segment => Sys2Proof.Machine.execMiss segment s
  | .cycleWait segment => Sys2Proof.Machine.execCycleWait segment s
  | .entryReport => Sys2Proof.Machine.execEntryReport s
  -- gangways and presence (chapter 8)
  | .requestPulse station lowMs => Sys2Proof.Machine.execRequestPulse station lowMs s
  | .restartPulse station lowMs => Sys2Proof.Machine.execRestartPulse station lowMs s
  | .detach station => Sys2Proof.Machine.execDetach station s
  | .attach station => Sys2Proof.Machine.execAttach station s
  | .retryFetch station => Sys2Proof.Machine.execRetryFetch station s
  | .passages station body => Sys2Proof.Machine.execPassages station body s
  | .fetchFailure station => Sys2Proof.Machine.execFetchFailure station s
  | .judgingAPassage station => Sys2Proof.Machine.execJudgingAPassage station s
  | .setStation tag body => Sys2Proof.Machine.execSetStation tag body s
  | .queryStation tag body => Sys2Proof.Machine.execQueryStation tag body s
  | .setPerson tag body => Sys2Proof.Machine.execSetPerson tag body s
  | .setPresence tag body => Sys2Proof.Machine.execSetPresence tag body s
  | .queryPerson tag body => Sys2Proof.Machine.execQueryPerson tag body s
  | .queryCounts tag body => Sys2Proof.Machine.execQueryCounts tag body s
  | .setAllAboard tag body => Sys2Proof.Machine.execSetAllAboard tag body s
  | .cancelAllAboard tag body => Sys2Proof.Machine.execCancelAllAboard tag body s
  | .clearTimer tag body => Sys2Proof.Machine.execClearTimer tag body s
  | .clearMissing tag body => Sys2Proof.Machine.execClearMissing tag body s
  | .readMissing tag body => Sys2Proof.Machine.execReadMissing tag body s
  -- the journal (chapter 9)
  | .drain tag body => Sys2Proof.Machine.execDrain tag body s
  | .release tag body => Sys2Proof.Machine.execRelease tag body s
  | .queryJournal tag body => Sys2Proof.Machine.execQueryJournal tag body s
  -- transfers, attention and service state (chapter 10)
  | .next tag body => Sys2Proof.Machine.execNext tag body s
  | .stop tag body => Sys2Proof.Machine.execStop tag body s
  | .load tag body => Sys2Proof.Machine.execLoad tag body s
  | .loadItem tag body => Sys2Proof.Machine.execLoadItem tag body s
  | .serviceWindowExpiry => Sys2Proof.Machine.execServiceWindowExpiry s
  | .sense tag body => Sys2Proof.Machine.execSense tag body s
  | .setPriority tag body => Sys2Proof.Machine.execSetPriority tag body s
  | .queryAttention tag body => Sys2Proof.Machine.execQueryAttention tag body s
  | .startService tag body => Sys2Proof.Machine.execStartService tag body s
  | .status tag body => Sys2Proof.Machine.execStatus tag body s
  | .stationLineFall station => Sys2Proof.Machine.execStationLineFall station s
  | .purgeEndsAborted => Sys2Proof.Machine.execPurgeEndsAborted s
  | .endOfTransmission port => Sys2Proof.Machine.execEndOfTransmission port s
  | .startByte port => Sys2Proof.Machine.execStartByte port s

end Sys2Proof.Machine
end

