-- ==== Sys2Proof/Machine/Receive.lean ====
section
/-! DEFINITION. Receiving (R185, R187): what a receiver does with what comes in on its line, and the command that a received frame is. -/
namespace Sys2Proof.Machine

/-! ### The command of a received frame (R187) -/

/-- The service-link request of a kind code; a frame of another kind is INVALID (R187, R190). -/
def serviceCommand (kind tag : Byte) (body : List Byte) : Instr :=
  match kind.toNat with
  | 0x01 => .issueCard tag body
  | 0x02 => .setCardState tag body
  | 0x03 => .queryCard tag body
  | 0x04 => .addPerson tag body
  | 0x05 => .purgeStart tag body
  | 0x06 => .purgeAbort tag body
  | 0x07 => .queryPurge tag body
  | 0x10 => .setTime tag body
  | 0x11 => .trim tag body
  | 0x12 => .zoneShift tag body
  | 0x13 => .cancelZoneShift tag body
  | 0x14 => .setDayCloseHour tag body
  | 0x15 => .queryTime tag body
  | 0x16 => .queryDayTotal tag body
  | 0x20 => .openFolio tag body
  | 0x21 => .setLimit tag body
  | 0x22 => .postCredit tag body
  | 0x23 => .freeze tag body
  | 0x24 => .thaw tag body
  | 0x25 => .closeFolio tag body
  | 0x26 => .reopen tag body
  | 0x27 => .queryFolio tag body
  | 0x28 => .queryFolioSplit tag body
  | 0x29 => .clearFlags tag body
  | 0x2A => .setFolioPolicy tag body
  | 0x2B => .queryFolioPolicy tag body
  | 0x2C => .scanFolios tag body
  | 0x30 => .setTill tag body
  | 0x31 => .setVenue tag body
  | 0x32 => .stageVenuePricing tag body
  | 0x33 => .stagePortRate tag body
  | 0x34 => .queryVenue tag body
  | 0x35 => .queryPortRate tag body
  | 0x36 => .queryTill tag body
  | 0x37 => .setTillPolicy tag body
  | 0x40 => .addCabin tag body
  | 0x41 => .removeCabin tag body
  | 0x42 => .bind tag body
  | 0x43 => .unbind tag body
  | 0x44 => .setCabinState tag body
  | 0x45 => .setAccessPolicy tag body
  | 0x46 => .queryAccessPolicy tag body
  | 0x47 => .queryCabin tag body
  | 0x48 => .setPollWindow tag body
  | 0x49 => .querySegment tag body
  | 0x50 => .setStation tag body
  | 0x51 => .queryStation tag body
  | 0x52 => .setPerson tag body
  | 0x53 => .setPresence tag body
  | 0x54 => .queryPerson tag body
  | 0x55 => .queryCounts tag body
  | 0x56 => .setAllAboard tag body
  | 0x57 => .cancelAllAboard tag body
  | 0x58 => .clearTimer tag body
  | 0x59 => .clearMissing tag body
  | 0x5A => .readMissing tag body
  | 0x60 => .drain tag body
  | 0x61 => .release tag body
  | 0x62 => .queryJournal tag body
  | 0x70 => .next tag body
  | 0x71 => .stop tag body
  | 0x72 => .load tag body
  | 0x73 => .loadItem tag body
  | 0x74 => .sense tag body
  | 0x75 => .setPriority tag body
  | 0x76 => .queryAttention tag body
  | 0x77 => .startService tag body
  | 0x78 => .status tag body
  | 0x79 => .restart tag body
  | _ => .invalid kind tag body

/-- The till request of a kind code; a frame of another kind is malformed (R187, R88). -/
def tillFrameCommand (kind sequence : Byte) (body : List Byte) : Instr :=
  match kind.toNat with
  | 0x01 => .charge sequence body
  | 0x02 => .openTab sequence body
  | 0x03 => .closeTab sequence body
  | 0x04 => .void sequence body
  | _ => .malformed kind sequence body

/-- The node's reply of a kind code; a frame of another kind is discarded (R187, R136). -/
def nodeCommand (i : Fin 8) (kind : Byte) (body : List Byte) : Instr :=
  match kind.toNat with
  | 0x11 => .quiet i body
  | 0x12 => .card i body
  | 0x13 => .entry i body
  | 0x14 => .restarted i body
  | _ => .discardedFrame (.segment i) (.unsuited kind)

/-- The station's reply of a kind code; a frame of another kind is discarded (R187, R150). -/
def stationCommand (g : Fin 4) (kind : Byte) (body : List Byte) : Instr :=
  match kind.toNat with
  | 0x11 => .passages g body
  | _ => .discardedFrame (.station g) (.unsuited kind)

/-- The command that a received frame is to the block that owns its port (R185, R187). The tag of a node's or a station's frame is not looked at
(log 51). -/
def frameCommand (p : Port) (kind tag : Byte) (body : List Byte) : Instr :=
  match p with
  | .service => serviceCommand kind tag body
  | .till => tillFrameCommand kind tag body
  | .segment i => nodeCommand i kind body
  | .station g => stationCommand g kind body

/-! ### The receiver (R185) -/

/-- The command comes about next. -/
def summon (c : Instr) (s : State) : State := { s with pending := s.pending ++ [c] }

/-- A byte comes to a hunting receiver (R185): a start byte begins a frame, any other is discarded. -/
def huntByte (p : Port) (b : Byte) (s : State) : State := if b = startByteCode then summon (.startByte p) s else s

/-- A receiver has collected these bytes of a frame (R185). The frame goes on, or is received, or is discarded; after a bad length the receiver hunts again
from the byte after the start byte. -/
def collectBytes (p : Port) (inWindow : Bool) (bytes : List Byte) (s : State) : State :=
  match collect bytes with
  | .more => setRx p (.collecting inWindow bytes) s
  | .badLength l => summon (.discardedFrame p (.badLength l)) { s with lines := bytes.tail.map (fun b => (p, .byte b)) ++ s.lines }
  | .badCrc => summon (.discardedFrame p (.badCrc bytes)) s
  | .frame kind tag body => summon (frameCommand p kind tag body) s

/-- What comes in on a line (R185): a byte, or a gap of more than 10 ms, which ends a frame that is coming; the byte after it comes to a hunting receiver. -/
def takeLine (p : Port) (e : LineEvent) (s : State) : State :=
  match s.rxOf p, e with
  | .hunting, .byte b => huntByte p b s
  | .hunting, .gap => s
  | .collecting inWindow bytes, .byte b => collectBytes p inWindow (bytes ++ [b]) s
  | .collecting _ _, .gap => summon (.discardedFrame p .gap) s

end Sys2Proof.Machine
end

