-- ==== Sys2Proof/Machine/Step.lean ====
section
/-! DEFINITION. The step: the command at the front of the queue is executed; with no command waiting, a line's next event comes to its receiver. -/
namespace Sys2Proof.Machine

/-- One step: the command at the front of the queue on the state with the rest of the queue; with an empty queue the first event of the lines comes to
its receiver (R185, log 43), and with neither the block idles (log 1). -/
def step (s : State) : Host.Outcome State Fault Refusal :=
  match s.pending with
  | c :: rest => exec c { s with pending := rest }
  | [] =>
    match s.lines with
    | (p, e) :: rest => .next (takeLine p e { s with lines := rest })
    | [] => .next s

/-- The state with the command that a word spells at the front of its queue; unchanged where the word spells none. -/
def State.withFetchWord (s : State) (nbits w : Nat) : State :=
  match decodeTableWord nbits w with
  | some c => { s with pending := c :: s.pending }
  | none => s

end Sys2Proof.Machine
end

