-- ==== Sys2Proof/Safety.lean ====
section
/-! DEFINITION. The terms of the claims: when a request is taken, what an answer leaves behind, and the laws that the spec says the controller keeps. -/
namespace Sys2Proof.Machine

/-! ### Requests and answers -/

/-- No boundary work is outstanding, no exchange is open and no transfer is open: a request is judged from test 4 of R190 on. -/
def State.ready (s : State) : Bool := s.boundary.isNone && s.linkFree

/-- A port has handed a received frame on and hunts again (R185). -/
def heard (p : Port) (s : State) : State :=
  { s with ports := { s.ports with rx := s.ports.rx.set (portIndex p) .hunting } }

/-- A frame has been formed behind those of its port (R186). -/
def formed (p : Port) (f : Frame) (s : State) : State :=
  { s with ports := { s.ports with tx := s.ports.tx.set (portIndex p) (s.ports.tx[portIndex p] ++ [f]) } }

/-- The reply frame of a request's code and tag (R188). -/
def replyFrame (code tag : Byte) (status : Status) (payload : Payload) (ofExchange : Bool) : Frame :=
  .reply { kind := code ||| 0x80, tag := tag, status := status, payload := payload, ofExchange := ofExchange }

/-- A request has been executed: its exchange is open and its reply formed (R189). -/
def answered (code tag : Byte) (status : Status) (payload : Payload) (s : State) : State :=
  formed .service (replyFrame code tag status payload true) { s with slc := { s.slc with exchange := true } }

/-- A request has been answered without execution (R189): its reply is formed and nothing else changes. -/
def turnedAway (code tag : Byte) (status : Status) (payload : Payload) (s : State) : State :=
  formed .service (replyFrame code tag status payload false) s

/-- The command of a till frame of a kind, with its sequence and body. -/
def tillCommand (kind : TillKind) (sequence : Byte) (body : List Byte) : Instr :=
  match kind with
  | .charge => .charge sequence body
  | .openTab => .openTab sequence body
  | .closeTab => .closeTab sequence body
  | .void => .void sequence body

/-- A till answer is formed (R89). -/
def tillAnswered (kind sequence till : Byte) (repeated : Bool) (b : AnswerBody) (s : State) : State :=
  formed .till (.tillAnswer { kind := kind, sequence := sequence, till := till, repeated := repeated, body := b }) s

/-- A till request has been decided (R90, R93): the till keeps its sequence and the answer, is IDLE, and the answer is formed. -/
def decided (n : Fin 128) (kind : TillKind) (sequence : Byte) (b : AnswerBody) (s : State) : State :=
  tillAnswered (kind.code ||| 0x80) sequence (BitVec.ofNat 8 n.val) false b
    { s with chu := { s.chu with tills := s.chu.tills.set n { s.chu.tills[n] with working := none, lastSequence := some sequence,
                                                                                  lastDecision := some { kind := kind, body := b } } } }

/-- A till request that the gate lets through to its take (R92): the till is configured at the venue, the sequence repeats no decision, no request is WORKING, and
the controller is SERVING. -/
def State.gateOpen (s : State) (n : Fin 128) (venue : Fin 64) (sequence : Byte) : Prop :=
  s.boundary = none ∧ s.chu.tills[n].venue = some venue
  ∧ (s.chu.tills[n].lastSequence = some sequence → s.chu.tills[n].lastDecision = none) ∧ s.chu.tills[n].working = none
  ∧ s.slc.service = .serving

/-- The request has made its till WORKING (R94). -/
def madeWorking (n : Fin 128) (w : Waiting) (s : State) : State :=
  { s with chu := { s.chu with tills := s.chu.tills.set n { s.chu.tills[n] with working := some w } } }

/-- The answer of a decline with its reason, its two details and the hold it names (R89). -/
def declinedBody (reason : Reason) (detail1 detail2 hold : Nat) : AnswerBody :=
  { verdict := .declined, reason := some reason, detail1 := detail1, detail2 := detail2, charge := 0, amount1 := 0, amount2 := 0, amount3 := 0,
    hold := hold }

/-- A request that belongs to no transfer: its code, tag and body, its field table and the fields judged together (R188, R190). -/
structure Request where
  code   : Byte
  tag    : Byte
  body   : List Byte
  fields : List Field
  cross  : Values → Option Nat

/-- The command's request, when it is one that belongs to no transfer and is not RESTART. -/
def requestOf : Instr → Option Request
  | .powerOn => none
  | .restart _ _ => none
  | .discardedFrame _ _ => none
  | .invalid _ _ _ => none
  | .issueCard tag body => some { code := 0x01, tag := tag, body := body, fields := issueCardFields, cross := noCross }
  | .setCardState tag body => some { code := 0x02, tag := tag, body := body, fields := setCardStateFields, cross := noCross }
  | .queryCard tag body => some { code := 0x03, tag := tag, body := body, fields := queryCardFields, cross := noCross }
  | .addPerson tag body => some { code := 0x04, tag := tag, body := body, fields := addPersonFields, cross := noCross }
  | .purgeStart tag body => some { code := 0x05, tag := tag, body := body, fields := [], cross := noCross }
  | .purgeAbort tag body => some { code := 0x06, tag := tag, body := body, fields := [], cross := noCross }
  | .queryPurge tag body => some { code := 0x07, tag := tag, body := body, fields := [], cross := noCross }
  | .purgeCardsStep => none
  | .shiftStep => none
  | .purgePersonsStep => none
  | .purgeFoliosStep => none
  | .tick => none
  | .zoneShiftTaken => none
  | .dayClose => none
  | .holdExpiry => none
  | .allAboardExpiry => none
  | .walkStep => none
  | .setTime tag body => some { code := 0x10, tag := tag, body := body, fields := setTimeFields, cross := noCross }
  | .trim tag body => some { code := 0x11, tag := tag, body := body, fields := trimFields, cross := noCross }
  | .zoneShift tag body => some { code := 0x12, tag := tag, body := body, fields := zoneShiftFields, cross := noCross }
  | .cancelZoneShift tag body => some { code := 0x13, tag := tag, body := body, fields := [], cross := noCross }
  | .setDayCloseHour tag body => some { code := 0x14, tag := tag, body := body, fields := setDayCloseHourFields, cross := noCross }
  | .queryTime tag body => some { code := 0x15, tag := tag, body := body, fields := [], cross := noCross }
  | .queryDayTotal tag body => some { code := 0x16, tag := tag, body := body, fields := [], cross := noCross }
  | .openFolio tag body => some { code := 0x20, tag := tag, body := body, fields := openFolioFields, cross := noCross }
  | .setLimit tag body => some { code := 0x21, tag := tag, body := body, fields := setLimitFields, cross := noCross }
  | .postCredit tag body => some { code := 0x22, tag := tag, body := body, fields := postCreditFields, cross := noCross }
  | .freeze tag body => some { code := 0x23, tag := tag, body := body, fields := oneFolioFields, cross := noCross }
  | .thaw tag body => some { code := 0x24, tag := tag, body := body, fields := oneFolioFields, cross := noCross }
  | .closeFolio tag body => some { code := 0x25, tag := tag, body := body, fields := oneFolioFields, cross := noCross }
  | .reopen tag body => some { code := 0x26, tag := tag, body := body, fields := oneFolioFields, cross := noCross }
  | .queryFolio tag body => some { code := 0x27, tag := tag, body := body, fields := oneFolioFields, cross := noCross }
  | .queryFolioSplit tag body => some { code := 0x28, tag := tag, body := body, fields := oneFolioFields, cross := noCross }
  | .clearFlags tag body => some { code := 0x29, tag := tag, body := body, fields := oneFolioFields, cross := noCross }
  | .setFolioPolicy tag body => some { code := 0x2A, tag := tag, body := body, fields := setFolioPolicyFields, cross := noCross }
  | .queryFolioPolicy tag body => some { code := 0x2B, tag := tag, body := body, fields := [], cross := noCross }
  | .scanFolios tag body => some { code := 0x2C, tag := tag, body := body, fields := scanFoliosFields, cross := noCross }
  | .setTill tag body => some { code := 0x30, tag := tag, body := body, fields := setTillFields, cross := setTillCross }
  | .setVenue tag body => some { code := 0x31, tag := tag, body := body, fields := setVenueFields, cross := noCross }
  | .stageVenuePricing tag body => some { code := 0x32, tag := tag, body := body, fields := stageVenuePricingFields, cross := noCross }
  | .stagePortRate tag body => some { code := 0x33, tag := tag, body := body, fields := stagePortRateFields, cross := noCross }
  | .queryVenue tag body => some { code := 0x34, tag := tag, body := body, fields := queryVenueFields, cross := noCross }
  | .queryPortRate tag body => some { code := 0x35, tag := tag, body := body, fields := [], cross := noCross }
  | .queryTill tag body => some { code := 0x36, tag := tag, body := body, fields := queryTillFields, cross := noCross }
  | .setTillPolicy tag body => some { code := 0x37, tag := tag, body := body, fields := setTillPolicyFields, cross := noCross }
  | .charge _ _ => none
  | .openTab _ _ => none
  | .closeTab _ _ => none
  | .void _ _ => none
  | .malformed _ _ _ => none
  | .chargeSettlement _ => none
  | .openTabSettlement _ => none
  | .closeTabSettlement _ => none
  | .voidSettlement _ => none
  | .addCabin tag body => some { code := 0x40, tag := tag, body := body, fields := addCabinFields, cross := noCross }
  | .removeCabin tag body => some { code := 0x41, tag := tag, body := body, fields := oneCabinFields, cross := noCross }
  | .bind tag body => some { code := 0x42, tag := tag, body := body, fields := bindFields, cross := noCross }
  | .unbind tag body => some { code := 0x43, tag := tag, body := body, fields := unbindFields, cross := noCross }
  | .setCabinState tag body => some { code := 0x44, tag := tag, body := body, fields := setCabinStateFields, cross := setCabinStateCross }
  | .setAccessPolicy tag body => some { code := 0x45, tag := tag, body := body, fields := setAccessPolicyFields, cross := noCross }
  | .queryAccessPolicy tag body => some { code := 0x46, tag := tag, body := body, fields := [], cross := noCross }
  | .queryCabin tag body => some { code := 0x47, tag := tag, body := body, fields := oneCabinFields, cross := noCross }
  | .setPollWindow tag body => some { code := 0x48, tag := tag, body := body, fields := setPollWindowFields, cross := setPollWindowCross }
  | .querySegment tag body => some { code := 0x49, tag := tag, body := body, fields := querySegmentFields, cross := noCross }
  | .quiet _ _ => none
  | .card _ _ => none
  | .entry _ _ => none
  | .restarted _ _ => none
  | .miss _ => none
  | .cycleWait _ => none
  | .entryReport => none
  | .requestPulse _ _ => none
  | .restartPulse _ _ => none
  | .detach _ => none
  | .attach _ => none
  | .retryFetch _ => none
  | .passages _ _ => none
  | .fetchFailure _ => none
  | .judgingAPassage _ => none
  | .setStation tag body => some { code := 0x50, tag := tag, body := body, fields := setStationFields, cross := noCross }
  | .queryStation tag body => some { code := 0x51, tag := tag, body := body, fields := queryStationFields, cross := noCross }
  | .setPerson tag body => some { code := 0x52, tag := tag, body := body, fields := setPersonFields, cross := noCross }
  | .setPresence tag body => some { code := 0x53, tag := tag, body := body, fields := setPresenceFields, cross := noCross }
  | .queryPerson tag body => some { code := 0x54, tag := tag, body := body, fields := queryPersonFields, cross := noCross }
  | .queryCounts tag body => some { code := 0x55, tag := tag, body := body, fields := [], cross := noCross }
  | .setAllAboard tag body => some { code := 0x56, tag := tag, body := body, fields := setAllAboardFields, cross := noCross }
  | .cancelAllAboard tag body => some { code := 0x57, tag := tag, body := body, fields := [], cross := noCross }
  | .clearTimer tag body => some { code := 0x58, tag := tag, body := body, fields := [], cross := noCross }
  | .clearMissing tag body => some { code := 0x59, tag := tag, body := body, fields := [], cross := noCross }
  | .readMissing tag body => some { code := 0x5A, tag := tag, body := body, fields := readMissingFields, cross := noCross }
  | .drain tag body => some { code := 0x60, tag := tag, body := body, fields := drainFields, cross := noCross }
  | .release tag body => some { code := 0x61, tag := tag, body := body, fields := releaseFields, cross := noCross }
  | .queryJournal tag body => some { code := 0x62, tag := tag, body := body, fields := [], cross := noCross }
  | .next _ _ => none
  | .stop _ _ => none
  | .load tag body => some { code := 0x72, tag := tag, body := body, fields := loadFields, cross := noCross }
  | .loadItem _ _ => none
  | .serviceWindowExpiry => none
  | .sense tag body => some { code := 0x74, tag := tag, body := body, fields := [], cross := noCross }
  | .setPriority tag body => some { code := 0x75, tag := tag, body := body, fields := setPriorityFields, cross := noCross }
  | .queryAttention tag body => some { code := 0x76, tag := tag, body := body, fields := [], cross := noCross }
  | .startService tag body => some { code := 0x77, tag := tag, body := body, fields := startServiceFields, cross := noCross }
  | .status tag body => some { code := 0x78, tag := tag, body := body, fields := [], cross := noCross }
  | .stationLineFall _ => none
  | .purgeEndsAborted => none
  | .endOfTransmission _ => none
  | .startByte _ => none

/-- The frame that a command is the receipt of, by port, kind code, tag and fields (R187); none for a command that is no frame, and for a discarded one. -/
def frameOf (c : Instr) : Option (Port × Byte × Byte × List Byte) :=
  match requestOf c with
  | some r => some (.service, r.code, r.tag, r.body)
  | none =>
    match c with
    | .restart tag body => some (.service, 0x79, tag, body)
    | .next tag body => some (.service, 0x70, tag, body)
    | .stop tag body => some (.service, 0x71, tag, body)
    | .loadItem tag body => some (.service, 0x73, tag, body)
    | .invalid kind tag body => some (.service, kind, tag, body)
    | .charge sequence body => some (.till, 0x01, sequence, body)
    | .openTab sequence body => some (.till, 0x02, sequence, body)
    | .closeTab sequence body => some (.till, 0x03, sequence, body)
    | .void sequence body => some (.till, 0x04, sequence, body)
    | .malformed kind sequence body => some (.till, kind, sequence, body)
    | .quiet i body => some (.segment i, 0x11, 0, body)
    | .card i body => some (.segment i, 0x12, 0, body)
    | .entry i body => some (.segment i, 0x13, 0, body)
    | .restarted i body => some (.segment i, 0x14, 0, body)
    | .passages g body => some (.station g, 0x11, 0, body)
    | _ => none

/-! ### Frames -/

/-- What the work of a boundary leaves as it was, whatever comes about at it: all but the clock, the venues' settings, the folios, the journal, the causes,
the timer and the displays. -/
def boundaryFrame (s t : State) : Prop :=
  t.slc = s.slc ∧ t.crg = s.crg ∧ t.persons = s.persons ∧ t.cau = s.cau ∧ t.lscs = s.lscs ∧ t.pru.counts = s.pru.counts
  ∧ t.pru.missingCount = s.pru.missingCount ∧ t.ports.rx = s.ports.rx ∧ (∀ p, (∀ g, p ≠ .station g) → t.txOf p = s.txOf p) ∧ t.free = s.free
  ∧ t.lines = s.lines ∧ t.pending = s.pending

/-- The displays of a boundary have been sent (R165): each station whose display calls for a frame has one more, and shows it. -/
def displayed (before : Nat) (u t : State) : Prop :=
  let c := u.countsFrame
  ∀ g : Fin 4, if u.pru.stations[g].callsFor before u.scl.voyage c
    then t.pru.stations[g] = { u.pru.stations[g] with lastShown := some c } ∧ t.txOf (.station g) = u.txOf (.station g) ++ [.counts c]
    else t.pru.stations[g] = u.pru.stations[g] ∧ t.txOf (.station g) = u.txOf (.station g)

/-- A boundary's work done up to the state u has brought it to the timer (R161): it waits there when the timer expires; otherwise an ARMED timer runs and the
boundary ends with the displays (R165). -/
def reachesTimer (before : Nat) (u t : State) : Prop :=
  (u.pru.timer.dueAt u.scl.voyage = true → t.boundary = some { before := before, stage := .timer } ∧ t.pru = u.pru ∧ t.ports = u.ports)
  ∧ (u.pru.timer.dueAt u.scl.voyage = false → t.boundary = none ∧ (∀ d, u.pru.timer = .armed d → t.pru.timer = .running d)
      ∧ ((∀ d, u.pru.timer ≠ .armed d) → t.pru.timer = u.pru.timer) ∧ t.pru.newlyMarked = u.pru.newlyMarked
      ∧ displayed before { u with pru := { u.pru with timer := t.pru.timer } } t)

/-- A boundary's work done up to the state u has brought it to the holds (R75): it waits there with those that have fallen due, and goes on to the timer with none. -/
def reachesHolds (before : Nat) (u t : State) : Prop :=
  (u.dueHolds ≠ [] → t.boundary = some { before := before, stage := .holds u.dueHolds } ∧ t.pru = u.pru ∧ t.ports = u.ports)
  ∧ (u.dueHolds = [] → reachesTimer before u t)

/-- A boundary's work done up to the state u has brought it to the day close (R35): it waits there when the close is due, and goes on to the holds otherwise. -/
def reachesClose (before : Nat) (u t : State) : Prop :=
  (u.closeDue = true → t.boundary = some { before := before, stage := .close } ∧ t.pru = u.pru ∧ t.ports = u.ports)
  ∧ (u.closeDue = false → reachesHolds before u t)

/-- A second boundary has carried voyage time from one value to another (R26, R27): with a multiple of 60 passed, the staged settings are live (R96, R97); the work
that is due waits, stage by stage (log 3), and close held stays as it stands where no close is due (log 52): both the model's choice. -/
def boundaryDelivered (before after : Nat) (s t : State) : Prop :=
  let u : State := { s with scl := { s.scl with voyage := after } }
  let minute := ∃ k, before < 60 * k ∧ 60 * k ≤ after
  t.scl = u.scl
  ∧ (¬ minute → t.chu = s.chu)
  ∧ (minute → t.chu.tills = s.chu.tills ∧ t.chu.policy = s.chu.policy ∧ t.chu.ratePending = false
      ∧ t.chu.rateLive = (if s.chu.ratePending then s.chu.rateStaged else s.chu.rateLive) ∧ t.chu.rateStaged = s.chu.rateStaged
      ∧ ∀ n : Fin 64, t.chu.venues[n] = if s.chu.venues[n].stagedPending
          then { s.chu.venues[n] with live := s.chu.venues[n].staged, stagedPending := false } else s.chu.venues[n])
  ∧ boundaryFrame s t ∧ t.atu = s.atu ∧ t.fst = s.fst ∧ t.jnl = s.jnl
  ∧ (u.zoneDue = true → t.boundary = some { before := before, stage := .zone } ∧ t.pru = s.pru ∧ t.ports = s.ports)
  ∧ (u.zoneDue = false → reachesClose before u t)

/-- Between two states a cause has been raised once, with this subject, when the condition holds; otherwise its entry stands as it did (R195). -/
def raisedWhen (p : Prop) (c : Cause) (subject : Word32) (s t : State) : Prop :=
  (p → t.cause c = (raise c subject {} s).cause c) ∧ (¬ p → t.cause c = s.cause c)

/-- What a settlement leaves as it was: all but the folios, the journal, the causes, the cards, the persons' spending, the till and its answers. -/
def settlementFrame (s t : State) : Prop :=
  t.slc = s.slc ∧ t.scl = s.scl ∧ t.cau = s.cau ∧ t.lscs = s.lscs ∧ t.pru = s.pru ∧ t.ports.rx = s.ports.rx ∧ (∀ p, p ≠ .till → t.txOf p = s.txOf p)
  ∧ t.boundary = s.boundary ∧ t.free = s.free ∧ t.lines = s.lines ∧ t.pending = s.pending

/-! ### The laws of the chapters -/

/-- Every table is in its canonical form. -/
def State.canonical (s : State) : Bool :=
  s.crg.ring.wf && s.persons.wf && s.fst.folios.wf && s.cau.cabins.wf && s.jnl.ring.wf && s.lscs.toList.all (fun l => l.nodes.wf)

/-- A cause's entry is in order (R195, R198): priority 0 to 7, a count of 1 to 255, and no record at priority 0. -/
def CauseEntry.lawful (e : CauseEntry) : Bool :=
  decide (e.priority ≤ 7)
  && (match e.pending with
      | none => true
      | some p => decide (1 ≤ p.count) && decide (p.count ≤ 255) && decide (e.priority ≠ 0))

/-- ATTN is active exactly while a record is pending (R196), and every cause is in order. -/
def Atu.lawful (a : Atu) : Bool := a.attn == a.anyPending && a.causes.toList.all CauseEntry.lawful

/-- The journal keeps its pointers in order and every unreleased record in its slot, and nothing else (R171, R173). -/
def Jnl.lawful (j : Jnl) : Prop :=
  j.ahead j.delivered ≤ j.used ∧ j.used ≤ Config.journalSlots ∧ j.drops ≤ 65535
  ∧ (∀ i < j.used, (j.recordAt (j.released + BitVec.ofNat 32 i)).map (·.sequence) = some (j.released + BitVec.ofNat 32 i))
  ∧ ∀ e ∈ j.ring, e.1 = slotOf e.2.sequence ∧ j.ahead e.2.sequence < j.used

/-- A folio keeps the laws of R65, R70 and R71. The term of 8,388,607 for each hold says that closing every tab would keep the upper bound. -/
def Folio.lawful (f : Folio) : Prop :=
  (f.state = .opened → f.balance + f.reserved ≤ f.limit)
  ∧ (f.state = .closed → f.holds = [])
  ∧ -Config.balanceBound ≤ f.balance ∧ f.balance + 8388607 * f.holds.length ≤ 1107296256
  ∧ 0 ≤ f.limit ∧ f.limit ≤ Config.balanceBound
  ∧ f.holds.length ≤ Config.maxHolds ∧ ∀ h ∈ f.holds, 1 ≤ h.amount ∧ h.amount ≤ 8388607

/-- What a WORKING till waits to have settled is within the ranges of its kind (R52, R88). -/
def Till.lawful (t : Till) : Prop :=
  ∀ w, t.working = some w →
    (∀ a, w.work = .openTab a → 1 ≤ a ∧ a ≤ 8388607) ∧ (∀ n sums lines, w.work = .closeTab n sums lines → 0 ≤ sums.s ∧ sums.s ≤ 8388607)

/-- Every folio in use keeps its laws, and every waiting till request its ranges. -/
def State.folioLaw (s : State) : Prop := (∀ e ∈ s.fst.folios, e.2.lawful) ∧ ∀ t ∈ s.chu.tills.toList, t.lawful

/-- The number of persons of a class and presence. -/
def State.personsOf (s : State) (cls : PersonClass) (p : Presence) : Nat :=
  s.persons.countP (fun e => decide (e.2.ident.cls = cls ∧ e.2.att.presence = p))

/-- Each presence count is the number of persons it counts (R157); the missing count is the number of persons marked MISSING, and each of them is
ASHORE (R163). -/
def State.presenceLaw (s : State) : Prop :=
  s.persons.wf = true
  ∧ (∀ cls p, s.pru.count cls p = s.personsOf cls p)
  ∧ s.pru.missingCount = s.persons.countP (fun e => e.2.att.missing)
  ∧ ∀ e ∈ s.persons, e.2.att.missing = true → e.2.att.presence = .ashore

/-- The cabin is on the person's bound-cabin list. -/
def State.listsCabin (s : State) (person cabin : Nat) : Bool :=
  match s.persons.get person with
  | some p => p.ident.cabins.contains cabin
  | none => false

/-- The person is on the cabin's binding list. -/
def State.listsPerson (s : State) (person cabin : Nat) : Bool :=
  match s.cau.cabins.get cabin with
  | some c => c.bindings.any (fun b => b.person == person)
  | none => false

/-- The two binding lists mirror each other and stay within their lengths (R111), each person once on a cabin's list. -/
def State.bindingLaw (s : State) : Prop :=
  s.persons.wf = true ∧ s.cau.cabins.wf = true
  ∧ (∀ person cabin, s.listsCabin person cabin = s.listsPerson person cabin)
  ∧ (∀ e ∈ s.cau.cabins, e.2.bindings.length ≤ Config.maxBindings ∧ (e.2.bindings.map (·.person)).Nodup)
  ∧ ∀ e ∈ s.persons, e.2.ident.cabins.length ≤ Config.maxCabinsPerPerson ∧ e.2.ident.cabins.Nodup

/-- The poll lists hold the lock addresses of the cabin table and no others, and no two cabins have one lock address (R110). -/
def State.pollLaw (s : State) : Prop :=
  (∀ (i : Fin 8) (node : Nat), (s.lscs[i].nodes.get node).isSome = (s.cau.cabinAt i node).isSome)
  ∧ s.cau.cabins.wf = true
  ∧ s.cau.cabins.Pairwise (fun a b => ¬ (a.2.segment = b.2.segment ∧ a.2.node = b.2.node))

/-- No ACTIVE or SUSPENDED card belongs to a DEPARTED person (R8). -/
def State.departureLaw (s : State) : Prop :=
  s.persons.wf = true
  ∧ ∀ e ∈ s.crg.ring, e.2.state = .active ∨ e.2.state = .suspended → s.isDeparted e.2.person = false

/-- The slot a number of probe moves beyond a slot (R2). -/
def probeSlot (start moves : Nat) : Nat := (start + moves) % Config.ringSlots

/-- A slot that a search passes over or ends at as OCCUPIED: it holds a card, or is the HOLE (R3). -/
def Crg.notFree (g : Crg) (slot : Nat) : Bool := (g.ring.get slot).isSome || g.hole == some slot

/-- A shift in progress (R19): the HOLE holds no card, every slot between it and the next slot to examine is OCCUPIED, and every card whose probe run
passes the HOLE lies at or beyond that next slot. -/
def Crg.shiftLaw (g : Crg) (h : Shift) : Prop :=
  h.hole < Config.ringSlots ∧ h.examine < Config.ringSlots ∧ g.ring.get h.hole = none ∧ h.examine ≠ h.hole
  ∧ (∃ walk, g.purge.phase = .cards walk)
  ∧ (∀ d, 0 < d → d < probeMoves h.hole h.examine → (g.ring.get (probeSlot h.hole d)).isSome = true)
  ∧ ∀ e ∈ g.ring, probeMoves (homeSlot e.2.serial) h.hole < probeMoves (homeSlot e.2.serial) e.1 →
      probeMoves h.hole h.examine ≤ probeMoves h.hole e.1

/-- The ring's law (R3, R4): no FREE slot lies between a card's home slot and its own in probe order; no two cards have one serial; at most 12,000
cards; and a shift in progress keeps its own law. -/
def Crg.lawful (g : Crg) : Prop :=
  g.ring.wf = true ∧ (∀ e ∈ g.ring, e.1 < Config.ringSlots) ∧ g.ring.length ≤ Config.maxLiveCards
  ∧ g.ring.Pairwise (fun a b => a.2.serial ≠ b.2.serial)
  ∧ (∀ e ∈ g.ring, ∀ d < probeMoves (homeSlot e.2.serial) e.1, g.notFree (probeSlot (homeSlot e.2.serial) d) = true)
  ∧ ∀ h, g.purge.shift = some h → g.shiftLaw h

end Sys2Proof.Machine
end

