-- ==== Sys2Proof/WellFormed.lean ====
section
/-! DEFINITION. Which commands can come about: what a receiver can hand on, and what a line can do. -/
namespace Sys2Proof

/-- Field bytes that a received frame can carry: its length field is at most 1,024 and counts kind and tag (R184, R185). -/
def bodyFits (body : List Byte) : Bool := decide (body.length ≤ 1022)

/-- The command can come about. -/
def Instr.wellFormed : Instr → Bool
  | .powerOn => true
  | .restart _ body => bodyFits body
  | .discardedFrame p w => w.fits p
  | .invalid kind _ body => !Machine.knownRequest kind && bodyFits body
  | .issueCard _ body => bodyFits body
  | .setCardState _ body => bodyFits body
  | .queryCard _ body => bodyFits body
  | .addPerson _ body => bodyFits body
  | .purgeStart _ body => bodyFits body
  | .purgeAbort _ body => bodyFits body
  | .queryPurge _ body => bodyFits body
  | .purgeCardsStep => true
  | .shiftStep => true
  | .purgePersonsStep => true
  | .purgeFoliosStep => true
  | .tick => true
  | .zoneShiftTaken => true
  | .dayClose => true
  | .holdExpiry => true
  | .allAboardExpiry => true
  | .walkStep => true
  | .setTime _ body => bodyFits body
  | .trim _ body => bodyFits body
  | .zoneShift _ body => bodyFits body
  | .cancelZoneShift _ body => bodyFits body
  | .setDayCloseHour _ body => bodyFits body
  | .queryTime _ body => bodyFits body
  | .queryDayTotal _ body => bodyFits body
  | .openFolio _ body => bodyFits body
  | .setLimit _ body => bodyFits body
  | .postCredit _ body => bodyFits body
  | .freeze _ body => bodyFits body
  | .thaw _ body => bodyFits body
  | .closeFolio _ body => bodyFits body
  | .reopen _ body => bodyFits body
  | .queryFolio _ body => bodyFits body
  | .queryFolioSplit _ body => bodyFits body
  | .clearFlags _ body => bodyFits body
  | .setFolioPolicy _ body => bodyFits body
  | .queryFolioPolicy _ body => bodyFits body
  | .scanFolios _ body => bodyFits body
  | .setTill _ body => bodyFits body
  | .setVenue _ body => bodyFits body
  | .stageVenuePricing _ body => bodyFits body
  | .stagePortRate _ body => bodyFits body
  | .queryVenue _ body => bodyFits body
  | .queryPortRate _ body => bodyFits body
  | .queryTill _ body => bodyFits body
  | .setTillPolicy _ body => bodyFits body
  | .charge _ body => bodyFits body
  | .openTab _ body => bodyFits body
  | .closeTab _ body => bodyFits body
  | .void _ body => bodyFits body
  | .malformed kind _ body => !Machine.knownTillRequest kind && bodyFits body
  | .chargeSettlement _ => true
  | .openTabSettlement _ => true
  | .closeTabSettlement _ => true
  | .voidSettlement _ => true
  | .addCabin _ body => bodyFits body
  | .removeCabin _ body => bodyFits body
  | .bind _ body => bodyFits body
  | .unbind _ body => bodyFits body
  | .setCabinState _ body => bodyFits body
  | .setAccessPolicy _ body => bodyFits body
  | .queryAccessPolicy _ body => bodyFits body
  | .queryCabin _ body => bodyFits body
  | .setPollWindow _ body => bodyFits body
  | .querySegment _ body => bodyFits body
  | .quiet _ body => bodyFits body
  | .card _ body => bodyFits body
  | .entry _ body => bodyFits body
  | .restarted _ body => bodyFits body
  | .miss _ => true
  | .cycleWait _ => true
  | .entryReport => true
  | .requestPulse _ lowMs => decide (lowMs < 40)
  | .restartPulse _ lowMs => decide (1 ≤ lowMs) && decide (lowMs < 1000)
  | .detach _ => true
  | .attach _ => true
  | .retryFetch _ => true
  | .passages _ body => bodyFits body
  | .fetchFailure _ => true
  | .judgingAPassage _ => true
  | .setStation _ body => bodyFits body
  | .queryStation _ body => bodyFits body
  | .setPerson _ body => bodyFits body
  | .setPresence _ body => bodyFits body
  | .queryPerson _ body => bodyFits body
  | .queryCounts _ body => bodyFits body
  | .setAllAboard _ body => bodyFits body
  | .cancelAllAboard _ body => bodyFits body
  | .clearTimer _ body => bodyFits body
  | .clearMissing _ body => bodyFits body
  | .readMissing _ body => bodyFits body
  | .drain _ body => bodyFits body
  | .release _ body => bodyFits body
  | .queryJournal _ body => bodyFits body
  | .next _ body => bodyFits body
  | .stop _ body => bodyFits body
  | .load _ body => bodyFits body
  | .loadItem _ body => bodyFits body
  | .serviceWindowExpiry => true
  | .sense _ body => bodyFits body
  | .setPriority _ body => bodyFits body
  | .queryAttention _ body => bodyFits body
  | .startService _ body => bodyFits body
  | .status _ body => bodyFits body
  | .stationLineFall _ => true
  | .purgeEndsAborted => true
  | .endOfTransmission _ => true
  | .startByte _ => true

end Sys2Proof
end

