-- ==== Sys2Proof/Certificates/Slice0/Obligations.lean ====
section
/-! DEFINITION. The statements for the provers. A request's owner finds the state `heard .service s`, in which the service port hunts again; what its exchange
leaves is `answered`, and what a request refused before execution leaves is `turnedAway` (Sys2Proof/Safety.lean). -/
section Slice0Statements
open Sys2Proof Sys2Proof.Machine

/-! ### The queue, power-on and RESTART -/

/-- The step executes the command at the front of the queue on the state with the rest of it. With no command waiting and nothing coming in on a line it idles: the
model's choice (log 1). -/
def Obligations.StepRunsTheFrontCommand : Prop :=
  (∀ (s : State) (c : Instr) (rest : List Instr), step { s with pending := c :: rest } = exec c { s with pending := rest })
  ∧ ∀ s : State, s.pending = [] → s.lines = [] → step s = .next s

/-- What power-on leaves, item by item, from any state (R14, R40, R63, R87, R109, R130, R146, R170, R183, R202). That the waiting commands, the
bytes still to arrive and the line levels stay is the model's choice (log 35). -/
def Obligations.PowerOnSetsEveryItem : Prop :=
  ∀ s : State, ∃ t, exec .powerOn s = .next t
    ∧ t.slc = { service := .loading, exchange := false, transfer := none, windowMs := none }
    ∧ t.atu.attn = false ∧ (∀ e ∈ t.atu.causes.toList, e.pending = none)
    ∧ t.atu.causes.toList.map (·.priority) = [6, 4, 3, 4, 2, 3, 5, 3, 5, 4, 4, 7, 6, 3, 2, 5, 2, 5, 7, 3, 3, 1, 2, 1, 1]
    ∧ t.crg = { ring := [], purge := { phase := .idle, shift := none, abort := false, counts := ⟨0, 0, 0⟩, last := none } }
    ∧ t.persons = []
    ∧ t.scl = { voyage := 0, offset := 0, shift := none, trimHold := 0, folioDay := 0, closeHour := 5, closePoint := none, lastClose := none,
                closeHeld := false }
    ∧ (∀ n : Fin 128, t.chu.tills[n] = { venue := none, working := none, lastSequence := none, lastDecision := none, lastApproved := none })
    ∧ (∀ n : Fin 64, t.chu.venues[n] =
        { isOpen := false, category := .bar, exempt := false, returns := false, live := ⟨.base, 0, 0, false, .halfEven⟩,
          staged := ⟨.base, 0, 0, false, .halfEven⟩, stagedPending := false })
    ∧ t.chu.rateLive = 16777216 ∧ t.chu.rateStaged = 16777216 ∧ t.chu.ratePending = false ∧ t.chu.policy = .lenient
    ∧ t.fst = { folios := [], nextHold := 1, band := 90, lifetime := 8, dayTotal := 0, saturated := false }
    ∧ t.cau = { cabins := [], policy := .lenient, logging := .denials, reports := [] }
    ∧ (∀ i : Fin 8, t.lscs[i] =
        { nodes := [], windowMs := 6, cycle := 0, running := false, turn := none, lastTurn := none, waitMs := none })
    ∧ (∀ g : Fin 4, t.pru.stations[g] =
        { lineHigh := s.pru.stations[g].lineHigh, attached := if s.pru.stations[g].lineHigh then .attached else .detached, mode := .closed,
          pulseLimit := 3, shortSeen := false, longSeen := false, expected := none, failures := 0, fetch := .none, retryMs := none,
          frequency := .off, lastShown := none, tallyDay := none, tallyIn := 0, tallyOut := 0 })
    ∧ (∀ cls p, t.pru.count cls p = 0) ∧ t.pru.timer = .clear ∧ t.pru.newlyMarked = 0 ∧ t.pru.missingCount = 0
    ∧ t.jnl = { ring := [], next := 1, delivered := 1, released := 1, drops := 0, overflow := false }
    ∧ (∀ p, t.rxOf p = .hunting ∧ t.txOf p = []) ∧ t.boundary = none ∧ t.lines = s.lines ∧ t.pending = s.pending

/-- RESTART (R201): the tables are empty and the settings at their defaults, the journal, the clock and the frames still to send are kept, a WORKING
till is answered NOT SERVING, in ascending till number (the model's choice, log 49), a held card DEFER (log 11), and the reply is DONE. A frame that is coming on a
port goes on, as begun in no reply window that is open later (R185; log 46). -/
def Obligations.RestartKeepsJournalAndClock : Prop :=
  ∀ (s : State) (tag : Byte), s.boundary = none → s.slc.exchange = false → ∃ t, exec (.restart tag []) s = .next t
    ∧ t.slc = { service := .loading, exchange := true, transfer := none, windowMs := none }
    ∧ t.atu.attn = false ∧ (∀ e ∈ t.atu.causes.toList, e.pending = none)
    ∧ t.atu.causes.toList.map (·.priority) = [6, 4, 3, 4, 2, 3, 5, 3, 5, 4, 4, 7, 6, 3, 2, 5, 2, 5, 7, 3, 3, 1, 2, 1, 1]
    ∧ t.crg = { ring := [], purge := { phase := .idle, shift := none, abort := false, counts := ⟨0, 0, 0⟩, last := none } } ∧ t.persons = []
    ∧ t.scl = { s.scl with closePoint := none, closeHeld := false }
    ∧ (∀ n : Fin 128, t.chu.tills[n] = { venue := none, working := none, lastSequence := none, lastDecision := none, lastApproved := none })
    ∧ (∀ n : Fin 64, t.chu.venues[n] =
        { isOpen := false, category := .bar, exempt := false, returns := false, live := ⟨.base, 0, 0, false, .halfEven⟩,
          staged := ⟨.base, 0, 0, false, .halfEven⟩, stagedPending := false })
    ∧ t.chu.rateLive = 16777216 ∧ t.chu.rateStaged = 16777216 ∧ t.chu.ratePending = false ∧ t.chu.policy = .lenient
    ∧ t.fst = { folios := [], nextHold := 1, band := 90, lifetime := 8, dayTotal := 0, saturated := false }
    ∧ t.cau = { cabins := [], policy := .lenient, logging := .denials, reports := [] }
    ∧ (∀ i : Fin 8, t.lscs[i] = { nodes := [], windowMs := 6, cycle := 0, running := false, turn := none, lastTurn := none, waitMs := none })
    ∧ (∀ g : Fin 4, t.pru.stations[g] =
        { lineHigh := s.pru.stations[g].lineHigh, attached := if s.pru.stations[g].lineHigh then .attached else .detached, mode := .closed,
          pulseLimit := 3, shortSeen := false, longSeen := false, expected := none, failures := 0, fetch := .none, retryMs := none,
          frequency := .off, lastShown := none, tallyDay := none, tallyIn := 0, tallyOut := 0 })
    ∧ (∀ cls p, t.pru.count cls p = 0) ∧ t.pru.timer = .clear ∧ t.pru.newlyMarked = 0 ∧ t.pru.missingCount = 0
    ∧ t.jnl = s.jnl
    ∧ t.txOf .service = s.txOf .service ++ [replyFrame 0x79 tag .done .nothing true]
    ∧ t.txOf .till = s.txOf .till ++ (List.finRange 128).filterMap (fun n => s.chu.tills[n].working.map (fun w =>
        Frame.tillAnswer { kind := answerKind w.work.kind, sequence := w.sequence, till := tillByte n, repeated := false,
                           body := bareAnswer .notServing }))
    ∧ (∀ i : Fin 8, t.txOf (.segment i) = s.txOf (.segment i) ++
        (match s.lscs[i].turn with
         | some tr => (match tr.heldCard with
                       | some serial => [Frame.decision tr.address serial .defer]
                       | none => [])
         | none => []))
    ∧ (∀ g : Fin 4, t.txOf (.station g) = s.txOf (.station g))
    ∧ t.rxOf .service = .hunting
    ∧ (∀ p, p ≠ .service → (s.rxOf p = .hunting → t.rxOf p = .hunting)
        ∧ ∀ w bytes, s.rxOf p = .collecting w bytes → t.rxOf p = .collecting false bytes)
    ∧ t.boundary = none ∧ t.free = s.free ∧ t.lines = s.lines ∧ t.pending = s.pending

/-! ### How requests are judged (R188-R190) -/

/-- Requests refused before execution (R190): INVALID for a request with no transfer it belongs to or of an unknown kind, BUSY while an exchange or a
transfer is open, MALFORMED with the index of the field at fault, every field being judged alone before those judged together (the model's choice, log 50). Nothing else
changes. The reply of an exchange that is open has been formed before, by the model's choice (log 57), so that a BUSY reply follows it. -/
def Obligations.RequestsAreTurnedAwayInOrder : Prop :=
  (∀ s : State, s.boundary = none →
    (∀ c r, requestOf c = some r → s.linkFree = false → exec c s = .next (turnedAway r.code r.tag .busy .nothing (heard .service s)))
    ∧ (s.slc.exchange = true →
        (∀ tag body, exec (.restart tag body) s = .next (turnedAway 0x79 tag .busy .nothing (heard .service s)))
        ∧ (∀ tag body tr, s.slc.transfer = some tr → exec (.stop tag body) s = .next (turnedAway 0x71 tag .busy .nothing (heard .service s)))
        ∧ (∀ tag body table count next stored, s.slc.transfer = some (.load table count next stored) →
            exec (.loadItem tag body) s = .next (turnedAway 0x73 tag .busy .nothing (heard .service s)))
        ∧ ∀ tag body tr, s.slc.transfer = some tr → (∀ table count next stored, tr ≠ .load table count next stored) →
            exec (.next tag body) s = .next (turnedAway 0x70 tag .busy .nothing (heard .service s))))
  ∧ (∀ s : State, s.boundary = none → s.slc.exchange = false →
    (∀ c r i, requestOf c = some r → s.slc.transfer = none → judgeFields r.fields r.cross r.body = .error i →
      exec c s = .next (turnedAway r.code r.tag .malformed (.field i) (heard .service s)))
    ∧ (∀ tag body, body ≠ [] → exec (.restart tag body) s = .next (turnedAway 0x79 tag .malformed (.field 0) (heard .service s)))
    ∧ (∀ tag body tr, s.slc.transfer = some tr → body ≠ [] →
        exec (.stop tag body) s = .next (turnedAway 0x71 tag .malformed (.field 0) (heard .service s)))
    ∧ (∀ tag body tr, s.slc.transfer = some tr → (∀ table count next stored, tr ≠ .load table count next stored) → body ≠ [] →
        exec (.next tag body) s = .next (turnedAway 0x70 tag .malformed (.field 0) (heard .service s)))
    ∧ ∀ tag body table count next stored i, s.slc.transfer = some (.load table count next stored) → judgeItem table body = .error i →
        exec (.loadItem tag body) s = .next (turnedAway 0x73 tag .malformed (.field i) (heard .service s)))
  ∧ (∀ s : State, s.boundary = none →
    (s.slc.transfer = none → ∀ tag body,
      exec (.next tag body) s = .next (turnedAway 0x70 tag .invalid .nothing (heard .service s))
      ∧ exec (.stop tag body) s = .next (turnedAway 0x71 tag .invalid .nothing (heard .service s))
      ∧ exec (.loadItem tag body) s = .next (turnedAway 0x73 tag .invalid .nothing (heard .service s)))
    ∧ (∀ table count next stored tag body, s.slc.transfer = some (.load table count next stored) →
        exec (.next tag body) s = .next (turnedAway 0x70 tag .invalid .nothing (heard .service s)))
    ∧ (∀ tr tag body, s.slc.transfer = some tr → (∀ table count next stored, tr ≠ .load table count next stored) →
        exec (.loadItem tag body) s = .next (turnedAway 0x73 tag .invalid .nothing (heard .service s)))
    ∧ ∀ kind tag body, knownRequest kind = false →
        exec (.invalid kind tag body) s = .next (turnedAway kind tag .invalid .nothing (heard .service s)))

/-- R189: a request accepted for execution opens an exchange, its receiver hunts, and one reply with its code, its tag and the mark of an exchange is
formed behind the frames of the service port. That the owner completes the request and the reply is formed in the accepting event is the model's choice (log 57). -/
def Obligations.AcceptedRequestOpensAnExchange : Prop :=
  ∀ (s : State) (c : Instr) (r : Request) (v : Values), requestOf c = some r → s.ready = true → judgeFields r.fields r.cross r.body = .ok v →
    ∃ t status payload, exec c s = .next t ∧ t.slc.exchange = true ∧ t.rxOf .service = .hunting
      ∧ t.txOf .service = s.txOf .service ++ [replyFrame r.code r.tag status payload true] ∧ t.pending = s.pending

/-- The field bytes of a request (R188) and of a LOAD ITEM decode to values exactly when those values lie in the field table and encode to these bytes: no bit of a
request is dropped, and no two bodies carry the same values. That the value bytes of an absent field and its flag byte hold nothing else (log 20), that the bits of a
set that stand for no member are 0 (log 21) and which fields have a flag byte (log 19) is the model's reading. -/
def Obligations.RequestFieldsDecodeIffEncoded : Prop :=
  (∀ (c : Instr) (r : Request) (v : Values), requestOf c = some r →
    (decodeFields r.fields r.body = .ok v ↔ fitsAll r.fields v = true ∧ encodeFields r.fields v = r.body))
  ∧ ∀ (table : LoadTable) (item : List Byte) (v : Values), item.length = fieldsWidth (itemFields table) →
    (decodeFieldsFrom 2 (itemFields table) item = .ok v ↔ fitsAll (itemFields table) v = true ∧ encodeFields (itemFields table) v = item)

/-! ### Frames (R184-R186, R189, R191) -/

/-- A frame as transmitted passes the envelope test of R185: its length field and CRC are those computed (R184, R186). A reply's frame begins with the kind, the tag and
the status byte of R187 and R188, and a reply of a status alone ends with it. The bodies of the field frames and till answers stand as R89, R134 and R148 tabulate them,
and a journal record as chapter 9.3, R176 and R177 do. In a reply's further fields the money fields (R54), the split forms (R55) and the records of a drain (R179) have
their bytes, in the order in which the owning rule names them; the layout of the fields between them is a free value (log 15). -/
def Obligations.TransmittedFramesPassTheEnvelope : Prop :=
  (∀ (kind tag : Byte) (fields : List Byte), fields.length ≤ 1022 → envelopeOk (envelope kind tag fields) = true)
  ∧ (∀ f : Frame, (∀ es, f = .verdicts es → es.length ≤ 16) → envelopeOk f.bytes = true ∧ badCrcFrame f.bytes = false)
  ∧ (∀ r : Reply,
    (r.payload = .nothing → Frame.bytes (.reply r) = envelope r.kind r.tag [BitVec.ofNat 8 r.status.code])
    ∧ (Frame.bytes (.reply r)).head? = some 0xB5
    ∧ slice (Frame.bytes (.reply r)) 3 3 = [r.kind, r.tag, BitVec.ofNat 8 r.status.code]
    ∧ leNat (slice (Frame.bytes (.reply r)) 1 2) + 5 = (Frame.bytes (.reply r)).length
    ∧ Frame.bytes (.reply r) = envelope r.kind r.tag (BitVec.ofNat 8 r.status.code :: r.payload.bytes))
  ∧ (let le (w : Nat) (n : Int) : List Byte := (List.range w).map (fun k => BitVec.ofInt 8 (n / 256 ^ k))
     let bit (b : Bool) : Int := if b then 1 else 0
     (∀ a : Nat, Frame.bytes (.poll a) = envelope 0x01 0 (le 2 a)
       ∧ (∀ m, Frame.bytes (.mode a m) = envelope 0x02 0 (le 2 a ++ le 1 m.number))
       ∧ ∀ serial d, Frame.bytes (.decision a serial d) = envelope 0x03 0 (le 2 a ++ le 4 serial.toNat ++ le 1 d.number))
     ∧ Frame.bytes .fetch = envelope 0x01 0 [16]
     ∧ (∀ es, Frame.bytes (.verdicts es) = envelope 0x02 0 (le 1 es.length ++ es.flatMap (fun e => le 2 e.1.toNat ++ le 1 e.2.number)))
     ∧ (∀ c : Counts, Frame.bytes (.counts c) = envelope 0x03 0 (le 2 c.guestsAboard ++ le 2 c.crewAboard ++ le 2 c.guestsAshore ++ le 2 c.crewAshore
         ++ le 2 (c.minutes.elim 65535 (fun m => (m : Int))) ++ le 1 c.hour ++ le 1 c.minute))
     ∧ (∀ x : TillAnswer, Frame.bytes (.tillAnswer x) = envelope x.kind x.sequence (x.till :: (le 1 x.body.verdict.number
         ++ le 1 (x.body.reason.elim 0 (fun r => (r.number : Int))) ++ le 1 x.body.detail1 ++ le 1 x.body.detail2 ++ le 1 (bit x.repeated)
         ++ le 4 x.body.charge.toNat ++ le 3 x.body.amount1 ++ le 3 x.body.amount2 ++ le 3 x.body.amount3 ++ le 2 x.body.hold)))
     ∧ [LockMode.lockdown, .outOfOrder, .normal].map LockMode.number = [1, 2, 3]
     ∧ [AccessDecision.grant, .grantMaster, .defer, .denyNotBound, .denyUnknown, .denyLost, .denySuspended, .denyDeparted, .denyAshore, .denyCabinClosed,
         .denyPrivacy, .denyNotYet, .denyExpired].map AccessDecision.number = List.range' 1 13
     ∧ [PassageVerdict.accepted, .acceptedWithNote, .duplicate, .refusedClosed, .refusedWrongWay, .refusedUnknown, .refusedLost,
         .refusedDeparted].map PassageVerdict.number = List.range' 1 8
     ∧ [Verdict.approved, .declined, .notConfigured, .busy, .notServing, .malformed].map Verdict.number = List.range' 1 6
     ∧ [Reason.venueClosed, .unknownCard, .cardLost, .cardSuspended, .cardDeparted, .noChargePrivilege, .noFolio, .ageRestricted, .ashore, .amountRange,
         .folioFrozen, .folioClosed, .overLimit, .overAllowance, .returnsRefused, .holdsFull, .holdUnknown, .voidRefused,
         .journalFull].map Reason.number = List.range' 1 19
     ∧ (∀ r : Record, r.bytes.length = 32 ∧ r.bytes = le 4 r.sequence.toNat ++ le 1 r.kind.code
         ++ le 1 (bit r.flags.irregular + 2 * bit r.flags.limited + 4 * bit r.flags.saturated + 8 * bit r.flags.lenient) ++ le 4 r.voyage ++ le 2 r.index
         ++ le 4 r.serial.toNat ++ le 2 r.folio ++ le 1 r.place ++ le 1 r.reason ++ le 3 r.a ++ le 3 r.b ++ le 3 r.c ++ le 3 r.aux)
     ∧ [RecordKind.charge, .void, .tabOpen, .tabClose, .tabExpire, .credit, .dayClose].map RecordKind.code = List.range' 1 7
     ∧ [RecordKind.access, .passage, .anomaly, .allAboard, .zoneShift, .node, .gap].map RecordKind.code = List.range' 16 7
     ∧ (let split (p : Split) : List Byte := le 3 p.low ++ le 1 p.high
        (∀ day total saturated, ∃ x y, Payload.bytes (.dayTotal day total saturated) = x ++ split total ++ y)
        ∧ (∀ balance state, ∃ x, Payload.bytes (.credit balance state) = le 3 balance ++ x)
        ∧ (∀ state balance limit reserved available persons near limited (holds : List HoldReading), holds.length ≤ 4 → ∃ x y, ∃ z : Nat → List Byte,
            Payload.bytes (.folio state balance limit reserved available persons near limited holds) =
              x ++ le 3 balance ++ split limit ++ split reserved ++ split available ++ y ++ holds.zipIdx.flatMap (fun e => le 3 e.1.amount ++ z e.2))
        ∧ (∀ state balance, ∃ x, Payload.bytes (.folioSplit state balance) = x ++ split balance)
        ∧ (∀ p effective, ∃ x y z, Payload.bytes (.person p effective) =
            x ++ le 3 p.spend.allowance ++ le 3 p.spend.spentToday ++ y ++ le 3 effective ++ z)
        ∧ (∀ t : TillReading, ∃ x y, Payload.bytes (.till t) =
            x ++ t.lastDecision.elim [] (fun d => le 3 d.body.amount1 ++ le 3 d.body.amount2 ++ le 3 d.body.amount3 ++ y)
              ++ t.lastApproved.elim [] (fun a => le 3 a.total))
        ∧ ∀ rs fin, rs.length ≤ 8 → ∃ x y, Payload.bytes (.records rs fin) = x ++ rs.flatMap Record.bytes ++ y))

/-- What comes in on a line, event by event, with no command waiting (R185): a hunting receiver waits for a start byte; a collecting one takes the length, collects the
frame, judges its CRC, and hands a received frame on as the command of its kind code (R187). A gap ends the frame. After a bad length the bytes after the start byte come
to the receiver again. That these are steps of the machine between commands, and the rows START_BYTE, DISCARDED_FRAME and of the frames their outcomes, is the model's
choice (log 43). -/
def Obligations.LineEventsComeToTheReceivers : Prop :=
  ∀ (s : State) (p : Port) (e : LineEvent) (rest : List (Port × LineEvent)), s.pending = [] → s.lines = (p, e) :: rest →
    let u : State := { s with lines := rest }
    let brings (c : Instr) : Prop := step s = .next { u with pending := [c] }
    (s.rxOf p = .hunting →
      (e = .byte 0xB5 → brings (.startByte p))
      ∧ (∀ b, e = .byte b → b ≠ 0xB5 → step s = .next u)
      ∧ (e = .gap → step s = .next u))
    ∧ ∀ w bytes, s.rxOf p = .collecting w bytes →
      (e = .gap → brings (.discardedFrame p .gap))
      ∧ ∀ b, e = .byte b →
        let frame := bytes ++ [b]
        let n := leNat (slice frame 1 2)
        let crc := leNat (frame.drop (frame.length - 2)) = (crc16 (slice frame 1 (frame.length - 3))).toNat
        (frame.length < 3 → step s = .next (setRx p (.collecting w frame) u))
        ∧ (3 ≤ frame.length → n < 2 ∨ 1024 < n → step s = .next { u with
            pending := [.discardedFrame p (.badLength (BitVec.ofNat 16 n))], lines := frame.tail.map (fun x => (p, .byte x)) ++ rest })
        ∧ (3 ≤ frame.length → 2 ≤ n → n ≤ 1024 →
          (frame.length < n + 5 → step s = .next (setRx p (.collecting w frame) u))
          ∧ (n + 5 ≤ frame.length → crc → brings (frameCommand p (frame.getD 3 0) (frame.getD 4 0) (slice frame 5 (n - 2))))
          ∧ (n + 5 ≤ frame.length → ¬ crc → brings (.discardedFrame p (.badCrc frame))))

/-- A frame sent by R184 is collected whole and received as the kind, tag and fields it was sent with, and nothing is received before its last byte (R185). The command of
a frame's kind code is the one whose code it is, with the same tag and fields (R187); a node's or station's frame of another kind is discarded (log 8), and their tags are
not looked at (log 51). The bodies of the nodes', the stations' and the tills' frames are read as R134, R148, R43 and R88 lay them out, and no other body is taken. -/
def Obligations.FramesAreReceivedAsTheirCommands : Prop :=
  (∀ (kind tag : Byte) (body : List Byte), body.length ≤ 1022 →
    collect (envelope kind tag body) = .frame kind tag body
    ∧ ∀ n < (envelope kind tag body).length, collect ((envelope kind tag body).take n) = .more)
  ∧ (∀ (c : Instr) (p : Port) (kind tag : Byte) (body : List Byte), c.wellFormed = true → frameOf c = some (p, kind, tag, body) →
      body.length ≤ 1022 ∧ frameCommand p kind tag body = c)
  ∧ (∀ kind tag body, frameOf (frameCommand .service kind tag body) = some (.service, kind, tag, body)
      ∧ frameOf (frameCommand .till kind tag body) = some (.till, kind, tag, body)
      ∧ (knownRequest kind = false → frameCommand .service kind tag body = .invalid kind tag body)
      ∧ (knownTillRequest kind = false → frameCommand .till kind tag body = .malformed kind tag body))
  ∧ (∀ i kind tag body, (knownNodeFrame kind = true → frameOf (frameCommand (.segment i) kind tag body) = some (.segment i, kind, 0, body))
      ∧ (knownNodeFrame kind = false → frameCommand (.segment i) kind tag body = .discardedFrame (.segment i) (.unsuited kind)))
  ∧ (∀ g kind tag body, (kind = 0x11 → frameCommand (.station g) kind tag body = .passages g body)
      ∧ (kind ≠ 0x11 → frameCommand (.station g) kind tag body = .discardedFrame (.station g) (.unsuited kind)))
  ∧ ∀ body : List Byte,
    let le (w : Nat) (n : Int) : List Byte := (List.range w).map (fun k => BitVec.ofInt 8 (n / 256 ^ k))
    let bit (b : Bool) : Int := if b then 1 else 0
    let places (a : Nat) : Prop := 1 ≤ a ∧ a ≤ 511
    (∀ fr, quietOf body = some fr ↔ ∃ a, places a ∧ body = le 2 a ∧ fr = ⟨a, .quiet⟩)
    ∧ (∀ fr, restartedOf body = some fr ↔ ∃ a, places a ∧ body = le 2 a ∧ fr = ⟨a, .restarted⟩)
    ∧ (∀ fr, cardOf body = some fr ↔ ∃ a serial, places a ∧ body = le 2 a ++ le 4 serial.toNat ∧ fr = ⟨a, .card serial⟩)
    ∧ (∀ fr, entryOf body = some fr ↔ ∃ a e privacy, places a
        ∧ (∃ code, (e, code) ∈ [(EntryState.closed, 0), (.opened, 1), (.heldOpen, 2)] ∧ body = le 2 a ++ le 1 code ++ le 1 (bit privacy))
        ∧ fr = ⟨a, .entry e privacy⟩)
    ∧ (∀ ps, passagesOf body = some ps ↔ ps.length ≤ 16 ∧ (∀ p ∈ ps, p.age ≤ 255)
        ∧ body = le 1 ps.length ++ ps.flatMap (fun p => le 2 p.sequence.toNat ++ le 4 p.serial.toNat ++ le 1 (bit p.inward) ++ le 1 p.age))
    ∧ ∀ r : TillRequest,
      let head := le 1 r.till.val ++ le 4 r.serial.toNat
      let named := r.serial ≠ 0 ∧ r.serial ≠ 0xFFFFFFFF
      let valid (ls : List Line) : Prop := 1 ≤ ls.length ∧ ls.length ≤ 8
        ∧ ∀ l ∈ ls, 0 ≤ l.price ∧ l.price ≤ 9999999 ∧ -99 ≤ l.quantity ∧ l.quantity ≤ 99 ∧ l.quantity ≠ 0
      let listed (ls : List Line) : List Byte := le 1 ls.length
        ++ ls.flatMap (fun l => le 3 l.price ++ le 1 l.quantity ++ le 1 (bit l.age + 2 * bit l.noGrat + 4 * bit l.noTax))
      (tillRequestOf .charge body = .ok r ↔ named ∧ ∃ ls, r.ask = .charge ls ∧ valid ls ∧ body = head ++ listed ls)
      ∧ (tillRequestOf .openTab body = .ok r ↔ named ∧ ∃ a, r.ask = .openTab a ∧ 1 ≤ a ∧ a ≤ 8388607 ∧ body = head ++ le 3 a)
      ∧ (tillRequestOf .closeTab body = .ok r ↔
          named ∧ ∃ hold ls, r.ask = .closeTab hold ls ∧ 1 ≤ hold ∧ hold ≤ 65535 ∧ valid ls ∧ body = head ++ le 2 hold ++ listed ls)
      ∧ (tillRequestOf .void body = .ok r ↔ named ∧ ∃ charge, r.ask = .void charge ∧ body = head ++ le 4 charge.toNat)

/-- END_OF_TRANSMISSION: the frame in transmission leaves its port; a reply's exchange ends and the window of a transfer that goes on runs for 2 s; the reply
window of a turn or fetch that is to begin runs from the end of the last POLL, MODE or FETCH of its port (log 33), and the end of any other frame moves the queue
alone. The end of a reply that is of no exchange moves its queue alone (log 34), and with
nothing to transmit the event has no occasion (log 2).
START_BYTE and DISCARDED_FRAME move the receiver alone (R185); a start byte notes whether a reply window is open (R136, R150), that of a node from the beginning of its
turn on (log 7). A discard without a fault of the frame has no occasion (log 2). -/
def Obligations.FramingEventsMoveReceiversAndWindows : Prop :=
  (∀ s : State, s.boundary = none →
    (∀ p, s.txOf p = [] → exec (.endOfTransmission p) s = .next s)
    ∧ (∀ r later, s.txOf .service = .reply r :: later → r.ofExchange = true →
        exec (.endOfTransmission .service) s = .next { setTx .service later s with
          slc := { s.slc with exchange := false, windowMs := if s.slc.transfer.isSome then some 2000 else s.slc.windowMs } })
    ∧ (∀ r later, s.txOf .service = .reply r :: later → r.ofExchange = false →
        exec (.endOfTransmission .service) s = .next (setTx .service later s))
    ∧ (∀ f later, s.txOf .till = f :: later → exec (.endOfTransmission .till) s = .next (setTx .till later s))
    ∧ (∀ i f later, s.txOf (.segment i) = f :: later →
        let opens (x : Frame) : Prop := (∃ a, x = .poll a) ∨ ∃ a m, x = .mode a m
        (∀ tr, opens f → (∀ x ∈ later, ¬ opens x) → s.lscs[i].turn = some tr → tr.window = .toBegin → exec (.endOfTransmission (.segment i)) s =
          .next (putLsc i { s.lscs[i] with turn := some { tr with window := .running } } (setTx (.segment i) later s)))
        ∧ (¬ opens f ∨ (∃ x ∈ later, opens x) ∨ (∀ tr, s.lscs[i].turn = some tr → tr.window ≠ .toBegin) →
          exec (.endOfTransmission (.segment i)) s = .next (setTx (.segment i) later s)))
    ∧ ∀ g f later, s.txOf (.station g) = f :: later →
        (f = .fetch → .fetch ∉ later → s.pru.stations[g].fetch = .waiting .toBegin → exec (.endOfTransmission (.station g)) s =
          .next (putStation g { s.pru.stations[g] with fetch := .waiting .running } (setTx (.station g) later s)))
        ∧ (f ≠ .fetch ∨ .fetch ∈ later ∨ s.pru.stations[g].fetch ≠ .waiting .toBegin →
          exec (.endOfTransmission (.station g)) s = .next (setTx (.station g) later s)))
  ∧ (∀ s : State, s.boundary = none →
    (∀ p, s.rxOf p = .hunting → exec (.startByte p) s = .next (setRx p (.collecting (s.windowOpen p) [0xB5]) s))
    ∧ (∀ p w bytes, s.rxOf p = .collecting w bytes → exec (.startByte p) s = .next s)
    ∧ (∀ i, s.windowOpen (.segment i) = true ↔ ∃ tr, s.lscs[i].turn = some tr ∧ tr.window ≠ .over)
    ∧ (∀ g, s.windowOpen (.station g) = true ↔ s.pru.stations[g].fetch = .waiting .running)
    ∧ (∀ p why, why.fits p = false → exec (.discardedFrame p why) s = .next s)
    ∧ (∀ p l, Discard.fits p (.badLength l) = true ↔ l.toNat < 2 ∨ 1024 < l.toNat) ∧ (∀ p, Discard.fits p .gap = true)
    ∧ (∀ p frame, Discard.fits p (.badCrc frame) = true ↔ frame.head? = some 0xB5 ∧ 2 ≤ leNat (slice frame 1 2) ∧ leNat (slice frame 1 2) ≤ 1024
        ∧ frame.length = leNat (slice frame 1 2) + 5 ∧ leNat (frame.drop (frame.length - 2)) ≠ (crc16 (slice frame 1 (frame.length - 3))).toNat)
    ∧ (∀ why, (Discard.fits .service why = true → exec (.discardedFrame .service why) s = .next (heard .service s))
        ∧ (Discard.fits .till why = true → exec (.discardedFrame .till why) s = .next (heard .till s)))
    ∧ (∀ i why, Discard.fits (.segment i) why = true → (∀ tr, s.lscs[i].turn = some tr → tr.window ≠ .over) →
        exec (.discardedFrame (.segment i) why) s = .next (heard (.segment i) s))
    ∧ ∀ g why, Discard.fits (.station g) why = true → s.pru.stations[g].fetch ≠ .waiting .over → exec (.discardedFrame (.station g) why) s = .next (heard (.station g) s))

/-! ### Cards and persons (chapter 1) -/

/-- A search (R2, R3): from the home slot, the top 14 bits of the product, in probe order, past OCCUPIED slots of other serials and the HOLE, to the
card or the first FREE slot.
A lookup of a card whose person is in use, and the two updates of a card (R6, R7). -/
def Obligations.SearchesLookupsAndUpdatesFollowTheProbeRun : Prop :=
  ((∀ serial : Word32, homeSlot serial = serial.toNat * 2654435761 % 4294967296 / 262144 ∧ homeSlot serial < 16384)
  ∧ ∀ (g : Crg) (serial : Word32),
    (∀ slot c, g.search serial = .found slot c → ∃ d < 16384, slot = probeSlot (homeSlot serial) d ∧ g.ring.get slot = some c ∧ c.serial = serial
      ∧ ∀ e < d, g.hole = some (probeSlot (homeSlot serial) e)
          ∨ ∃ c', g.ring.get (probeSlot (homeSlot serial) e) = some c' ∧ c'.serial ≠ serial)
    ∧ (∀ slot, g.search serial = .freeAt slot → ∃ d < 16384, slot = probeSlot (homeSlot serial) d ∧ g.ring.get slot = none ∧ g.hole ≠ some slot
      ∧ ∀ e < d, g.hole = some (probeSlot (homeSlot serial) e)
          ∨ ∃ c', g.ring.get (probeSlot (homeSlot serial) e) = some c' ∧ c'.serial ≠ serial)
    ∧ (g.search serial = .noSlot → ∀ e < 16384, g.hole = some (probeSlot (homeSlot serial) e)
          ∨ ∃ c', g.ring.get (probeSlot (homeSlot serial) e) = some c' ∧ c'.serial ≠ serial))
  ∧ (∀ (s : State) (serial : Word32),
    (∀ slot c p, s.crg.search serial = .found slot c → s.persons.get c.person = some p →
      (c.state = .withdrawn → lookup serial s = none)
      ∧ (c.state ≠ .withdrawn → lookup serial s = some { slot := slot, card := c, person := p }))
    ∧ ((∀ slot c, s.crg.search serial ≠ .found slot c) → lookup serial s = none)
    ∧ ((∀ slot c, s.crg.search serial ≠ .found slot c) → failureUpdate serial s = s ∧ successUpdate serial s = s)
    ∧ ∀ slot c, s.crg.search serial = .found slot c →
      (c.state = .withdrawn → failureUpdate serial s = s ∧ successUpdate serial s = s)
      ∧ (c.state ≠ .withdrawn →
        successUpdate serial s = putCard slot { c with failStreak := 0, lastUse := some s.scl.voyage } s
        ∧ (c.failStreak ≠ 4 → failureUpdate serial s = putCard slot { c with failStreak := min 7 (c.failStreak + 1) } s)
        ∧ (c.failStreak = 4 → failureUpdate serial s = raise .cardFailStreak serial {} (putCard slot { c with failStreak := 5 } s))))

/-- ISSUE CARD inserts the card at the FREE slot where the search ended (R1, R4, R9), with PURGE ADVISED at the crossing of 11,000 (R5).
The five checks of ISSUE CARD in their order (R9); a refused request changes nothing. -/
def Obligations.IssueCardInsertsOrRefuses : Prop :=
  (∀ (s : State) (tag : Byte) (body : List Byte) (v : Values) (p : Person) (slot : Nat), s.ready = true →
    decodeFields issueCardFields body = .ok v → s.persons.get (v.nat 2) = some p → p.att.presence ≠ .departed → p.ident.cardCount < 8 →
    s.crg.ring.length < 12000 → s.crg.search (v.word 1) = .freeAt slot →
    let c : Card := { serial := v.word 1, person := v.nat 2, state := .active, keyLevel := keyLevelOf (v.nat 3), mask := BitVec.ofNat 8 (v.nat 4),
                      failStreak := 0, issuedAt := s.scl.voyage, lastUse := none }
    let t := heard .service s
    let u := { t with crg := { s.crg with ring := s.crg.ring.set slot c },
                      persons := s.persons.set (v.nat 2) { p with ident := { p.ident with cardCount := p.ident.cardCount + 1 } } }
    exec (.issueCard tag body) s =
      .next (answered 0x01 tag .done (.slot slot ((slot + (16384 - homeSlot (v.word 1))) % 16384))
        (if s.crg.ring.length + 1 = 11000 then raise .purgeAdvised 11000 {} u else u)))
  ∧ (∀ (s : State) (tag : Byte) (body : List Byte) (v : Values), s.ready = true → decodeFields issueCardFields body = .ok v →
    let refusal (e : Status) : Prop := exec (.issueCard tag body) s = .next (answered 0x01 tag e .nothing (heard .service s))
    (s.persons.get (v.nat 2) = none → refusal .notFound)
    ∧ ∀ p, s.persons.get (v.nat 2) = some p →
      (p.att.presence = .departed → refusal .departed)
      ∧ (p.att.presence ≠ .departed → 8 ≤ p.ident.cardCount → refusal .personFull)
      ∧ (p.att.presence ≠ .departed → p.ident.cardCount < 8 → 12000 ≤ s.crg.ring.length → refusal .registryFull)
      ∧ ∀ slot c, p.att.presence ≠ .departed → p.ident.cardCount < 8 → s.crg.ring.length < 12000 → s.crg.search (v.word 1) = .found slot c →
          refusal .conflict)

/-- SET CARD STATE by the table of R10. The actions are numbered SUSPEND 0, RESUME 1, LOST 2, WITHDRAW 3. -/
def Obligations.SetCardStateFollowsItsTable : Prop :=
  ∀ (s : State) (tag : Byte) (body : List Byte) (v : Values), s.ready = true → decodeFields setCardStateFields body = .ok v →
    let refusal (e : Status) : Prop := exec (.setCardState tag body) s = .next (answered 0x02 tag e .nothing (heard .service s))
    let a := v.nat 2
    ((∀ slot c, s.crg.search (v.word 1) ≠ .found slot c) → refusal .notFound)
    ∧ ∀ slot c, s.crg.search (v.word 1) = .found slot c →
      let becomes (st : CardState) (streak : Nat) : Prop := exec (.setCardState tag body) s =
        .next (answered 0x02 tag .done (.cardState st) (putCard slot { c with state := st, failStreak := streak } (heard .service s)))
      let departed := ∃ p, s.persons.get c.person = some p ∧ p.att.presence = .departed
      (a = 0 → (c.state = .active ∨ c.state = .suspended → becomes .suspended c.failStreak)
        ∧ (c.state = .lost ∨ c.state = .departed ∨ c.state = .withdrawn → refusal .notNow))
      ∧ (a = 1 → (c.state = .active ∨ c.state = .suspended → becomes .active 0)
        ∧ (c.state = .lost ∨ c.state = .departed → (¬ departed → becomes .active 0) ∧ (departed → refusal .departed))
        ∧ (c.state = .withdrawn → refusal .notNow))
      ∧ (a = 2 → (c.state ≠ .withdrawn → becomes .lost c.failStreak) ∧ (c.state = .withdrawn → refusal .notNow))
      ∧ (a = 3 → becomes .withdrawn c.failStreak)

/-- ADD PERSON (R13): the checks in order, and the three parts, the presence count and the folio's person count of a person taken in. -/
def Obligations.AddPersonTakesThePersonIn : Prop :=
  ∀ (s : State) (tag : Byte) (body : List Byte) (v : Values), s.ready = true → decodeFields addPersonFields body = .ok v →
    let refusal (e : Status) : Prop := exec (.addPerson tag body) s = .next (answered 0x04 tag e .nothing (heard .service s))
    let cls := classOf (v.nat 2)
    let presence := (v.optNat 4).elim .expected presenceOf
    ((s.persons.get (v.nat 1)).isSome = true → refusal .conflict)
    ∧ (s.persons.get (v.nat 1) = none → v.nat 3 ≠ 0 → s.fst.folios.get (v.nat 3) = none → refusal .notFound)
    ∧ (s.persons.get (v.nat 1) = none → (v.nat 3 = 0 ∨ (s.fst.folios.get (v.nat 3)).isSome = true) → presence = .departed → refusal .range)
    ∧ (s.persons.get (v.nat 1) = none → presence ≠ .departed →
        let p : Person :=
          { ident := { cls := cls, folio := v.nat 3, cardCount := 0, cabins := [] }
            spend := { privilege := if cls = .guest ∨ cls = .crew then .full else .noPrivilege, allowance := 0, spentToday := 0,
                       spendDay := none, minor := decide (cls = .child) }
            att := { presence := presence, stamp := s.scl.voyage, lastStation := none, final := false, missing := false, irregular := false } }
        let t := heard .service s
        let u := { t with persons := s.persons.set (v.nat 1) p, pru := s.pru.setCount cls presence (s.pru.count cls presence + 1) }
        (v.nat 3 = 0 → exec (.addPerson tag body) s = .next (answered 0x04 tag .done .nothing u))
        ∧ ∀ f, v.nat 3 ≠ 0 → s.fst.folios.get (v.nat 3) = some f →
            exec (.addPerson tag body) s =
              .next (answered 0x04 tag .done .nothing (putFolio (v.nat 3) { f with personCount := f.personCount + 1 } u)))

/-! ### The purge (chapter 1.7) -/

/-- PURGE START, PURGE ABORT and the end of an aborted purge (R15, R23): that PURGE ABORT sets the mark alone, and the purge ends in an event after it, is the
model's reading (log 12), that a purge step commanded then ends it and takes no step (log 45), and that there is no walk position in IDLE (log 14). That abort requested
is no after an aborted purge has ended is the model's choice (log 56).
A purge step in phases PERSONS and FOLIOS (R21, R22) with no abort requested, on slots that stay and on those that are freed, and the complete end. -/
def Obligations.PurgeRunsFromStartToEnd : Prop :=
  (∀ (s : State) (tag : Byte), 
    (s.ready = true → s.crg.purge.phase = .idle →
      exec (.purgeStart tag []) s = .next (answered 0x05 tag .done .nothing (setPurge
        { s.crg.purge with phase := .cards 0, shift := none, abort := false, counts := ⟨0, 0, 0⟩ } (heard .service s)))
      ∧ exec (.purgeAbort tag []) s = .next (answered 0x06 tag .notNow .nothing (heard .service s)))
    ∧ (s.ready = true → s.crg.purge.phase ≠ .idle →
      exec (.purgeStart tag []) s = .next (answered 0x05 tag .purgeActive .nothing (heard .service s))
      ∧ exec (.purgeAbort tag []) s = .next (answered 0x06 tag .done .nothing (setPurge { s.crg.purge with abort := true } (heard .service s))))
    ∧ (s.boundary = none → s.crg.purge.phase ≠ .idle → s.crg.purge.abort = true → s.crg.purge.shift = none →
      ∀ c ∈ [Instr.purgeEndsAborted, .purgeCardsStep, .purgePersonsStep, .purgeFoliosStep], exec c s = .next (raise .purgeDone 1
        (detail (min 65535 s.crg.purge.counts.cards) (min 65535 s.crg.purge.counts.persons) (min 65535 s.crg.purge.counts.folios))
        (setPurge { phase := .idle, shift := none, abort := false, counts := ⟨0, 0, 0⟩, last := some (s.crg.purge.counts, .aborted) } s))))
  ∧ (∀ (s : State) (walk : Nat), s.boundary = none → s.crg.purge.abort = false →
    let p := s.crg.purge
    (p.phase = .persons walk →
      ((∀ q, s.persons.get walk = some q → q.att.presence ≠ .departed ∨ q.ident.cardCount ≠ 0) →
        exec .purgePersonsStep s = .next (setPurge { p with phase := if walk + 1 > 8000 then .folios 1 else .persons (walk + 1) } s))
      ∧ ∀ q, s.persons.get walk = some q → q.att.presence = .departed → q.ident.cardCount = 0 → ∃ t, exec .purgePersonsStep s = .next t
        ∧ t.persons = s.persons.erase walk
        ∧ t.crg = { s.crg with purge := { p with phase := if walk + 1 > 8000 then .folios 1 else .persons (walk + 1),
                                                 counts := { p.counts with persons := p.counts.persons + 1 } } }
        ∧ t.pru = s.pru.setCount q.ident.cls .departed (s.pru.count q.ident.cls .departed - 1)
        ∧ (∀ n, n ≠ q.ident.folio → t.fst.folios.get n = s.fst.folios.get n)
        ∧ (q.ident.folio ≠ 0 → ∀ f, s.fst.folios.get q.ident.folio = some f →
            t.fst.folios.get q.ident.folio = some { f with personCount := f.personCount - 1 })
        ∧ (∀ n, t.cau.cabins.get n = (s.cau.cabins.get n).map (fun c =>
            if n ∈ q.ident.cabins then { c with bindings := c.bindings.filter (fun b => b.person ≠ walk) } else c))
        ∧ { t.fst with folios := s.fst.folios } = s.fst ∧ { t.cau with cabins := s.cau.cabins } = s.cau
        ∧ t.atu = s.atu ∧ t.jnl = s.jnl ∧ t.scl = s.scl ∧ t.chu = s.chu ∧ t.slc = s.slc ∧ t.lscs = s.lscs ∧ t.ports = s.ports
        ∧ t.boundary = none ∧ t.free = s.free ∧ t.lines = s.lines ∧ t.pending = s.pending)
    ∧ (p.phase = .folios walk →
      let free := ∃ f, s.fst.folios.get walk = some f ∧ f.state = .closed ∧ f.balance = 0 ∧ f.personCount = 0
      let done (t : State) (r : Removals) : State := raise .purgeDone 0 (detail (min 65535 r.cards) (min 65535 r.persons) (min 65535 r.folios))
        (setPurge { phase := .idle, shift := none, abort := false, counts := ⟨0, 0, 0⟩, last := some (r, .complete) } t)
      let freed : State := { s with fst := { s.fst with folios := s.fst.folios.erase walk } }
      let more : Removals := { p.counts with folios := p.counts.folios + 1 }
      (free → exec .purgeFoliosStep s = .next (if walk + 1 > 4000 then done freed more
        else setPurge { p with phase := .folios (walk + 1), counts := more } freed))
      ∧ (¬ free → exec .purgeFoliosStep s = .next (if walk + 1 > 4000 then done s p.counts
        else setPurge { p with phase := .folios (walk + 1) } s))))

/-- A purge step in phase CARDS (R17, R18) with no abort requested and no shift in progress: a removable card is removed, its slot becoming the HOLE; otherwise
the walk goes on.
A shift step (R19): it ends at a FREE slot, fills the HOLE, or passes over. With an abort requested the shift goes on, and the step that ends it ends the purge ABORTED
(R23; log 12), with abort requested no from then on (log 56). -/
def Obligations.CardStepsRemoveAndShift : Prop :=
  (∀ (s : State) (walk : Nat), s.boundary = none → s.crg.purge.phase = .cards walk → s.crg.purge.shift = none → s.crg.purge.abort = false →
    let p := s.crg.purge
    let removable (c : Card) : Prop := c.state = .departed ∨ c.state = .withdrawn
      ∨ (c.state = .lost ∧ ∃ q, s.persons.get c.person = some q ∧ q.att.presence = .departed)
    ((s.crg.ring.get walk = none ∨ ∃ c, s.crg.ring.get walk = some c ∧ ¬ removable c) →
      exec .purgeCardsStep s = .next (setPurge { p with phase := if walk + 1 = 16384 then .persons 1 else .cards (walk + 1) } s))
    ∧ ∀ c q, s.crg.ring.get walk = some c → removable c → s.persons.get c.person = some q →
      exec .purgeCardsStep s = .next
        { s with crg := { ring := s.crg.ring.erase walk,
                          purge := { p with shift := some { hole := walk, examine := if walk + 1 = 16384 then 0 else walk + 1 },
                                            counts := { p.counts with cards := p.counts.cards + 1 } } },
                 persons := s.persons.set c.person { q with ident := { q.ident with cardCount := q.ident.cardCount - 1 } } })
  ∧ (∀ (s : State) (h : Shift), s.boundary = none → s.crg.purge.shift = some h →
    let p := s.crg.purge
    let beyond := if h.examine + 1 = 16384 then 0 else h.examine + 1
    (s.crg.ring.get h.examine = none → p.abort = false → exec .shiftStep s = .next (setPurge { p with shift := none } s))
    ∧ (s.crg.ring.get h.examine = none → p.abort = true → p.phase ≠ .idle → exec .shiftStep s = .next (raise .purgeDone 1
        (detail (min 65535 p.counts.cards) (min 65535 p.counts.persons) (min 65535 p.counts.folios))
        (setPurge { phase := .idle, shift := none, abort := false, counts := ⟨0, 0, 0⟩, last := some (p.counts, .aborted) } s)))
    ∧ ∀ c, s.crg.ring.get h.examine = some c →
      let fills := (h.hole + (16384 - homeSlot c.serial)) % 16384 < (h.examine + (16384 - homeSlot c.serial)) % 16384
      (fills → exec .shiftStep s = .next { s with crg := { ring := (s.crg.ring.erase h.examine).set h.hole c,
                                                           purge := { p with shift := some { hole := h.examine, examine := beyond } } } })
      ∧ (¬ fills → exec .shiftStep s = .next (setPurge { p with shift := some { h with examine := beyond } } s)))

/-! ### Ship time (chapter 2) -/

/-- The work of a boundary that is outstanding comes before any command but those of the boundary itself (log 3): the command is executed on the state in which
that work is done. It is the work that ZONE_SHIFT_TAKEN, DAY_CLOSE, HOLD_EXPIRY and ALL_ABOARD_EXPIRY bring about, one after another, from the stage at which the boundary
stands. -/
def Obligations.BoundaryWorkComesFirst : Prop :=
  ∀ (s : State), (settle s).boundary = none
    ∧ (∀ c, c ≠ .powerOn → c ≠ .zoneShiftTaken → c ≠ .dayClose → c ≠ .holdExpiry → exec c s = exec c (settle s))
    ∧ (s.boundary = none → settle s = s)
    ∧ ∀ b, s.boundary = some b →
      (b.stage = .zone → ∃ u, exec .zoneShiftTaken s = .next u ∧ settle s = settle u)
      ∧ (b.stage = .close → ∃ u, exec .dayClose s = .next u ∧ settle s = settle u)
      ∧ (∀ due, b.stage = .holds due → ∃ u, exec .holdExpiry s = .next u ∧ settle s = settle u)
      ∧ (b.stage = .timer → exec .allAboardExpiry s = .next (settle s))

/-- A tick (R26): the trim hold absorbs it, or voyage time stands at its end, or it is a second boundary. At the boundary the staged settings become live when
it is a minute boundary (R27, R96, R97), the work that is due waits, and with nothing due an ARMED timer runs (R161) and the displays are sent (R165). That the work due stands in State.boundary, by stage,
is the model's choice (log 3), and so is that close held stays as it stands at a boundary at which no close is due (log 52). -/
def Obligations.TickCountsOrIsHeld : Prop :=
  ∀ s : State, s.boundary = none →
    (0 < s.scl.trimHold → exec .tick s = .next { s with scl := { s.scl with trimHold := s.scl.trimHold - 1 } })
    ∧ (s.scl.trimHold = 0 → 4294967295 ≤ s.scl.voyage → exec .tick s = .next s)
    ∧ (s.scl.trimHold = 0 → s.scl.voyage < 4294967295 →
        ∃ t, exec .tick s = .next t ∧ boundaryDelivered s.scl.voyage (s.scl.voyage + 1) s t)

/-- What is due at a boundary, and when a display is sent (R33, R35, R75, R161, R165, R157). The mark of a hold that has fallen due is the model's (log 31). -/
def Obligations.BoundaryTestsFollowTheirRules : Prop :=
  ∀ s : State,
    (s.zoneDue = true ↔ ∃ p, s.scl.shift = some p ∧ p.effective ≤ s.scl.voyage)
    ∧ (s.closeDue = true ↔ s.slc.service = .serving ∧ (∃ p, s.scl.closePoint = some p ∧ p ≤ s.scl.voyage + 60 * s.scl.offset)
        ∧ ∀ l, s.scl.lastClose = some l → l.voyage + 72000 ≤ s.scl.voyage)
    ∧ (∀ folio number, (folio, number) ∈ s.dueHolds ↔ ∃ f h, (folio, f) ∈ s.fst.folios ∧ h ∈ f.holds ∧ h.number = number
        ∧ (h.fallenDue = true ∨ h.openedAt + 3600 * s.fst.lifetime ≤ s.scl.voyage))
    ∧ (∀ d now, Timer.dueAt (.running d) now = true ↔ d ≤ now) ∧ (∀ d now, Timer.dueAt (.armed d) now = true ↔ d ≤ now)
    ∧ (∀ t : Station, ∀ before after c, t.callsFor before after c = true ↔ t.attached ≠ .detached
        ∧ ((t.frequency = .every30 ∧ ∃ k, before < 30 * k ∧ 30 * k ≤ after) ∨ (t.frequency = .onChange ∧ t.lastShown ≠ some c)))
    ∧ s.countsFrame.guestsAboard = s.pru.count .guest .aboard + s.pru.count .child .aboard + s.pru.count .visitor .aboard
    ∧ s.countsFrame.crewAboard = s.pru.count .crew .aboard
    ∧ s.countsFrame.guestsAshore = s.pru.count .guest .ashore + s.pru.count .child .ashore + s.pru.count .visitor .ashore
    ∧ s.countsFrame.crewAshore = s.pru.count .crew .ashore
    ∧ (s.countsFrame.hour * 3600 + s.countsFrame.minute * 60 : Int) ≤ (s.scl.voyage + 60 * s.scl.offset) % 86400
    ∧ (s.scl.voyage + 60 * s.scl.offset) % 86400 < (s.countsFrame.hour * 3600 + s.countsFrame.minute * 60 + 60 : Int)
    ∧ s.countsFrame.minute < 60
    ∧ ((∀ d, s.pru.timer ≠ .running d) → s.countsFrame.minutes = none)
    ∧ (∀ d, s.pru.timer = .running d → s.scl.voyage ≤ d → s.countsFrame.minutes = some (min 999 ((d - s.scl.voyage) / 60)))

/-- The clock requests (R28, R32, R34, R38).
TRIM (R29, R30): against the hold, back into the hold, RANGE, and forward as one boundary of more than one second (R27), whose work the model leaves
outstanding (log 3), and at which close held stays as it stands where no close is due, the model's choice too (log 52). -/
def Obligations.ClockRequestsAndTrimsSetTheClock : Prop :=
  (∀ (s : State) (tag : Byte) (body : List Byte) (v : Values), s.ready = true →
    let t := heard .service s
    (decodeFields setTimeFields body = .ok v →
      (s.slc.service = .serving → exec (.setTime tag body) s = .next (answered 0x10 tag .notNow .nothing t))
      ∧ (s.slc.service = .loading → exec (.setTime tag body) s = .next (answered 0x10 tag .done .nothing
          { t with scl := { s.scl with voyage := v.nat 1, offset := v.int 2, trimHold := 0, shift := none, lastClose := none } })))
    ∧ (decodeFields zoneShiftFields body = .ok v → exec (.zoneShift tag body) s = .next (answered 0x12 tag .done .nothing
        { t with scl := { s.scl with shift := some { offset := v.int 1, effective := v.nat 2 } } }))
    ∧ (s.scl.shift = none → exec (.cancelZoneShift tag []) s = .next (answered 0x13 tag .notFound .nothing t))
    ∧ (s.scl.shift ≠ none → exec (.cancelZoneShift tag []) s = .next (answered 0x13 tag .done .nothing { t with scl := { s.scl with shift := none } }))
    ∧ (decodeFields setDayCloseHourFields body = .ok v →
      (s.slc.service = .serving → exec (.setDayCloseHour tag body) s = .next (answered 0x14 tag .notNow .nothing t))
      ∧ (s.slc.service = .loading →
          exec (.setDayCloseHour tag body) s = .next (answered 0x14 tag .done .nothing { t with scl := { s.scl with closeHour := v.nat 1 } }))))
  ∧ (∀ (s : State) (tag : Byte) (body : List Byte) (v : Values), s.ready = true → decodeFields trimFields body = .ok v →
    let k := v.int 1
    let t := heard .service s
    (0 ≤ k → k ≤ s.scl.trimHold → exec (.trim tag body) s =
      .next (answered 0x11 tag .done (.trimmed s.scl.voyage (s.scl.trimHold - k.toNat))
        { t with scl := { s.scl with trimHold := s.scl.trimHold - k.toNat } }))
    ∧ (k < 0 → s.scl.trimHold + -k ≤ 60 → exec (.trim tag body) s =
      .next (answered 0x11 tag .done (.trimmed s.scl.voyage (s.scl.trimHold + (-k).toNat))
        { t with scl := { s.scl with trimHold := s.scl.trimHold + (-k).toNat } }))
    ∧ (k < 0 → 60 < s.scl.trimHold + -k → exec (.trim tag body) s = .next (answered 0x11 tag .range .nothing t))
    ∧ (s.scl.trimHold < k → 4294967295 < s.scl.voyage + (k - s.scl.trimHold) →
        exec (.trim tag body) s = .next (answered 0x11 tag .range .nothing t))
    ∧ (s.scl.trimHold < k → s.scl.voyage + (k - s.scl.trimHold) ≤ 4294967295 →
        let after := s.scl.voyage + (k.toNat - s.scl.trimHold)
        ∃ u, exec (.trim tag body) s = .next (answered 0x11 tag .done (.trimmed after 0) u)
          ∧ boundaryDelivered s.scl.voyage after { t with scl := { s.scl with trimHold := 0 } } u))

/-- ZONE_SHIFT_TAKEN (R33): the offset changes, the record is offered and the cause raised; the boundary goes on.
DAY_CLOSE (R35, R36, R61): the record of the day that ends, the new day, and the close point moved on; or, with no free slot, the close held.
HOLD_EXPIRY (R75, R76, R177): the first hold that has fallen due is removed with its record, or kept and marked when no slot is free.
The stages of State.boundary, and one hold to a HOLD_EXPIRY, are the model's choice (log 3), and so is the mark of a hold kept (log 31) and the
verdict-or-reason byte of 0 in the ZONE SHIFT record (log 53). That close held stays as it stands when the shift sets local time back before the close point is the
model's choice as well (log 52). -/
def Obligations.BoundaryEventsComeAbout : Prop :=
  (∀ (s : State) (before : Nat) (p : PendingShift), s.boundary = some { before := before, stage := .zone } → s.scl.shift = some p →
    let u := raise .zoneShiftTaken (BitVec.ofInt 32 p.offset) {} (offerEvent { kind := .zoneShift, a := s.scl.offset, b := p.offset }
      { s with scl := { s.scl with offset := p.offset, shift := none } })
    ∃ t, exec .zoneShiftTaken s = .next t ∧ t.scl = { s.scl with offset := p.offset, shift := none } ∧ t.jnl = u.jnl ∧ t.atu = u.atu
      ∧ boundaryFrame s t ∧ t.chu = s.chu ∧ t.fst = s.fst ∧ reachesClose before u t)
  ∧ (∀ (s : State) (before : Nat), s.boundary = some { before := before, stage := .close } →
    (s.jnl.used < 16384 →
      let record : Record := { kind := .dayClose, flags := { saturated := s.fst.saturated }, a := s.fst.dayTotal % 16777216, b := s.scl.folioDay,
                               aux := s.fst.dayTotal / 16777216 }
      ∃ t p, exec .dayClose s = .next t
      ∧ t.scl = { s.scl with folioDay := min 65535 (s.scl.folioDay + 1),
                             lastClose := some { voyage := s.scl.voyage, atLocal := s.scl.voyage + 60 * s.scl.offset },
                             closePoint := some p, closeHeld := false }
      ∧ s.scl.voyage + 60 * s.scl.offset < p ∧ p ≤ s.scl.voyage + 60 * s.scl.offset + 86400 ∧ (p - 3600 * s.scl.closeHour) % 86400 = 0
      ∧ t.fst = { s.fst with dayTotal := 0, saturated := false }
      ∧ t.jnl = s.jnl.push record s.scl.voyage
      ∧ t.atu = (raise .dayClosed (BitVec.ofNat 32 (min 65535 (s.scl.folioDay + 1))) {} (offerMoney record s).2).atu ∧ boundaryFrame s t ∧ t.chu = s.chu
      ∧ reachesHolds before { s with scl := t.scl, fst := t.fst } t)
    ∧ (s.jnl.used = 16384 → ∃ t, exec .dayClose s = .next t ∧ t.scl = { s.scl with closeHeld := true } ∧ t.fst = s.fst ∧ t.jnl = s.jnl
      ∧ t.atu = (raise .journalFull 7 {} s).atu ∧ boundaryFrame s t ∧ t.chu = s.chu ∧ reachesHolds before { s with scl := t.scl } t))
  ∧ (∀ (s : State) (before folio number : Nat) (rest : List (Nat × Nat)) (f : Folio) (h : Hold),
    s.boundary = some { before := before, stage := .holds ((folio, number) :: rest) } → s.fst.folios.get folio = some f →
    f.holds.find? (fun h => h.number == number) = some h →
    let goesOn (t : State) : Prop := (rest ≠ [] → t.boundary = some { before := before, stage := .holds rest } ∧ t.pru = s.pru ∧ t.ports = s.ports)
      ∧ (rest = [] → reachesTimer before s t)
    (s.jnl.used < 16384 → ∃ t near, exec .holdExpiry s = .next t
      ∧ (near = true ↔ f.near = true ∨ (0 < f.limit
          ∧ s.fst.band * f.limit ≤ 100 * (f.balance + ((f.holds.filter (fun x => x.number ≠ number)).map (·.amount)).sum)))
      ∧ t.fst = { s.fst with folios := s.fst.folios.set folio { f with holds := f.holds.filter (fun x => x.number ≠ number), near := near } }
      ∧ t.jnl = s.jnl.push { kind := .tabExpire, index := h.person, folio := folio, place := h.till.val, a := h.amount,
                             aux := (h.number + 65536 * h.venue.val : Nat) } s.scl.voyage
      ∧ t.scl = s.scl ∧ t.chu = s.chu ∧ boundaryFrame s t
      ∧ raisedWhen (s.jnl.used = 12287) .journalHigh 12288 s t ∧ raisedWhen (near = true ∧ f.near = false) .folioNearLimit (BitVec.ofNat 32 folio) s t
      ∧ (∀ c, c ≠ .journalHigh → c ≠ .folioNearLimit → t.cause c = s.cause c) ∧ goesOn t)
    ∧ (s.jnl.used = 16384 → ∃ t, exec .holdExpiry s = .next t
      ∧ t.fst = { s.fst with
          folios := s.fst.folios.set folio { f with holds := f.holds.map (fun x => if x.number = number then { x with fallenDue := true } else x) } }
      ∧ t.jnl = s.jnl ∧ t.atu = (raise .journalFull 5 {} s).atu
      ∧ t.scl = s.scl ∧ t.chu = s.chu ∧ boundaryFrame s t ∧ goesOn t))

/-- ALL_ABOARD_EXPIRY and WALK_STEP (R161-R163): the walk starts at person 1, marks each person ASHORE, and ends after person 8,000. The stage
of the boundary at which the timer expires (log 3), and the verdict-or-reason byte of 0 in the ALL ABOARD record (log 53), are the model's choice. -/
def Obligations.AllAboardWalkMarksTheAshore : Prop :=
  (∀ (s : State) (before d : Nat), s.boundary = some { before := before, stage := .timer } → s.pru.timer = .running d ∨ s.pru.timer = .armed d →
    ∃ t, exec .allAboardExpiry s = .next t ∧ t.boundary = none ∧ t.pru.timer = .expiring d 1 ∧ t.pru.newlyMarked = 0
      ∧ displayed before { s with pru := { s.pru with timer := .expiring d 1 } } t
      ∧ boundaryFrame s t ∧ t.scl = s.scl ∧ t.atu = s.atu ∧ t.chu = s.chu ∧ t.fst = s.fst ∧ t.jnl = s.jnl)
  ∧ ∀ (s : State) (d walk : Nat), s.boundary = none → s.pru.timer = .expiring d walk →
    let marks := ∃ p, s.persons.get walk = some p ∧ p.att.presence = .ashore ∧ p.att.missing = false
    let goesOn (t : State) : State :=
      if walk + 1 > 8000 then
        offerEvent { kind := .allAboard, a := t.pru.newlyMarked, aux := t.pru.missingCount }
          (raise .allAboardExpired 0 (detail t.pru.missingCount) { t with pru := { t.pru with timer := .expired d } })
      else { t with pru := { t.pru with timer := .expiring d (walk + 1) } }
    (¬ marks → exec .walkStep s = .next (goesOn s))
    ∧ ∀ p, s.persons.get walk = some p → p.att.presence = .ashore → p.att.missing = false →
      exec .walkStep s = .next (goesOn { s with persons := s.persons.set walk { p with att := { p.att with missing := true } },
                                                pru := { s.pru with missingCount := s.pru.missingCount + 1,
                                                                    newlyMarked := s.pru.newlyMarked + 1 } })

/-! ### Shared operations: attention, the journal, cards, presence and folio marks -/

/-- A raise (R195, R196): discarded at priority 0, a new record, or one more in the count held at 255; ATTN follows and nothing else changes. -/
def Obligations.RaiseMakesOrCountsARecord : Prop :=
  ∀ (s : State) (c : Cause) (subject : Word32) (d : Detail),
    (∀ x y : Cause, x.place = y.place → x = y)
    ∧ ((s.cause c).priority = 0 → raise c subject d s = s)
    ∧ ((s.cause c).priority ≠ 0 → ∃ a, raise c subject d s = { s with atu := a } ∧ a.attn = true
      ∧ (∀ x, x ≠ c → a.causes[x.place] = s.cause x) ∧ a.causes[c.place].priority = (s.cause c).priority
      ∧ ((s.cause c).pending = none → a.causes[c.place].pending = some { subject := subject, detail := d, first := s.scl.voyage, count := 1 })
      ∧ ∀ p, (s.cause c).pending = some p → a.causes[c.place].pending = some { p with count := min 255 (p.count + 1) })

/-- Offers (R171-R175). A money record is admitted with a free slot and refused with JOURNAL FULL otherwise; a non-money record is admitted with more than 1,024
free and dropped otherwise, after the GAP record that counted drops bring, whose verdict-or-reason byte is 0 by the model's choice (log 53). -/
def Obligations.OffersAreJudgedByTheFreeCount : Prop :=
  ∀ (s : State) (r : Record),
    (s.jnl.used < 16384 → ∃ t, offerMoney r s = (some s.jnl.next, t) ∧ t = { s with jnl := s.jnl.push r s.scl.voyage, atu := t.atu }
        ∧ (s.jnl.used ≠ 12287 → t.atu = s.atu) ∧ (s.jnl.used = 12287 → t.atu = (raise .journalHigh 12288 {} s).atu))
    ∧ (16384 ≤ s.jnl.used → offerMoney r s = (none, raise .journalFull (BitVec.ofNat 32 r.kind.code) {} s))
    ∧ (s.jnl.drops = 0 → s.jnl.used < 15360 → ∃ a, offerEvent r s = { s with jnl := s.jnl.push r s.scl.voyage, atu := a }
        ∧ a = if s.jnl.used = 12287 then (raise .journalHigh 12288 {} s).atu else s.atu)
    ∧ (15360 ≤ s.jnl.used → offerEvent r s = { s with jnl :=
        if 65535 ≤ s.jnl.drops then { s.jnl with overflow := true } else { s.jnl with drops := s.jnl.drops + 1 } })
    ∧ (0 < s.jnl.drops → s.jnl.used < 15360 →
        let g := s.jnl.push { kind := .gap, flags := { saturated := s.jnl.overflow }, a := s.jnl.drops } s.scl.voyage
        let gap := { g with drops := 0, overflow := false }
        ∃ a, offerEvent r s = { s with atu := a, jnl := if s.jnl.used = 15359 then { gap with drops := 1 } else gap.push r s.scl.voyage }
          ∧ a = if s.jnl.used = 12286 ∨ s.jnl.used = 12287 then (raise .journalHigh 12288 {} s).atu else s.atu)
    ∧ (∀ now, (s.jnl.push r now).next = s.jnl.next + 1 ∧ (s.jnl.push r now).released = s.jnl.released
        ∧ (s.jnl.push r now).delivered = s.jnl.delivered ∧ (s.jnl.push r now).drops = s.jnl.drops
        ∧ (s.jnl.push r now).recordAt s.jnl.next = some { r with sequence := s.jnl.next, voyage := now }
        ∧ ∀ q, q.toNat % 16384 ≠ s.jnl.next.toNat % 16384 → (s.jnl.push r now).recordAt q = s.jnl.recordAt q)

/-- A change of presence (R8, R156, R157, R163) and a sighting (R159). -/
def Obligations.PresenceChangesInOneEvent : Prop :=
  ∀ (s : State) (n : Nat) (p : Person), s.persons.get n = some p →
    (∀ after stamp station irregular, after ≠ p.att.presence →
      ∃ t, changePresence n p after stamp station irregular s = t
      ∧ t.persons = s.persons.set n { p with att := { p.att with presence := after, stamp := stamp, lastStation := station, irregular := irregular,
                                                                 missing := p.att.missing && !decide (p.att.presence = .ashore) } }
      ∧ t.pru.count p.ident.cls after = s.pru.count p.ident.cls after + 1
      ∧ t.pru.count p.ident.cls p.att.presence = s.pru.count p.ident.cls p.att.presence - 1
      ∧ (∀ cls x, cls ≠ p.ident.cls ∨ (x ≠ after ∧ x ≠ p.att.presence) → t.pru.count cls x = s.pru.count cls x)
      ∧ t.pru.missingCount = (if p.att.presence = .ashore ∧ p.att.missing = true then s.pru.missingCount - 1 else s.pru.missingCount)
      ∧ t.pru.stations = s.pru.stations ∧ t.pru.timer = s.pru.timer ∧ t.pru.newlyMarked = s.pru.newlyMarked
      ∧ t.crg.ring = (if after = .departed then s.crg.ring.map (fun e =>
          (e.1, if e.2.person = n ∧ (e.2.state = .active ∨ e.2.state = .suspended) then { e.2 with state := .departed } else e.2)) else s.crg.ring)
      ∧ t.crg.purge = s.crg.purge ∧ t.slc = s.slc ∧ t.scl = s.scl ∧ t.chu = s.chu ∧ t.fst = s.fst ∧ t.cau = s.cau ∧ t.lscs = s.lscs
      ∧ t.jnl = s.jnl ∧ t.ports = s.ports ∧ t.boundary = s.boundary ∧ t.free = s.free ∧ t.lines = s.lines ∧ t.pending = s.pending
      ∧ (let u := if p.att.presence = .ashore ∧ p.att.missing = true ∧ s.pru.missingCount = 1 then raise .allAboardComplete 0 {} s else s
         let openTab := after = .departed ∧ ∃ f, s.fst.folios.get p.ident.folio = some f ∧ ∃ h ∈ f.holds, h.person = n
         (openTab → t.atu = (raise .openTabAtDeparture (BitVec.ofNat 32 n) (detail p.ident.folio) u).atu) ∧ (¬ openTab → t.atu = u.atu)))
    ∧ ∀ serial w, (p.att.presence = .aboard ∨ p.att.presence = .departed → sighting n p serial w s = s)
      ∧ (p.att.presence = .ashore ∨ p.att.presence = .expected →
        let u := raise .ashoreSighting (BitVec.ofNat 32 n) (detail w.source w.place w.cabin) (changePresence n p .aboard s.scl.voyage none true s)
        sighting n p serial w s = offerEvent
          { kind := .anomaly, flags := { lenient := true, irregular := true }, index := n, serial := serial, folio := p.ident.folio,
            place := w.place, reason := 4, a := w.source, b := p.att.presence.number, c := 0, aux := w.cabin } u)

/-- The NEAR test (R76), the LIMITED flag (R56, R57), the freeze of a till posting (R70) and the day total (R59, R60). -/
def Obligations.FolioMarksFollowTheirRules : Prop :=
  (∀ (s : State) (n : Nat) (f : Folio), s.fst.folios.get n = some f →
    let reaches := 0 < f.limit ∧ f.near = false ∧ s.fst.band * f.limit ≤ 100 * (f.balance + (f.holds.map (·.amount)).sum)
    (reaches → nearTest n s = raise .folioNearLimit (BitVec.ofNat 32 n) {} (putFolio n { f with near := true } s))
    ∧ (¬ reaches → nearTest n s = s)
    ∧ let limited := f.balance < -8388608 ∨ 8388607 < f.balance
      (limited → f.limited = false → showBalance n s = raise .balanceLimited (BitVec.ofNat 32 n) {} (putFolio n { f with limited := true } s))
      ∧ (¬ limited ∨ f.limited = true → showBalance n s = s)
      ∧ balanceField f.balance = max (-8388608) (min 8388607 f.balance)
      ∧ let exceeds := f.limit < f.balance + (f.holds.map (·.amount)).sum
        (f.state = .opened → exceeds → postFromTill n f s = raise .folioOverLimit (BitVec.ofNat 32 n) {} (putFolio n { f with state := .frozen } s))
        ∧ (f.state ≠ .opened ∨ ¬ exceeds → postFromTill n f s = putFolio n f s))
  ∧ ∀ (f : Fst) (x : Int),
    (2147483647 < f.dayTotal + x → f.addToDay x = { f with dayTotal := 2147483647, saturated := true })
    ∧ (f.dayTotal + x < -2147483647 → f.addToDay x = { f with dayTotal := -2147483647, saturated := true })
    ∧ (-2147483647 ≤ f.dayTotal + x → f.dayTotal + x ≤ 2147483647 → f.addToDay x = { f with dayTotal := f.dayTotal + x })

/-! ### Folios (chapter 4) -/

/-- OPEN FOLIO (R78): CONFLICT, JOURNAL FULL, or the slot in use with its marks.
SET LIMIT and POST CREDIT (R79, R80, R57). -/
def Obligations.OpeningsLimitsAndCreditsChangeTheFolio : Prop :=
  (∀ (s : State) (tag : Byte) (body : List Byte) (v : Values), s.ready = true → decodeFields openFolioFields body = .ok v →
    let n := v.nat 1
    let limit := v.int 2
    let initial := v.int 3
    let st : FolioState := if initial ≤ limit then .opened else .frozen
    let f : Folio := { state := st, balance := initial, limit := limit, holds := [], personCount := 0, near := false, limited := false }
    let t := heard .service s
    let record : Record := { kind := .credit, flags := { limited := isLimited initial }, folio := n, a := initial % 16777216,
                             b := max (-8388608) (min 8388607 initial), aux := initial / 16777216 }
    ((s.fst.folios.get n).isSome = true → exec (.openFolio tag body) s = .next (answered 0x20 tag .conflict .nothing t))
    ∧ (s.fst.folios.get n = none → initial = 0 →
        exec (.openFolio tag body) s = .next (answered 0x20 tag .done (.folioState st) (nearTest n (putFolio n f t))))
    ∧ (s.fst.folios.get n = none → initial ≠ 0 → 16384 ≤ s.jnl.used →
        exec (.openFolio tag body) s = .next (answered 0x20 tag .journalFull .nothing (raise .journalFull 6 {} t)))
    ∧ (s.fst.folios.get n = none → initial ≠ 0 → s.jnl.used < 16384 →
        exec (.openFolio tag body) s = .next (answered 0x20 tag .done (.folioState st)
          (showBalance n (nearTest n (putFolio n f (offerMoney record t).2))))))
  ∧ (∀ (s : State) (tag : Byte) (body : List Byte) (v : Values), s.ready = true →
    let n := v.nat 1
    let t := heard .service s
    let freezes (f : Folio) : FolioState :=
      if f.state = .opened ∧ f.limit < f.balance + (f.holds.map (·.amount)).sum then .frozen else f.state
    (decodeFields setLimitFields body = .ok v →
      (s.fst.folios.get n = none → exec (.setLimit tag body) s = .next (answered 0x21 tag .notFound .nothing t))
      ∧ ∀ f, s.fst.folios.get n = some f →
        let g := { f with limit := v.int 2 }
        exec (.setLimit tag body) s =
          .next (answered 0x21 tag .done (.folioState (freezes g)) (nearTest n (putFolio n { g with state := freezes g } t))))
    ∧ (decodeFields postCreditFields body = .ok v →
      (s.fst.folios.get n = none → exec (.postCredit tag body) s = .next (answered 0x22 tag .notFound .nothing t))
      ∧ ∀ f, s.fst.folios.get n = some f →
        let x := v.int 2
        let beyond := (x < 0 ∧ f.balance + x < -1073741824) ∨ (0 < x ∧ 1073741824 < f.balance + x)
        let g := { f with balance := f.balance + x }
        let record : Record := { kind := .credit, flags := { limited := isLimited g.balance }, folio := n, a := x % 16777216,
                                 b := balanceField g.balance, aux := x / 16777216 }
        (beyond → exec (.postCredit tag body) s = .next (answered 0x22 tag .amountRange .nothing t))
        ∧ (¬ beyond → 16384 ≤ s.jnl.used →
            exec (.postCredit tag body) s = .next (answered 0x22 tag .journalFull .nothing (raise .journalFull 6 {} t)))
        ∧ (¬ beyond → s.jnl.used < 16384 →
            exec (.postCredit tag body) s = .next (answered 0x22 tag .done (.credit (balanceField g.balance) (freezes g))
              (showBalance n (nearTest n (putFolio n { g with state := freezes g } (offerMoney record t).2)))))))

/-- FREEZE, THAW, CLOSE FOLIO and REOPEN (R81, R82).
CLEAR FLAGS (R77): the two flags as they stood, then clear. -/
def Obligations.FolioStatesAndFlagsFollowTheirRequests : Prop :=
  (∀ (s : State) (tag : Byte) (body : List Byte) (v : Values), s.ready = true → decodeFields oneFolioFields body = .ok v →
    let n := v.nat 1
    let t := heard .service s
    (s.fst.folios.get n = none →
      exec (.freeze tag body) s = .next (answered 0x23 tag .notFound .nothing t)
      ∧ exec (.thaw tag body) s = .next (answered 0x24 tag .notFound .nothing t)
      ∧ exec (.closeFolio tag body) s = .next (answered 0x25 tag .notFound .nothing t)
      ∧ exec (.reopen tag body) s = .next (answered 0x26 tag .notFound .nothing t))
    ∧ ∀ f, s.fst.folios.get n = some f →
      let exceeds := f.limit < f.balance + (f.holds.map (·.amount)).sum
      (f.state = .opened → exec (.freeze tag body) s = .next (answered 0x23 tag .done .nothing (putFolio n { f with state := .frozen } t)))
      ∧ (f.state = .frozen → exec (.freeze tag body) s = .next (answered 0x23 tag .done .nothing t))
      ∧ (f.state = .closed → exec (.freeze tag body) s = .next (answered 0x23 tag .notNow .nothing t))
      ∧ (f.state = .frozen → ¬ exceeds → exec (.thaw tag body) s = .next (answered 0x24 tag .done .nothing (putFolio n { f with state := .opened } t)))
      ∧ (f.state = .frozen → exceeds → exec (.thaw tag body) s = .next (answered 0x24 tag .overLimit .nothing t))
      ∧ (f.state = .opened → exec (.thaw tag body) s = .next (answered 0x24 tag .done .nothing t))
      ∧ (f.state = .closed → exec (.thaw tag body) s = .next (answered 0x24 tag .notNow .nothing t))
      ∧ (f.holds ≠ [] → exec (.closeFolio tag body) s = .next (answered 0x25 tag .holdsOutstanding .nothing t))
      ∧ (f.holds = [] → exec (.closeFolio tag body) s = .next (answered 0x25 tag .done .nothing (putFolio n { f with state := .closed } t)))
      ∧ (f.state = .closed → f.balance ≤ f.limit →
          exec (.reopen tag body) s = .next (answered 0x26 tag .done (.folioState .opened) (putFolio n { f with state := .opened } t)))
      ∧ (f.state = .closed → f.limit < f.balance →
          exec (.reopen tag body) s = .next (answered 0x26 tag .done (.folioState .frozen) (putFolio n { f with state := .frozen } t)))
      ∧ (f.state ≠ .closed → exec (.reopen tag body) s = .next (answered 0x26 tag .notNow .nothing t)))
  ∧ (∀ (s : State) (tag : Byte) (body : List Byte) (v : Values), s.ready = true → decodeFields oneFolioFields body = .ok v →
    (s.fst.folios.get (v.nat 1) = none → exec (.clearFlags tag body) s = .next (answered 0x29 tag .notFound .nothing (heard .service s)))
    ∧ ∀ f, s.fst.folios.get (v.nat 1) = some f → exec (.clearFlags tag body) s =
        .next (answered 0x29 tag .done (.flags f.near f.limited) (putFolio (v.nat 1) { f with near := false, limited := false } (heard .service s))))

/-- QUERY FOLIO, QUERY FOLIO SPLIT (R83, R58), and the settings of the FST, the CHU, the CAU and the LSCs that one request sets (R84, R102, R123, R144).
An available credit that split form cannot carry shows a free high field (log 48). That SET POLL WINDOW leaves the wait of a cycle that is in progress its length is the
model's choice (log 54). -/
def Obligations.FolioQueriesAndSettings : Prop :=
  ∀ (s : State) (tag : Byte) (body : List Byte) (v : Values), s.ready = true →
    let t := heard .service s
    (decodeFields oneFolioFields body = .ok v →
      (s.fst.folios.get (v.nat 1) = none →
        exec (.queryFolio tag body) s = .next (answered 0x27 tag .notFound .nothing t)
        ∧ exec (.queryFolioSplit tag body) s = .next (answered 0x28 tag .notFound .nothing t))
      ∧ ∀ f, s.fst.folios.get (v.nat 1) = some f →
        let reserved := (f.holds.map (·.amount)).sum
        let available := f.limit - f.balance - reserved
        let shows (high : Int) : Payload :=
          .folio f.state (max (-8388608) (min 8388607 f.balance)) ⟨f.limit / 16777216, f.limit % 16777216⟩
            ⟨reserved / 16777216, reserved % 16777216⟩ ⟨high, available % 16777216⟩ f.personCount f.near (f.limited || isLimited f.balance)
            (f.holds.map (fun h => { number := h.number, venue := h.venue, till := h.till, person := h.person, amount := h.amount, openedAt := h.openedAt }))
        (available ≤ 2147483647 →
          exec (.queryFolio tag body) s = .next (answered 0x27 tag .done (shows (available / 16777216)) (showBalance (v.nat 1) t)))
        ∧ (2147483647 < available → ∃ high, -128 ≤ high ∧ high ≤ 127 ∧
          exec (.queryFolio tag body) s = .next (answered 0x27 tag .done (shows high) (useFree (showBalance (v.nat 1) t))))
        ∧ exec (.queryFolioSplit tag body) s =
          .next (answered 0x28 tag .done (.folioSplit f.state ⟨f.balance / 16777216, f.balance % 16777216⟩) t))
    ∧ (decodeFields setFolioPolicyFields body = .ok v →
        exec (.setFolioPolicy tag body) s =
          .next (answered 0x2A tag .done .nothing { t with fst := { s.fst with band := v.nat 1, lifetime := v.nat 2 } }))
    ∧ (decodeFields setTillPolicyFields body = .ok v →
        exec (.setTillPolicy tag body) s = .next (answered 0x37 tag .done .nothing
          { t with chu := { s.chu with policy := if v.nat 1 = 0 then .strict else .lenient } }))
    ∧ (decodeFields setAccessPolicyFields body = .ok v →
        exec (.setAccessPolicy tag body) s = .next (answered 0x45 tag .done (.accessPolicy s.cau.policy s.cau.logging)
          { t with cau := { s.cau with policy := if v.nat 1 = 0 then .strict else .lenient,
                                       logging := if v.nat 2 = 0 then .nothing else if v.nat 2 = 1 then .denials else .all } }))
    ∧ (judgeFields setPollWindowFields setPollWindowCross body = .ok v →
        (∀ i : Fin 8, v.opt 2 = some i.val → exec (.setPollWindow tag body) s =
          .next (answered 0x48 tag .done (.windows [s.lscs[i].windowMs]) { t with lscs := s.lscs.set i { s.lscs[i] with windowMs := v.nat 3 } }))
        ∧ (v.opt 2 = none → exec (.setPollWindow tag body) s =
          .next (answered 0x48 tag .done (.windows (s.lscs.toList.map (·.windowMs)))
            { t with lscs := s.lscs.map (fun l => { l with windowMs := v.nat 3 }) })))

/-! ### Queries -/

/-- The queries that carry no fields report and change nothing (R24, R39, R62, R84, R98, R123, R169, R182, R200, and chapter 10.5).
The queries that name what they ask about report it and change nothing, and answer NOT FOUND for what is not there (R11, R98, R129, R145, R169); QUERY STATION
clears LONG SEEN alone (R166). -/
def Obligations.QueriesReportAndChangeNothing : Prop :=
  (∀ (s : State) (tag : Byte), s.ready = true →
    let reports (code : Byte) (x : Payload) : Host.Outcome State Fault Refusal := .next (answered code tag .done x (heard .service s))
    let day := (s.scl.voyage + 60 * s.scl.offset) % 86400
    exec (.queryPurge tag []) s = reports 0x07 (.purge
        { phase := s.crg.purge.phase, hole := s.crg.purge.shift.map (·.hole), abort := s.crg.purge.abort,
          counts := s.crg.purge.counts, last := s.crg.purge.last })
    ∧ exec (.queryTime tag []) s = reports 0x15 (.clock s.scl (day.toNat / 3600) (day.toNat / 60 % 60) (day.toNat % 60))
    ∧ exec (.queryDayTotal tag []) s =
        reports 0x16 (.dayTotal s.scl.folioDay ⟨s.fst.dayTotal / 16777216, s.fst.dayTotal % 16777216⟩ s.fst.saturated)
    ∧ exec (.queryFolioPolicy tag []) s = reports 0x2B (.folioPolicy s.fst.band s.fst.lifetime)
    ∧ exec (.queryPortRate tag []) s = reports 0x35 (.portRate s.chu.rateLive s.chu.rateStaged s.chu.ratePending s.chu.policy)
    ∧ exec (.queryAccessPolicy tag []) s = reports 0x46 (.accessPolicy s.cau.policy s.cau.logging)
    ∧ exec (.queryJournal tag []) s = reports 0x62 (.journal s.jnl.released s.jnl.delivered s.jnl.next (s.jnl.next - s.jnl.released).toNat
        (16384 - (s.jnl.next - s.jnl.released).toNat) s.jnl.drops s.jnl.overflow false)
    ∧ exec (.queryAttention tag []) s =
        reports 0x76 (.attention (s.atu.causes.toList.map (fun e => (e.priority, e.pending.map (·.count)))))
    ∧ exec (.status tag []) s = reports 0x78 (.status s.slc.service 0 s.scl.voyage s.scl.folioDay s.crg.ring.length s.persons.length
        s.fst.folios.length (s.fst.folios.map (fun e => e.2.holds.length)).sum s.cau.cabins.length
        (s.lscs.toList.map (fun l => l.nodes.countP (fun e => e.2.state == .silent))).sum (s.pru.stations.toList.map (·.attached))
        s.jnl.released s.jnl.delivered s.jnl.next (16384 - (s.jnl.next - s.jnl.released).toNat) s.jnl.drops
        (match s.crg.purge.phase with | .idle => .idle | .cards _ => .cards | .persons _ => .persons | .folios _ => .folios)
        (match s.pru.timer with | .clear => .clear | .armed _ => .armed | .running _ => .running | .expiring _ _ => .expiring | .expired _ => .expired)
        s.pru.missingCount (s.atu.causes.toList.countP (fun e => e.pending.isSome)) (s.atu.chosen.elim 0 (·.number)))
    ∧ ((∀ d, s.pru.timer = .running d → s.scl.voyage ≤ d) →
        exec (.queryCounts tag []) s = reports 0x55 (.counts s.pru.counts.toList s.pru.missingCount s.pru.timer s.pru.newlyMarked
          (match s.pru.timer with | .running d => some (min 999 ((d - s.scl.voyage) / 60)) | _ => none))))
  ∧ (∀ (s : State) (tag : Byte) (body : List Byte) (v : Values), s.ready = true →
    let reports (code : Byte) (e : Status) (x : Payload) : Host.Outcome State Fault Refusal := .next (answered code tag e x (heard .service s))
    (decodeFields queryCardFields body = .ok v →
      (∀ slot c, s.crg.search (v.word 1) = .found slot c →
        exec (.queryCard tag body) s = reports 0x03 .done (.card c slot ((slot + (16384 - homeSlot (v.word 1))) % 16384)))
      ∧ ((∀ slot c, s.crg.search (v.word 1) ≠ .found slot c) → exec (.queryCard tag body) s = reports 0x03 .notFound .nothing))
    ∧ (decodeFields queryVenueFields body = .ok v → ∀ n : Fin 64, v.nat 1 = n.val →
        exec (.queryVenue tag body) s = reports 0x34 .done (.venue s.chu.venues[n]))
    ∧ (decodeFields queryTillFields body = .ok v → ∀ n : Fin 128, v.nat 1 = n.val →
        let x := s.chu.tills[n]
        exec (.queryTill tag body) s = reports 0x36 .done (.till
          { venue := x.venue, working := x.working.isSome,
            lastSequence := x.lastSequence, lastDecision := x.lastDecision, lastApproved := x.lastApproved }))
    ∧ (decodeFields oneCabinFields body = .ok v →
      (s.cau.cabins.get (v.nat 1) = none → exec (.queryCabin tag body) s = reports 0x47 .notFound .nothing)
      ∧ ∀ c, s.cau.cabins.get (v.nat 1) = some c →
        exec (.queryCabin tag body) s = reports 0x47 .done (.cabin (v.nat 1) c
          ((s.lscs[c.segment].nodes.get c.node).map (fun x => { state := x.state, missCount := x.missCount, pendingMode := x.pendingMode }))))
    ∧ (decodeFields querySegmentFields body = .ok v → ∀ i : Fin 8, v.nat 1 = i.val →
        let l := s.lscs[i]
        exec (.querySegment tag body) s = reports 0x49 .done (.segment l.running l.cycle l.windowMs l.nodes.length
          (l.nodes.countP (fun e => e.2.state == .unprobed)) (l.nodes.countP (fun e => e.2.state == .online))
          (l.nodes.countP (fun e => e.2.state == .silent)) (l.nodes.countP (fun e => e.2.pendingMode != .noMode))
          (l.turn.map (fun t => (t.address, if t.sent = .noMode then .poll else .mode))) ((l.nodes.find? (fun e => e.2.state == .silent)).map (·.1))))
    ∧ (decodeFields queryPersonFields body = .ok v →
      (s.persons.get (v.nat 1) = none → exec (.queryPerson tag body) s = reports 0x54 .notFound .nothing)
      ∧ ∀ p, s.persons.get (v.nat 1) = some p →
        exec (.queryPerson tag body) s =
          reports 0x54 .done (.person p (if p.spend.spendDay = some s.scl.folioDay then p.spend.spentToday else 0)))
    ∧ (decodeFields queryStationFields body = .ok v → ∀ g : Fin 4, v.nat 1 = g.val →
        let x := s.pru.stations[g]
        exec (.queryStation tag body) s = .next (answered 0x51 tag .done
          (.station
            { attached := x.attached, mode := x.mode, pulseLimit := x.pulseLimit, shortSeen := x.shortSeen, longSeen := x.longSeen,
              expected := x.expected, failures := x.failures, fetchOpen := decide (x.fetch ≠ .none), retryMs := x.retryMs, frequency := x.frequency,
              lastShown := x.lastShown, tallyDay := x.tallyDay, tallyIn := if x.tallyDay = some s.scl.folioDay then x.tallyIn else 0,
              tallyOut := if x.tallyDay = some s.scl.folioDay then x.tallyOut else 0 })
          (putStation g { x with longSeen := false } (heard .service s)))))

/-! ### Tills, venues and pricing (chapters 3 and 5) -/

/-- SET TILL, SET VENUE and the stagings (R91, R95, R96, R97). That a yes/no field of 1 is yes is the model's reading (log 16). -/
def Obligations.TillAndVenueRequestsSetThem : Prop :=
  ∀ (s : State) (tag : Byte) (body : List Byte) (v : Values), s.ready = true →
    let t := heard .service s
    (judgeFields setTillFields setTillCross body = .ok v → ∀ n : Fin 128, v.nat 1 = n.val →
      (s.chu.tills[n].working ≠ none → exec (.setTill tag body) s = .next (answered 0x30 tag .notNow .nothing t))
      ∧ (s.chu.tills[n].working = none → ∀ venue : Option (Fin 64), v.optNat 3 = venue.map (·.val) →
          exec (.setTill tag body) s = .next (answered 0x30 tag .done .nothing (putTill n
            { venue := venue, working := none, lastSequence := none, lastDecision := none, lastApproved := none } t))))
    ∧ (decodeFields setVenueFields body = .ok v → ∀ n : Fin 64, v.nat 1 = n.val →
        exec (.setVenue tag body) s = .next (answered 0x31 tag .done .nothing (putVenue n
          { s.chu.venues[n] with isOpen := decide (v.nat 2 = 0), category := categoryOf (v.nat 3),
                                 exempt := (v.opt 4).elim (decide (categoryOf (v.nat 3) = .shoreDesk)) (fun x => decide (x = 1)),
                                 returns := decide (v.int 5 = 1) } t)))
    ∧ (decodeFields stageVenuePricingFields body = .ok v → ∀ n : Fin 64, v.nat 1 = n.val →
        let p : Pricing := { currency := if v.nat 2 = 0 then .base else .port, gratuity := v.nat 3, tax := v.nat 4,
                             taxOnGratuity := decide (v.int 5 = 1), rounding := if v.nat 6 = 0 then .halfEven else .tiesUp }
        (v.nat 7 = 0 → exec (.stageVenuePricing tag body) s =
          .next (answered 0x32 tag .done .nothing (putVenue n { s.chu.venues[n] with staged := p, stagedPending := true } t)))
        ∧ (v.nat 7 = 1 → s.slc.service = .serving → exec (.stageVenuePricing tag body) s = .next (answered 0x32 tag .notNow .nothing t))
        ∧ (v.nat 7 = 1 → s.slc.service = .loading → exec (.stageVenuePricing tag body) s =
          .next (answered 0x32 tag .done .nothing (putVenue n { s.chu.venues[n] with live := p, staged := p, stagedPending := false } t))))
    ∧ (decodeFields stagePortRateFields body = .ok v →
        (v.nat 2 = 0 → exec (.stagePortRate tag body) s =
          .next (answered 0x33 tag .done .nothing { t with chu := { s.chu with rateStaged := v.nat 1, ratePending := true } }))
        ∧ (v.nat 2 = 1 → s.slc.service = .serving → exec (.stagePortRate tag body) s = .next (answered 0x33 tag .notNow .nothing t))
        ∧ (v.nat 2 = 1 → s.slc.service = .loading → exec (.stagePortRate tag body) s =
          .next (answered 0x33 tag .done .nothing { t with chu := { s.chu with rateLive := v.nat 1, rateStaged := v.nat 1, ratePending := false } })))

/-- Rounding (R44): the nearest whole number, a tie by the venue's setting.
Pricing (R45 to R50, R52): stages 1 to 5 of a line, and of a priced charge every line and every sum within range, S being ΣB + ΣG + ΣT. -/
def Obligations.PricingRoundsStageByStage : Prop :=
  (∀ (rounding : Rounding) (x d : Int), d = 16777216 ∨ d = 10000 →
    (2 * (x % d) < d → roundBy rounding x d = x / d)
    ∧ (d < 2 * (x % d) → roundBy rounding x d = x / d + 1)
    ∧ (2 * (x % d) = d → rounding = .tiesUp → roundBy rounding x d = x / d + 1)
    ∧ (2 * (x % d) = d → rounding = .halfEven → roundBy rounding x d % 2 = 0 ∧ (roundBy rounding x d = x / d ∨ roundBy rounding x d = x / d + 1))
    ∧ -d ≤ 2 * (x - d * roundBy rounding x d) ∧ 2 * (x - d * roundBy rounding x d) ≤ d
    ∧ (0 ≤ x → 0 ≤ roundBy rounding x d) ∧ (x ≤ 0 → roundBy rounding x d ≤ 0)
    ∧ (rounding = .halfEven ∨ 2 * (x % d) ≠ d → roundBy rounding (-x) d = -roundBy rounding x d)
    ∧ (rounding = .tiesUp → 2 * (x % d) = d → roundBy rounding (-x) d = 1 - roundBy rounding x d))
  ∧ ((∀ (l : Line) (p : Pricing) (rate : Nat), let a := l.amounts p rate
    a.b = (match p.currency with | .base => l.price * l.quantity | .port => roundBy p.rounding (l.price * l.quantity * rate) 16777216)
    ∧ a.g = (if l.noGrat = true ∨ p.gratuity = 0 then 0 else roundBy p.rounding (a.b * p.gratuity) 10000)
    ∧ a.t = (if l.noTax = true then 0 else roundBy p.rounding ((if p.taxOnGratuity then a.b + a.g else a.b) * p.tax) 10000)
    ∧ a.l = a.b + a.g + a.t)
  ∧ ∀ (p : Pricing) (rate : Nat) (lines : List Line),
    let amounts := lines.map (fun l => l.amounts p rate)
    let s := (amounts.map (·.l)).sum
    let b := (amounts.map (·.b)).sum
    let g := (amounts.map (·.g)).sum
    let t := (amounts.map (·.t)).sum
    let fits (x : Int) : Prop := -8388607 ≤ x ∧ x ≤ 8388607
    s = b + g + t
    ∧ ((∀ a ∈ amounts, fits a.b ∧ fits a.l) → fits s → fits b → fits g → fits t → priceCharge p rate lines = .ok { s := s, g := g, t := t })
    ∧ (∀ sums, priceCharge p rate lines = .ok sums → sums = { s := s, g := g, t := t } ∧ (∀ a ∈ amounts, fits a.b ∧ fits a.l) ∧ fits s ∧ fits b
        ∧ fits g ∧ fits t)
    ∧ (∀ i l a, lines[i]? = some l → a = l.amounts p rate → (∀ x ∈ amounts.take i, fits x.b ∧ fits x.l) →
        (¬ fits a.b → priceCharge p rate lines = .error ⟨i + 1, .b⟩) ∧ (fits a.b → ¬ fits a.l → priceCharge p rate lines = .error ⟨i + 1, .l⟩))
    ∧ ((∀ a ∈ amounts, fits a.b ∧ fits a.l) → ¬ fits s → priceCharge p rate lines = .error ⟨0, .s⟩)
    ∧ (∀ sums, priceTab p rate lines = .ok sums ↔ priceCharge p rate lines = .ok sums ∧ 0 ≤ sums.s))

/-- Malformed till frames (R88, R89): the answer names the field, and nothing else changes. Where the frame carries no till byte the answer's till byte is free, and one out of
range is echoed (log 23). The length is judged with the line count as carried (log 22), and the amounts of these answers are 0 (log 25).
The till gate (R92, R93): NOT CONFIGURED, the stored decision again, BUSY and NOT SERVING decide nothing and change nothing. The
kind code of a repeated decision is the stored one (log 24). -/
def Obligations.TillFramesAreAnsweredOrGated : Prop :=
  (∀ (s : State) (sequence : Byte), s.boundary = none →
    let reports (kind till : Byte) (field line : Nat) : State :=
      tillAnswered (kind ||| 0x80) sequence till false
        { verdict := .malformed, reason := none, detail1 := field, detail2 := line, charge := 0, amount1 := 0, amount2 := 0, amount3 := 0, hold := 0 }
        (heard .till s)
    (∀ kind till rest f, tillRequestOf kind (till :: rest) = .error f →
      exec (tillCommand kind sequence (till :: rest)) s = .next (reports kind.code till f.field f.line))
    ∧ (∀ kind, ∃ till, exec (tillCommand kind sequence []) s = .next (useFree (reports kind.code till 0 0)))
    ∧ (∀ kind till rest, knownTillRequest kind = false → exec (.malformed kind sequence (till :: rest)) s = .next (reports kind till 0 0))
    ∧ (∀ kind, knownTillRequest kind = false → ∃ till, exec (.malformed kind sequence []) s = .next (useFree (reports kind till 0 0)))
    ∧ (∀ kind body, tillLengthOk kind body = false → tillRequestOf kind body = .error ⟨0, 0⟩)
    ∧ (∀ kind body, tillLengthOk kind body = true → 128 ≤ leNat (slice body 0 1) → tillRequestOf kind body = .error ⟨1, 0⟩)
    ∧ ∀ kind body, tillLengthOk kind body = true → leNat (slice body 0 1) < 128 →
        leNat (slice body 1 4) = 0 ∨ leNat (slice body 1 4) = 4294967295 → tillRequestOf kind body = .error ⟨2, 0⟩)
  ∧ (∀ (s : State) (kind : TillKind) (sequence : Byte) (body : List Byte) (r : TillRequest), s.boundary = none → tillRequestOf kind body = .ok r →
    let till := s.chu.tills[r.till]
    let number := BitVec.ofNat 8 r.till.val
    let bare (v : Verdict) : Host.Outcome State Fault Refusal := .next (tillAnswered (kind.code ||| 0x80) sequence number false
      { verdict := v, reason := none, detail1 := 0, detail2 := 0, charge := 0, amount1 := 0, amount2 := 0, amount3 := 0, hold := 0 } (heard .till s))
    (till.venue = none → exec (tillCommand kind sequence body) s = bare .notConfigured)
    ∧ (till.venue ≠ none →
      (∀ d, till.lastSequence = some sequence → till.lastDecision = some d →
        exec (tillCommand kind sequence body) s = .next (tillAnswered (d.kind.code ||| 0x80) sequence number true d.body (heard .till s)))
      ∧ ((till.lastSequence = some sequence → till.lastDecision = none) → till.working ≠ none →
        exec (tillCommand kind sequence body) s = bare .busy)
      ∧ ((till.lastSequence = some sequence → till.lastDecision = none) → till.working = none → s.slc.service = .loading →
        exec (tillCommand kind sequence body) s = bare .notServing)))

/-- The takes that pass (R94, R101, R102, R105, R107): the till is WORKING with what the settlement needs; a LENIENT sighting is the only other change. -/
def Obligations.TakesMakeTheTillWorking : Prop :=
  ∀ (s : State) (n : Fin 128) (vn : Fin 64) (sequence : Byte) (body : List Byte) (serial : Word32) (f : Found),
    s.gateOpen n vn sequence → s.chu.venues[vn].isOpen = true → lookup serial s = some f → f.card.state = .active →
    let p := f.person
    let venue := s.chu.venues[vn]
    let t := heard .till s
    let waits (lenient : Bool) (w : Work) : Waiting :=
      { sequence := sequence, folio := p.ident.folio, person := f.card.person, serial := serial, venue := vn, lenient := lenient, work := w }
    let passes := venue.exempt = true ∨ p.att.presence = .aboard
    let sighted := venue.exempt = false ∧ (p.att.presence = .ashore ∨ p.att.presence = .expected) ∧ s.chu.policy = .lenient
    let seen := sighting f.card.person p f.card.serial (.atTill n.val) t
    (∀ lines sums, tillRequestOf .charge body = .ok ⟨n, serial, .charge lines⟩ → p.spend.privilege ≠ .noPrivilege → p.ident.folio ≠ 0 →
      (p.spend.minor = false ∨ ∀ l ∈ lines, l.age = false) → priceCharge venue.live s.chu.rateLive lines = .ok sums →
      (passes → exec (.charge sequence body) s = .next (madeWorking n (waits false (.charge sums lines.length)) t))
      ∧ (sighted → exec (.charge sequence body) s = .next (madeWorking n (waits true (.charge sums lines.length)) seen)))
    ∧ (∀ amount, tillRequestOf .openTab body = .ok ⟨n, serial, .openTab amount⟩ → p.spend.privilege = .full → p.ident.folio ≠ 0 →
      (passes → exec (.openTab sequence body) s = .next (madeWorking n (waits false (.openTab amount)) t))
      ∧ (sighted → exec (.openTab sequence body) s = .next (madeWorking n (waits true (.openTab amount)) seen)))
    ∧ (∀ hold lines sums, tillRequestOf .closeTab body = .ok ⟨n, serial, .closeTab hold lines⟩ → p.spend.privilege ≠ .noPrivilege →
      p.ident.folio ≠ 0 → (p.spend.minor = false ∨ ∀ l ∈ lines, l.age = false) → priceTab venue.live s.chu.rateLive lines = .ok sums →
      (passes → exec (.closeTab sequence body) s = .next (madeWorking n (waits false (.closeTab hold sums lines.length)) t))
      ∧ (sighted → exec (.closeTab sequence body) s = .next (madeWorking n (waits true (.closeTab hold sums lines.length)) seen)))
    ∧ (∀ a, tillRequestOf .void body = .ok ⟨n, serial, .void a.charge⟩ → s.chu.tills[n].lastApproved = some a → a.kind = .charge →
      s.scl.voyage < a.voyage + 120 → a.person = f.card.person →
      exec (.void sequence body) s = .next (madeWorking n
        { sequence := sequence, folio := a.folio, person := a.person, serial := serial, venue := vn, lenient := false, work := .void a } t))

/-- The takes that decline (R101 to R103, R107), check by check, with the lasting effects of a decline: a LENIENT sighting stands when the lines are then out
of range. The amounts of a decline are 0, and a CLOSE TAB names its hold (log 25). -/
def Obligations.TakesDeclineInOrder : Prop :=
  ∀ (s : State) (kind : TillKind) (sequence : Byte) (body : List Byte) (r : TillRequest) (vn : Fin 64),
    tillRequestOf kind body = .ok r → s.gateOpen r.till vn sequence →
    let t := heard .till s
    let venue := s.chu.venues[vn]
    let hold := match r.ask with | .closeTab h _ => h | _ => 0
    let declines (reason : Reason) (u : State) : Prop :=
      exec (tillCommand kind sequence body) s = .next (decided r.till kind sequence (declinedBody reason 0 0 hold) u)
    let failed (u : State) : State := if kind = .void then u else failureUpdate r.serial u
    (venue.isOpen = false → declines .venueClosed t)
    ∧ (venue.isOpen = true →
      (lookup r.serial s = none → declines .unknownCard t)
      ∧ ∀ f, lookup r.serial s = some f →
        (f.card.state = .lost → declines .cardLost (failed (raise .lostCardPresented r.serial (detail 2 r.till.val) t)))
        ∧ (f.card.state = .suspended → declines .cardSuspended (failed t))
        ∧ (f.card.state = .departed → declines .cardDeparted (failed t))
        ∧ (f.card.state = .active → kind = .void →
            (∀ a, s.chu.tills[r.till].lastApproved = some a → r.ask ≠ .void a.charge ∨ a.kind = .tabClose ∨ a.voyage + 120 ≤ s.scl.voyage
              ∨ a.person ≠ f.card.person) → declines .voidRefused t)
        ∧ (f.card.state = .active → kind ≠ .void →
          let p := f.person
          let noPrivilege := p.spend.privilege = .noPrivilege ∨ (kind = .openTab ∧ p.spend.privilege ≠ .full)
          let lines := match r.ask with | .charge ls => ls | .closeTab _ ls => ls | _ => []
          let minor := p.spend.minor = true ∧ ∃ l ∈ lines, l.age = true
          (noPrivilege → declines .noChargePrivilege (failed t))
          ∧ (¬ noPrivilege → p.ident.folio = 0 → declines .noFolio (failed t))
          ∧ (¬ noPrivilege → p.ident.folio ≠ 0 → minor → declines .ageRestricted (failed t))
          ∧ (¬ noPrivilege → p.ident.folio ≠ 0 → ¬ minor → venue.exempt = false → p.att.presence = .ashore ∨ p.att.presence = .expected →
              s.chu.policy = .strict → declines .ashore (failed (raise .ashoreSighting (BitVec.ofNat 32 f.card.person) (detail 2 r.till.val) t)))
          ∧ (¬ noPrivilege → p.ident.folio ≠ 0 → ¬ minor → venue.exempt = true ∨ p.att.presence = .aboard →
              ∀ e, (kind = .charge ∧ priceCharge venue.live s.chu.rateLive lines = .error e)
                ∨ (kind = .closeTab ∧ priceTab venue.live s.chu.rateLive lines = .error e) →
              exec (tillCommand kind sequence body) s =
                .next (decided r.till kind sequence (declinedBody .amountRange e.line e.quantity.number hold) t))
          ∧ (¬ noPrivilege → p.ident.folio ≠ 0 → ¬ minor → venue.exempt = false → p.att.presence = .ashore ∨ p.att.presence = .expected →
              s.chu.policy = .lenient →
              ∀ e, (kind = .charge ∧ priceCharge venue.live s.chu.rateLive lines = .error e)
                ∨ (kind = .closeTab ∧ priceTab venue.live s.chu.rateLive lines = .error e) →
              exec (tillCommand kind sequence body) s =
                .next (decided r.till kind sequence (declinedBody .amountRange e.line e.quantity.number hold)
                  (sighting f.card.person p f.card.serial (.atTill r.till.val) t)))))

/-- CHARGE_SETTLEMENT, approved (R69, R100, R104): the folio, the day total, the spending, the record, the card, the till and its answer; nothing else.
CHARGE_SETTLEMENT, declined (R67, R68, R100, R104): the till alone changes, with its answer, but for the JOURNAL FULL raised. A folio slot no longer in use is declined
FOLIO CLOSED at that reason's place (log 26), and a decline carries amounts of 0 (log 25). -/
def Obligations.ChargeSettlementPostsOrDeclines : Prop :=
  (∀ (s : State) (n : Fin 128) (w : Waiting) (sums : Sums) (lines : Nat) (f : Folio), s.boundary = none → s.chu.tills[n].working = some w →
    w.work = .charge sums lines → s.fst.folios.get w.folio = some f → s.jnl.used < 16384 →
    (0 < sums.s → f.state = .opened ∧ f.balance + (f.holds.map (·.amount)).sum + sums.s ≤ f.limit
      ∧ ∀ p, s.persons.get w.person = some p → p.spend.privilege = .allowance →
          (if p.spend.spendDay = some s.scl.folioDay then p.spend.spentToday else 0) + sums.s ≤ p.spend.allowance) →
    (sums.s ≤ 0 → f.state ≠ .closed ∧ -1073741824 ≤ f.balance + sums.s ∧ (sums.s < 0 → s.chu.venues[w.venue].returns = true)) →
    ∃ t near, exec (.chargeSettlement n) s = .next t
      ∧ t.fst = { s.fst.addToDay sums.s with folios := s.fst.folios.set w.folio { f with balance := f.balance + sums.s, near := near } }
      ∧ (near = true ↔ f.near = true
          ∨ (0 < f.limit ∧ s.fst.band * f.limit ≤ 100 * (f.balance + sums.s + (f.holds.map (·.amount)).sum)))
      ∧ t.jnl = s.jnl.push { kind := .charge, flags := { lenient := w.lenient }, index := w.person, serial := w.serial, folio := w.folio,
                             place := n.val, a := sums.s, b := sums.g, c := sums.t, aux := lines } s.scl.voyage
      ∧ t.persons = (match s.persons.get w.person with
          | none => s.persons
          | some p => s.persons.set w.person { p with spend := if p.spend.privilege = .allowance then
              { p.spend with spentToday := max 0 (min 8388607 ((if p.spend.spendDay = some s.scl.folioDay then p.spend.spentToday else 0) + sums.s)),
                             spendDay := some s.scl.folioDay } else p.spend })
      ∧ t.crg = (successUpdate w.serial s).crg
      ∧ (let till : Till :=
           { venue := s.chu.tills[n].venue, working := none, lastSequence := some w.sequence,
             lastDecision := some { kind := .charge, body := approvedBody s.jnl.next sums.s sums.g sums.t 0 },
             lastApproved := some { kind := .charge, charge := s.jnl.next, voyage := s.scl.voyage, folio := w.folio, person := w.person,
                                    total := sums.s } }
         t.chu = { s.chu with tills := s.chu.tills.set n till })
      ∧ t.txOf .till = s.txOf .till ++ [.tillAnswer { kind := 0x81, sequence := w.sequence, till := BitVec.ofNat 8 n.val, repeated := false,
                                                      body := approvedBody s.jnl.next sums.s sums.g sums.t 0 }]
      ∧ raisedWhen (s.jnl.used = 12287) .journalHigh 12288 s t ∧ raisedWhen (near = true ∧ f.near = false) .folioNearLimit (BitVec.ofNat 32 w.folio) s t
      ∧ settlementFrame s t ∧ ∀ c, c ≠ .journalHigh → c ≠ .folioNearLimit → t.cause c = s.cause c)
  ∧ (∀ (s : State) (n : Fin 128) (w : Waiting) (sums : Sums) (lines : Nat), s.boundary = none → s.chu.tills[n].working = some w →
    w.work = .charge sums lines →
    let declines (reason : Reason) (d1 d2 : Nat) (u : State) : Prop :=
      exec (.chargeSettlement n) s = .next (decided n .charge w.sequence (declinedBody reason d1 d2 0) u)
    (s.fst.folios.get w.folio = none → 0 ≤ sums.s → declines .folioClosed 0 0 s)
    ∧ (sums.s < 0 → s.chu.venues[w.venue].returns = false → declines .returnsRefused 0 0 s)
    ∧ ∀ f, s.fst.folios.get w.folio = some f →
      let reserved := (f.holds.map (·.amount)).sum
      (0 < sums.s → f.state = .frozen → declines .folioFrozen 0 0 s)
      ∧ (f.state = .closed → 0 ≤ sums.s ∨ s.chu.venues[w.venue].returns = true → declines .folioClosed 0 0 s)
      ∧ (0 < sums.s → f.state = .opened → f.limit < f.balance + reserved + sums.s → declines .overLimit 0 0 s)
      ∧ (∀ p, 0 < sums.s → f.state = .opened → f.balance + reserved + sums.s ≤ f.limit → s.persons.get w.person = some p →
          p.spend.privilege = .allowance →
          p.spend.allowance < (if p.spend.spendDay = some s.scl.folioDay then p.spend.spentToday else 0) + sums.s → declines .overAllowance 0 0 s)
      ∧ (sums.s < 0 → s.chu.venues[w.venue].returns = true → f.state ≠ .closed → f.balance + sums.s < -1073741824 → declines .amountRange 0 3 s)
      ∧ (16384 ≤ s.jnl.used →
          (0 < sums.s → f.state = .opened ∧ f.balance + reserved + sums.s ≤ f.limit
            ∧ ∀ p, s.persons.get w.person = some p → p.spend.privilege = .allowance →
                (if p.spend.spendDay = some s.scl.folioDay then p.spend.spentToday else 0) + sums.s ≤ p.spend.allowance) →
          (sums.s ≤ 0 → f.state ≠ .closed ∧ -1073741824 ≤ f.balance + sums.s ∧ (sums.s < 0 → s.chu.venues[w.venue].returns = true)) →
          declines .journalFull 0 0 (raise .journalFull 1 {} s)))

/-- OPEN_TAB_SETTLEMENT (R65, R72, R105): the hold is appended with a number that no outstanding hold carries, or the request is declined. The NEAR test
runs (R76). A free folio slot is declined first (log 26), a decline carries amounts of 0 (log 25), and a new hold has the model's mark clear (log 31). -/
def Obligations.OpenTabSettlementReservesAHold : Prop :=
  ∀ (s : State) (n : Fin 128) (w : Waiting) (amount : Int), s.boundary = none → s.chu.tills[n].working = some w → w.work = .openTab amount →
    let declines (reason : Reason) (u : State) : Prop :=
      exec (.openTabSettlement n) s = .next (decided n .openTab w.sequence (declinedBody reason 0 0 0) u)
    (s.fst.folios.get w.folio = none → declines .folioClosed s)
    ∧ ∀ f, s.fst.folios.get w.folio = some f →
      let reserved := (f.holds.map (·.amount)).sum
      (f.state = .frozen → declines .folioFrozen s) ∧ (f.state = .closed → declines .folioClosed s)
      ∧ (f.state = .opened → 4 ≤ f.holds.length → declines .holdsFull s)
      ∧ (f.state = .opened → f.holds.length < 4 → f.limit < f.balance + reserved + amount → declines .overLimit s)
      ∧ (f.state = .opened → f.holds.length < 4 → f.balance + reserved + amount ≤ f.limit → 16384 ≤ s.jnl.used →
          declines .journalFull (raise .journalFull 3 {} s))
      ∧ (f.state = .opened → f.holds.length < 4 → f.balance + reserved + amount ≤ f.limit → s.jnl.used < 16384 →
        ∃ t number near, exec (.openTabSettlement n) s = .next t
          ∧ (near = true ↔ f.near = true ∨ (0 < f.limit ∧ s.fst.band * f.limit ≤ 100 * (f.balance + reserved + amount)))
          ∧ (s.fst.outstanding.length < 65535 → 1 ≤ s.fst.nextHold → s.fst.nextHold ≤ 65535 →
              1 ≤ number ∧ number ≤ 65535 ∧ ∀ h ∈ s.fst.outstanding, h.number ≠ number)
          ∧ ((∀ h ∈ s.fst.outstanding, h.number ≠ s.fst.nextHold) → number = s.fst.nextHold)
          ∧ (let hold : Hold := { number := number, venue := w.venue, till := n, person := w.person, amount := amount,
                                  openedAt := s.scl.voyage, fallenDue := false }
             t.fst = { s.fst with folios := s.fst.folios.set w.folio { f with near := near, holds := f.holds ++ [hold] },
                                  nextHold := if 65535 ≤ number then 1 else number + 1 })
          ∧ t.jnl = s.jnl.push { kind := .tabOpen, flags := { lenient := w.lenient }, index := w.person, serial := w.serial, folio := w.folio,
                                 place := n.val, a := amount, aux := (number + 65536 * w.venue.val : Nat) } s.scl.voyage
          ∧ t.crg = (successUpdate w.serial s).crg ∧ t.persons = s.persons
          ∧ t.chu = (decided n .openTab w.sequence (approvedBody 0 amount 0 0 number) s).chu
          ∧ t.txOf .till = (decided n .openTab w.sequence (approvedBody 0 amount 0 0 number) s).txOf .till
          ∧ raisedWhen (s.jnl.used = 12287) .journalHigh 12288 s t
          ∧ raisedWhen (near = true ∧ f.near = false) .folioNearLimit (BitVec.ofNat 32 w.folio) s t
          ∧ settlementFrame s t ∧ ∀ c, c ≠ .journalHigh → c ≠ .folioNearLimit → t.cause c = s.cause c)

/-- CLOSE_TAB_SETTLEMENT (R70, R73, R106): the hold leaves, the actual total is posted whatever the limit, the folio freezes over its
limit, and the NEAR test runs (R76). A free folio slot is declined first (log 26), and a decline carries amounts of 0 and the hold named (log 25). -/
def Obligations.CloseTabSettlementPostsTheTab : Prop :=
  ∀ (s : State) (n : Fin 128) (w : Waiting) (number : Nat) (sums : Sums), s.boundary = none → s.chu.tills[n].working = some w →
    (∃ lines, w.work = .closeTab number sums lines) →
    let declines (reason : Reason) (u : State) : Prop :=
      exec (.closeTabSettlement n) s = .next (decided n .closeTab w.sequence (declinedBody reason 0 0 number) u)
    (s.fst.folios.get w.folio = none → declines .folioClosed s)
    ∧ ∀ f, s.fst.folios.get w.folio = some f →
      (f.state = .closed → declines .folioClosed s)
      ∧ (f.state ≠ .closed → f.holds.find? (fun h => h.number == number) = none → declines .holdUnknown s)
      ∧ ∀ h, f.state ≠ .closed → f.holds.find? (fun h => h.number == number) = some h →
        (16384 ≤ s.jnl.used → declines .journalFull (raise .journalFull 4 {} s))
        ∧ (s.jnl.used < 16384 →
          let holds := f.holds.filter (fun x => x.number ≠ number)
          let exceeds := f.limit < f.balance + sums.s + (holds.map (·.amount)).sum
          ∃ t near, exec (.closeTabSettlement n) s = .next t
            ∧ (near = true ↔ f.near = true
                ∨ (0 < f.limit ∧ s.fst.band * f.limit ≤ 100 * (f.balance + sums.s + (holds.map (·.amount)).sum)))
            ∧ (let g : Folio := { f with holds := holds, balance := f.balance + sums.s, near := near,
                                         state := if f.state = .opened ∧ exceeds then .frozen else f.state }
               t.fst = { s.fst.addToDay sums.s with folios := s.fst.folios.set w.folio g })
            ∧ t.jnl = s.jnl.push { kind := .tabClose, flags := { lenient := w.lenient }, index := w.person, serial := w.serial,
                                   folio := w.folio, place := h.till.val, reason := n.val, a := sums.s, b := sums.g, c := sums.t,
                                   aux := (h.number + 65536 * h.venue.val : Nat) } s.scl.voyage
            ∧ t.crg = (successUpdate w.serial s).crg
            ∧ (∀ p, s.persons.get w.person = some p → p.spend.privilege ≠ .allowance → t.persons.get w.person = some p)
            ∧ (∀ p, s.persons.get w.person = some p → p.spend.privilege = .allowance → t.persons.get w.person = some { p with spend :=
                { p.spend with spentToday := max 0 (min 8388607 ((if p.spend.spendDay = some s.scl.folioDay then p.spend.spentToday else 0) + sums.s)),
                               spendDay := some s.scl.folioDay } })
            ∧ (∀ m, m ≠ w.person → t.persons.get m = s.persons.get m)
            ∧ (let till : Till :=
                 { venue := s.chu.tills[n].venue, working := none, lastSequence := some w.sequence,
                   lastDecision := some { kind := .closeTab, body := approvedBody s.jnl.next sums.s sums.g sums.t number },
                   lastApproved := some { kind := .tabClose, charge := s.jnl.next, voyage := s.scl.voyage, folio := w.folio, person := w.person,
                                          total := sums.s } }
               t.chu = { s.chu with tills := s.chu.tills.set n till })
            ∧ t.txOf .till = s.txOf .till ++ [.tillAnswer { kind := 0x83, sequence := w.sequence, till := BitVec.ofNat 8 n.val, repeated := false,
                                                            body := approvedBody s.jnl.next sums.s sums.g sums.t number }]
            ∧ raisedWhen (s.jnl.used = 12287) .journalHigh 12288 s t
            ∧ raisedWhen (near = true ∧ f.near = false) .folioNearLimit (BitVec.ofNat 32 w.folio) s t
            ∧ raisedWhen (f.state = .opened ∧ exceeds) .folioOverLimit (BitVec.ofNat 32 w.folio) s t
            ∧ settlementFrame s t ∧ ∀ c, c ≠ .journalHigh → c ≠ .folioNearLimit → c ≠ .folioOverLimit → t.cause c = s.cause c)

/-- VOID_SETTLEMENT (R70, R71, R74, R108): the stored total is taken back, with the NEAR test (R76), or the void is declined. A free folio
slot is declined FOLIO CLOSED (log 26), and a decline carries amounts of 0 (log 25). -/
def Obligations.VoidSettlementTakesTheTotalBack : Prop :=
  ∀ (s : State) (n : Fin 128) (w : Waiting) (a : Approved), s.boundary = none → s.chu.tills[n].working = some w → w.work = .void a →
    let declines (reason : Reason) (u : State) : Prop :=
      exec (.voidSettlement n) s = .next (decided n .void w.sequence (declinedBody reason 0 0 0) u)
    (s.fst.folios.get w.folio = none → declines .folioClosed s)
    ∧ ∀ f, s.fst.folios.get w.folio = some f →
      let beyond := (0 < a.total ∧ f.balance - a.total < -1073741824) ∨ (a.total < 0 ∧ 1073741824 < f.balance - a.total)
      (f.state = .closed ∨ beyond → declines .voidRefused s)
      ∧ (f.state ≠ .closed → ¬ beyond → 16384 ≤ s.jnl.used → declines .journalFull (raise .journalFull 2 {} s))
      ∧ (f.state ≠ .closed → ¬ beyond → s.jnl.used < 16384 →
        let exceeds := f.limit < f.balance - a.total + (f.holds.map (·.amount)).sum
        ∃ t near, exec (.voidSettlement n) s = .next t
          ∧ (near = true ↔ f.near = true
              ∨ (0 < f.limit ∧ s.fst.band * f.limit ≤ 100 * (f.balance - a.total + (f.holds.map (·.amount)).sum)))
          ∧ (let g : Folio := { f with balance := f.balance - a.total, near := near,
                                       state := if f.state = .opened ∧ exceeds then .frozen else f.state }
             t.fst = { s.fst.addToDay (-a.total) with folios := s.fst.folios.set w.folio g })
          ∧ t.jnl = s.jnl.push { kind := .void, index := w.person, serial := w.serial, folio := w.folio, place := n.val, a := a.total,
                                 b := (a.charge.toNat % 16777216 : Nat), aux := (a.charge.toNat / 16777216 : Nat) } s.scl.voyage
          ∧ t.crg = s.crg
          ∧ (∀ p, s.persons.get w.person = some p → p.spend.spendDay ≠ some s.scl.folioDay → t.persons.get w.person = some p)
          ∧ (∀ p, s.persons.get w.person = some p → p.spend.spendDay = some s.scl.folioDay → t.persons.get w.person =
              some { p with spend := { p.spend with spentToday := max 0 (min 8388607 (p.spend.spentToday - a.total)) } })
          ∧ (∀ m, m ≠ w.person → t.persons.get m = s.persons.get m)
          ∧ (let till : Till :=
               { venue := s.chu.tills[n].venue, working := none, lastSequence := some w.sequence,
                 lastDecision := some { kind := .void, body := approvedBody s.jnl.next a.total 0 0 0 }, lastApproved := none }
             t.chu = { s.chu with tills := s.chu.tills.set n till })
          ∧ t.txOf .till = s.txOf .till ++ [.tillAnswer { kind := 0x84, sequence := w.sequence, till := BitVec.ofNat 8 n.val, repeated := false,
                                                          body := approvedBody s.jnl.next a.total 0 0 0 }]
          ∧ raisedWhen (s.jnl.used = 12287) .journalHigh 12288 s t
          ∧ raisedWhen (near = true ∧ f.near = false) .folioNearLimit (BitVec.ofNat 32 w.folio) s t
          ∧ raisedWhen (f.state = .opened ∧ exceeds) .folioOverLimit (BitVec.ofNat 32 w.folio) s t
          ∧ settlementFrame s t ∧ ∀ c, c ≠ .journalHigh → c ≠ .folioNearLimit → c ≠ .folioOverLimit → t.cause c = s.cause c)

/-! ### Cabins (chapter 6) -/

/-- ADD CABIN, REMOVE CABIN and SET CABIN STATE (R110, R124, R127, R128, R131, R132): the cabin table and the poll list change together. A mode set while a
MODE frame to the node is in flight counts as replaced, be it by an equal one (R141; log 47). -/
def Obligations.CabinRequestsChangeTableAndPollList : Prop :=
  ∀ (s : State) (tag : Byte) (body : List Byte) (v : Values), s.ready = true →
    let t := heard .service s
    let modeOf (st : CabinState) : LockMode := match st with | .inService => .normal | .outOfOrder => .outOfOrder | .lockedDown => .lockdown
    (decodeFields addCabinFields body = .ok v → ∀ i : Fin 8, v.nat 2 = i.val →
      let n := v.nat 1
      let node := v.nat 3
      let st := (v.optNat 4).elim .inService cabinStateOf
      let l := s.lscs[i]
      let c : Cabin := { segment := i, node := node, state := st, entry := .unknown, privacy := false, bindings := [] }
      let listed (isNew : Bool) : Node := { state := .unprobed, missCount := 0, pendingMode := modeOf st, isNew := isNew }
      let u (isNew : Bool) : State := { t with cau := { s.cau with cabins := s.cau.cabins.set n c },
                                               lscs := s.lscs.set i { l with nodes := l.nodes.set node (listed isNew) } }
      ((s.cau.cabins.get n).isSome = true → exec (.addCabin tag body) s = .next (answered 0x40 tag .conflict (.field 1) t))
      ∧ (s.cau.cabins.get n = none → (s.cau.cabinAt i node).isSome = true →
          exec (.addCabin tag body) s = .next (answered 0x40 tag .conflict (.field 3) t))
      ∧ (s.cau.cabins.get n = none → s.cau.cabinAt i node = none → 3200 ≤ s.cau.cabins.length →
          exec (.addCabin tag body) s = .next (answered 0x40 tag .tableFull .nothing t))
      ∧ (s.cau.cabins.get n = none → s.cau.cabinAt i node = none → s.cau.cabins.length < 3200 → l.running = true →
          exec (.addCabin tag body) s = .next (answered 0x40 tag .done .nothing (u true)))
      ∧ (s.cau.cabins.get n = none → s.cau.cabinAt i node = none → s.cau.cabins.length < 3200 → l.running = false → l.nodes = [] →
          let turn : Turn := { address := node, sent := modeOf st, replaced := false, windowMs := l.windowMs, window := .toBegin, removed := false, heldCard := none }
          let running : Lsc := { nodes := [(node, listed false)], windowMs := l.windowMs, cycle := l.cycle, running := true, turn := some turn,
                                 lastTurn := some node, waitMs := none }
          exec (.addCabin tag body) s = .next (answered 0x40 tag .done .nothing
            (formed (.segment i) (.mode node (modeOf st)) (putLsc i running (u false))))))
    ∧ (decodeFields oneCabinFields body = .ok v →
      (s.cau.cabins.get (v.nat 1) = none → exec (.removeCabin tag body) s = .next (answered 0x41 tag .notFound .nothing t))
      ∧ ∀ c, s.cau.cabins.get (v.nat 1) = some c →
        let l := s.lscs[c.segment]
        ∃ u, exec (.removeCabin tag body) s = .next (answered 0x41 tag .done (.bindings c.bindings.length) u)
          ∧ (∀ m, u.persons.get m = (s.persons.get m).map (fun p => if c.bindings.any (fun b => b.person == m) then
              { p with ident := { p.ident with cabins := p.ident.cabins.filter (· ≠ v.nat 1) } } else p))
          ∧ u = (let turn := l.turn.map (fun x => if x.address = c.node then { x with removed := true } else x)
                 { t with persons := u.persons, cau := { s.cau with cabins := s.cau.cabins.erase (v.nat 1) },
                          lscs := s.lscs.set c.segment { l with nodes := l.nodes.erase c.node, turn := turn } }))
    ∧ (judgeFields setCabinStateFields setCabinStateCross body = .ok v →
      let st := cabinStateOf (v.nat 4)
      (∀ n : Nat, v.opt 2 = some (n : Int) →
        (s.cau.cabins.get n = none → exec (.setCabinState tag body) s = .next (answered 0x44 tag .notFound .nothing t))
        ∧ ∀ c, s.cau.cabins.get n = some c →
          let u := putCabin n { c with state := st } t
          let l := s.lscs[c.segment]
          let turn := l.turn.map (fun x => if x.address = c.node then { x with replaced := true } else x)
          (l.nodes.get c.node = none →
            exec (.setCabinState tag body) s = .next (answered 0x44 tag .done (.cabinsSet 1) (putLsc c.segment { l with turn := turn } u)))
          ∧ ∀ x, l.nodes.get c.node = some x → exec (.setCabinState tag body) s = .next (answered 0x44 tag .done (.cabinsSet 1)
              (putLsc c.segment { l with nodes := l.nodes.set c.node { x with pendingMode := modeOf st }, turn := turn } u)))
      ∧ (v.opt 2 = none → s.cau.cabins.wf = true → ∀ i : Fin 8, v.nat 3 = i.val →
        ∃ u, exec (.setCabinState tag body) s = .next (answered 0x44 tag .done
            (.cabinsSet (s.cau.cabins.countP (fun e => e.2.segment == i))) u)
          ∧ (∀ n, u.cau.cabins.get n = (s.cau.cabins.get n).map (fun c => if c.segment = i then { c with state := st } else c))
          ∧ (∀ node, u.lscs[i].nodes.get node = (s.lscs[i].nodes.get node).map (fun x =>
              if (s.cau.cabinAt i node).isSome then { x with pendingMode := modeOf st } else x))
          ∧ (let turn := s.lscs[i].turn.map (fun x => if (s.cau.cabinAt i x.address).isSome then { x with replaced := true } else x)
             u = { t with cau := { s.cau with cabins := u.cau.cabins },
                          lscs := s.lscs.set i { s.lscs[i] with nodes := u.lscs[i].nodes, turn := turn } })))

/-- BIND and UNBIND (R111, R113 to R115): the checks in order, the rewrite, the sweep, the append, and the removal, on both lists. -/
def Obligations.BindAndUnbindChangeBothLists : Prop :=
  ∀ (s : State) (tag : Byte) (body : List Byte) (v : Values), s.ready = true →
    let t := heard .service s
    let n := v.nat 2
    (decodeFields bindFields body = .ok v →
      let b : Binding := { person := v.nat 1, kind := bindingKindOf (v.nat 3), validFrom := v.nat 4, validUntil := v.optNat 5 }
      let replies (e : Status) (x : Payload) (u : State) : Prop := exec (.bind tag body) s = .next (answered 0x42 tag e x u)
      let inOrder := ∀ e, b.validUntil = some e → b.validFrom < e
      (¬ inOrder → replies .range .nothing t)
      ∧ (inOrder → s.cau.cabins.get n = none → replies .notFound (.field 2) t)
      ∧ (inOrder → s.cau.cabins.get n ≠ none → s.persons.get b.person = none → replies .notFound (.field 1) t)
      ∧ ∀ c p, inOrder → s.cau.cabins.get n = some c → s.persons.get b.person = some p →
        (p.att.presence = .departed → replies .departed .nothing t)
        ∧ (p.att.presence ≠ .departed → (∃ x ∈ c.bindings, x.person = b.person) →
            let d := { c with bindings := c.bindings.map (fun x => if x.person = b.person then b else x) }
            replies .done (.position (c.bindings.findIdx (fun x => x.person == b.person) + 1)) (putCabin n d t))
        ∧ (p.att.presence ≠ .departed → (∀ x ∈ c.bindings, x.person ≠ b.person) → c.bindings.length < 6 →
            (4 ≤ p.ident.cabins.length → replies .personFull (.swept 0) t)
            ∧ (p.ident.cabins.length < 4 → replies .done (.bound (c.bindings.length + 1) 0)
                { t with cau := { s.cau with cabins := s.cau.cabins.set n { c with bindings := c.bindings ++ [b] } },
                         persons := s.persons.set b.person { p with ident := { p.ident with cabins := p.ident.cabins ++ [n] } } }))
        ∧ (p.att.presence ≠ .departed → (∀ x ∈ c.bindings, x.person ≠ b.person) → 6 ≤ c.bindings.length →
            let expired (x : Binding) : Bool := x.validUntil.elim false (fun e => decide (e ≤ s.scl.voyage))
            let kept := c.bindings.filter (fun x => !expired x)
            let swept := c.bindings.countP expired
            let isSwept (m : Nat) : Bool := c.bindings.any (fun x => expired x && x.person == m)
            ∃ u, (∀ m, u.persons.get m = (s.persons.get m).map (fun q => if isSwept m then
                  { q with ident := { q.ident with cabins := q.ident.cabins.filter (· ≠ n) } } else q))
              ∧ u = { t with persons := u.persons, cau := { s.cau with cabins := s.cau.cabins.set n { c with bindings := kept } } }
              ∧ (6 ≤ kept.length → replies .cabinFull (.swept swept) u)
              ∧ (kept.length < 6 → 4 ≤ p.ident.cabins.length → replies .personFull (.swept swept) u)
              ∧ (kept.length < 6 → p.ident.cabins.length < 4 → replies .done (.bound (kept.length + 1) swept)
                  { u with cau := { s.cau with cabins := s.cau.cabins.set n { c with bindings := kept ++ [b] } },
                           persons := u.persons.set b.person { p with ident := { p.ident with cabins := p.ident.cabins ++ [n] } } })))
    ∧ (decodeFields unbindFields body = .ok v →
      (s.cau.cabins.get n = none → exec (.unbind tag body) s = .next (answered 0x43 tag .notFound .nothing t))
      ∧ ∀ c, s.cau.cabins.get n = some c →
        ((∀ x ∈ c.bindings, x.person ≠ v.nat 1) → exec (.unbind tag body) s = .next (answered 0x43 tag .notFound .nothing t))
        ∧ ∀ p, (∃ x ∈ c.bindings, x.person = v.nat 1) → s.persons.get (v.nat 1) = some p →
          exec (.unbind tag body) s = .next (answered 0x43 tag .done
            (.position (c.bindings.findIdx (fun x => x.person == v.nat 1) + 1))
            { t with cau := { s.cau with cabins := s.cau.cabins.set n { c with bindings := c.bindings.filter (fun x => x.person ≠ v.nat 1) } },
                     persons := s.persons.set (v.nat 1)
                                  { p with ident := { p.ident with cabins := p.ident.cabins.filter (· ≠ n) } } }))

/-- The access decision (R116 to R122) line by line, with the update of the card, the sighting or cause, and the ACCESS record the logging setting asks for. The record of
a found card carries the IRREGULAR mark as it stands after line 4
(log 27). The master path takes bit n of the card's mask for segment n, the model's reading (log 55). -/
def Obligations.AccessDecisionsFollowTheLines : Prop :=
  ∀ (s : State) (i : Fin 8) (node : Nat) (serial : Word32),
    let cabin := (s.cau.cabinAt i node).elim 0 (·.1)
    let logged (d : AccessDecision) : Bool := match s.cau.logging with | .nothing => false | .denials => decide (4 ≤ d.number) | .all => true
    let record (d : AccessDecision) (flags : RecordFlags) (folio person level : Nat) : Record :=
      { kind := .access, flags := flags, index := cabin, serial := serial, folio := folio, place := i.val, reason := d.number, a := person, b := node,
        c := level }
    let written (d : AccessDecision) (r : Record) (u : State) : State := if logged d then offerEvent r u else u
    (s.slc.service = .loading → present i node serial s = (.defer, written .defer (record .defer {} 0 0 0) s))
    ∧ (s.slc.service = .serving →
      let unknown (d : AccessDecision) : Prop :=
        present i node serial s = (d, written d (record d {} 0 0 0) (failureUpdate serial s))
      (lookup serial s = none → (s.cau.cabinAt i node = none → unknown .denyNotBound) ∧ (s.cau.cabinAt i node ≠ none → unknown .denyUnknown))
      ∧ ∀ f, lookup serial s = some f →
        let decides (d : AccessDecision) (lenient : Bool) (u : State) : Prop := present i node serial s =
          (d, written d (record d { lenient := lenient, irregular := u.irregular f.card.person } f.person.ident.folio f.card.person f.card.keyLevel.number)
            (if d = .grant ∨ d = .grantMaster then successUpdate serial u else failureUpdate serial u))
        (s.cau.cabinAt i node = none → decides .denyNotBound false s)
        ∧ ∀ n c, s.cau.cabinAt i node = some (n, c) →
          (f.card.state = .lost → decides .denyLost false (raise .lostCardPresented serial (detail 1 n) s))
          ∧ (f.card.state = .suspended → decides .denySuspended false s)
          ∧ (f.card.state = .departed → decides .denyDeparted false s)
          ∧ (f.card.state = .active → f.person.att.presence = .ashore ∨ f.person.att.presence = .expected → s.cau.policy = .strict →
              decides .denyAshore false (raise .ashoreSighting (BitVec.ofNat 32 f.card.person) (detail 1 c.segment.val n) s))
          ∧ (f.card.state = .active → ∀ lenient u,
              (lenient = false ∧ u = s ∧ f.person.att.presence = .aboard)
                ∨ (lenient = true ∧ s.cau.policy = .lenient ∧ (f.person.att.presence = .ashore ∨ f.person.att.presence = .expected)
                    ∧ u = sighting f.card.person f.person f.card.serial (.atLock c.segment.val n) s) →
              let isMaster := f.card.keyLevel ≠ .noKey ∧ f.card.mask.getLsbD c.segment.val = true
              let officer := f.card.keyLevel = .officer
              let own := c.bindings.find? (fun b => b.person == f.card.person)
              (isMaster → c.state = .lockedDown ∨ c.privacy = true → officer → decides .grantMaster lenient u)
              ∧ (isMaster → c.state = .lockedDown → ¬ officer → decides .denyCabinClosed lenient u)
              ∧ (isMaster → c.state ≠ .lockedDown → c.privacy = true → ¬ officer → decides .denyPrivacy lenient u)
              ∧ (isMaster → c.state ≠ .lockedDown → c.privacy = false → decides .grantMaster lenient u)
              ∧ (¬ isMaster → c.state ≠ .inService → decides .denyCabinClosed lenient u)
              ∧ (¬ isMaster → c.state = .inService → own = none → decides .denyNotBound lenient u)
              ∧ ∀ b, ¬ isMaster → c.state = .inService → own = some b →
                (s.scl.voyage < b.validFrom → decides .denyNotYet lenient u)
                ∧ (b.validFrom ≤ s.scl.voyage → (∃ e, b.validUntil = some e ∧ e ≤ s.scl.voyage) → decides .denyExpired lenient u)
                ∧ (b.validFrom ≤ s.scl.voyage → (∀ e, b.validUntil = some e → s.scl.voyage < e) →
                    (c.privacy = true → b.kind = .service → decides .denyPrivacy lenient u)
                    ∧ (c.privacy = false ∨ b.kind ≠ .service → decides .grant lenient u))))

/-! ### Lock segments (chapter 7) -/

/-- The replies of a node, its miss, the wait of an idle cycle and the entry report (R125, R132, R135 to R140). The outcome of a turn whose record was removed touches no
record (R143; for RESTARTED log 36).
The model's choices and readings: a frame completed without a START_BYTE event counts as begun then (log 6), a reply may begin before its window does (log 7), a window
that ends while a frame begun within it is coming waits for that frame, whose discard then makes the miss (log 9), and ENTRY hands its report to a list that ENTRY_REPORT
takes from (log 10). -/
def Obligations.TurnsEndByReplyOrMiss : Prop :=
  ∀ (s : State) (i : Fin 8) (body : List Byte), s.boundary = none →
    let h := heard (.segment i) s
    let l := s.lscs[i]
    let begunInside := ∃ bytes, s.rxOf (.segment i) = .collecting true bytes
    (∀ fr tr, acceptedTurn i (some fr) s = some (tr, fr) ↔ l.turn = some tr ∧ fr.address = tr.address
      ∧ (begunInside ∨ (s.rxOf (.segment i) = .hunting ∧ tr.window ≠ .over)))
    ∧ (∀ tr a, acceptedTurn i (quietOf body) s = some (tr, ⟨a, .quiet⟩) → exec (.quiet i body) s = .next (endTurn i (answerNode i tr true h)))
    ∧ (∀ tr a serial, acceptedTurn i (cardOf body) s = some (tr, ⟨a, .card serial⟩) →
        let r := present i tr.address serial (answerNode i tr true h)
        exec (.card i body) s = .next (endTurn i (formed (.segment i) (.decision tr.address serial r.1) r.2)))
    ∧ (∀ tr a e privacy, acceptedTurn i (entryOf body) s = some (tr, ⟨a, .entry e privacy⟩) →
        let u := answerNode i tr true h
        exec (.entry i body) s = .next (endTurn i { u with cau := { u.cau with
          reports := u.cau.reports ++ [{ segment := i, node := tr.address, entry := e, privacy := privacy }] } }))
    ∧ (∀ tr a n c, acceptedTurn i (restartedOf body) s = some (tr, ⟨a, .restarted⟩) → tr.removed = false →
        s.cau.cabinAt i tr.address = some (n, c) → exec (.restarted i body) s = .next (endTurn i
          (raise .nodeRestarted (BitVec.ofNat 32 (i.val * 512 + tr.address)) (detail n) (putCabin n { c with entry := .unknown }
            (changeNode i tr.address (fun x => { x with pendingMode := match c.state with
              | .inService => .normal | .outOfOrder => .outOfOrder | .lockedDown => .lockdown }) (answerNode i tr false h))))))
    ∧ (∀ tr a, acceptedTurn i (restartedOf body) s = some (tr, ⟨a, .restarted⟩) → tr.removed = true →
        exec (.restarted i body) s = .next (endTurn i h))
    ∧ ((∀ tr, l.turn = some tr → tr.window ≠ .over) →
        (acceptedTurn i (quietOf body) s = none → exec (.quiet i body) s = .next h)
        ∧ (acceptedTurn i (cardOf body) s = none → exec (.card i body) s = .next h)
        ∧ (acceptedTurn i (entryOf body) s = none → exec (.entry i body) s = .next h)
        ∧ (acceptedTurn i (restartedOf body) s = none → exec (.restarted i body) s = .next h))
    ∧ (∀ tr, l.turn = some tr →
        let misses (w t : State) : Prop :=
          (tr.removed = true → t = endTurn i w)
          ∧ ∀ x, tr.removed = false → l.nodes.get tr.address = some x →
            let silent := x.state ≠ .silent ∧ 2 ≤ x.missCount
            let y := { x with missCount := min 3 (x.missCount + 1), state := if 2 ≤ x.missCount then .silent else x.state }
            let u := putLsc i { l with nodes := l.nodes.set tr.address y } w
            let cabin := (s.cau.cabinAt i tr.address).elim 0 (·.1)
            (¬ silent → t = endTurn i u)
            ∧ (silent → t = endTurn i (offerEvent
                { kind := .node, index := cabin, place := i.val, reason := 1, a := tr.address, b := x.pendingMode.number, c := l.cycle }
                (raise .nodeSilent (BitVec.ofNat 32 (i.val * 512 + tr.address)) (detail cabin) u)))
        (tr.window = .running → ¬ begunInside → ∃ t, exec (.miss i) s = .next t ∧ misses s t)
        ∧ (tr.window = .running → begunInside →
            exec (.miss i) s = .next (putLsc i { l with turn := some { tr with window := .over } } s))
        ∧ (tr.window = .over →
            (∀ why, Discard.fits (.segment i) why = true → ∃ t, exec (.discardedFrame (.segment i) why) s = .next t ∧ misses h t)
            ∧ (acceptedTurn i (quietOf body) s = none → ∃ t, exec (.quiet i body) s = .next t ∧ misses h t)
            ∧ (acceptedTurn i (cardOf body) s = none → ∃ t, exec (.card i body) s = .next t ∧ misses h t)
            ∧ (acceptedTurn i (entryOf body) s = none → ∃ t, exec (.entry i body) s = .next t ∧ misses h t)
            ∧ (acceptedTurn i (restartedOf body) s = none → ∃ t, exec (.restarted i body) s = .next t ∧ misses h t)))
    ∧ (l.waitMs ≠ none → exec (.cycleWait i) s = .next (endCycle i s))
    ∧ ∀ r rest, s.cau.reports = r :: rest →
        let u : State := { s with cau := { s.cau with reports := rest } }
        (s.cau.cabinAt r.segment r.node = none → exec .entryReport s = .next u)
        ∧ ∀ n c, s.cau.cabinAt r.segment r.node = some (n, c) →
          let w := putCabin n { c with entry := r.entry, privacy := r.privacy } u
          exec .entryReport s = .next (if r.entry = .heldOpen ∧ c.entry ≠ .heldOpen then raise .entryHeldOpen (BitVec.ofNat 32 n) {} w else w)

/-- What an acceptance does to the node's record (R136, R140, R141), and how the next turn or the next cycle begins (R132, R133, R135). A pending mode replaced while its
MODE frame is in flight stays, also when the mode set is an equal one, which is the model's reading (log 47). -/
def Obligations.PollCyclesGoThroughTheList : Prop :=
  ∀ (s : State) (i : Fin 8),
    let l := s.lscs[i]
    let opens (a : Nat) (m : LockMode) : Frame := if m = .noMode then .poll a else .mode a m
    let turnOf (a : Nat) (x : Node) : Turn :=
      { address := a, sent := x.pendingMode, replaced := false, windowMs := l.windowMs, window := .toBegin, removed := false, heldCard := none }
    (∀ tr acknowledges x, tr.removed = false → l.nodes.get tr.address = some x →
      let y : Node := { x with missCount := 0, state := .online,
                               pendingMode := if acknowledges = true ∧ tr.sent ≠ .noMode ∧ tr.replaced = false ∧ x.pendingMode = tr.sent
                                 then .noMode else x.pendingMode }
      let change (u : State) : State := putLsc i { l with nodes := l.nodes.set tr.address y } u
      (x.state ≠ .silent → answerNode i tr acknowledges s = change s)
      ∧ (x.state = .silent → answerNode i tr acknowledges s = change (offerEvent
          { kind := .node, index := (s.cau.cabinAt i tr.address).elim 0 (·.1), place := i.val, reason := 2, a := tr.address,
            b := x.pendingMode.number, c := l.cycle } s)))
    ∧ (∀ tr acknowledges, tr.removed = true → answerNode i tr acknowledges s = s)
    ∧ (∀ a x, l.nextDue = some (a, x) → l.nodes.wf = true → l.nodes.get a = some x ∧ x.isNew = false ∧ (x.state = .silent → l.cycle = 0)
        ∧ (∀ b, l.lastTurn = some b → b < a)
        ∧ ∀ b y, l.nodes.get b = some y → b < a → (∀ d, l.lastTurn = some d → d < b) → y.isNew = true ∨ (y.state = .silent ∧ l.cycle ≠ 0))
    ∧ (∀ a x, l.nextDue = some (a, x) → endTurn i s = formed (.segment i) (opens a x.pendingMode)
        (putLsc i { l with turn := some (turnOf a x), lastTurn := some a, waitMs := none, running := true } s))
    ∧ (l.nextDue = none → ∀ b y, l.nodes.get b = some y → (∀ d, l.lastTurn = some d → d < b) → y.isNew = true ∨ (y.state = .silent ∧ l.cycle ≠ 0))
    ∧ (l.nextDue = none → endTurn i s = endCycle i (putLsc i { l with turn := none } s))
    ∧ (let ended : Lsc :=
         { l with cycle := (l.cycle + 1) % 16, nodes := l.nodes.map (fun e => (e.1, { e.2 with isNew := false })), turn := none,
                  lastTurn := none, waitMs := none, running := false }
       (l.nodes = [] → endCycle i s = putLsc i ended s)
       ∧ (l.nodes ≠ [] → ended.nextDue = none → endCycle i s = putLsc i { ended with running := true, waitMs := some l.windowMs } s)
       ∧ ∀ a x, ended.nextDue = some (a, x) → endCycle i s = formed (.segment i) (opens a x.pendingMode)
          (putLsc i { ended with running := true, turn := some (turnOf a x), lastTurn := some a } s))

/-! ### Gangways and presence (chapter 8) -/

/-- The station line and the fetch (R147, R149, R150).
The model's choices and readings: a DETACH of a DETACHED station has no occasion (log 2), a frame completed without a START_BYTE event counts as begun then (log 6), a
window that ends while a frame begun within it is coming waits for that frame, whose discard then makes the failure (log 9), RETRY_FETCH keeps the retry time (log 39),
and DETACH takes the frame that is coming out of its window (log 46). -/
def Obligations.StationLinesAndFetches : Prop :=
  ∀ (s : State) (g : Fin 4), s.boundary = none →
    let x := s.pru.stations[g]
    let fetches (y : Station) (u : State) : State :=
      if s.slc.service = .serving ∧ y.attached = .attached ∧ y.shortSeen = true ∧ y.fetch = .none then
        formed (.station g) .fetch (putStation g { y with shortSeen := false, fetch := .waiting .toBegin } u)
      else putStation g y u
    let failures := min 3 (x.failures + 1)
    let outside : Receiver := match s.rxOf (.station g) with | .hunting => .hunting | .collecting _ bytes => .collecting false bytes
    let begunInside := ∃ bytes, s.rxOf (.station g) = .collecting true bytes
    let h := heard (.station g) s
    let fails (w t : State) : Prop :=
      (x.attached = .silent → t = putStation g { x with failures := failures, fetch := .none, retryMs := some 5000 } w)
      ∧ (x.attached = .attached → failures = 3 → t = raise .stationSilent (BitVec.ofNat 32 g.val) {}
          (putStation g { x with failures := 3, fetch := .none, attached := .silent, retryMs := some 5000 } w))
      ∧ (x.attached = .attached → failures < 3 → t = fetches { x with failures := failures, fetch := .none } w)
    (exec (.stationLineFall g) s = .next (putStation g { x with lineHigh := false } s))
    ∧ (∀ ms, x.attached ≠ .detached → ms < x.pulseLimit →
        exec (.requestPulse g ms) s = .next (fetches { x with lineHigh := true, shortSeen := true } s))
    ∧ (∀ ms, x.attached ≠ .detached → x.pulseLimit ≤ ms → ms < 1000 →
        exec (.restartPulse g ms) s = .next (fetches { x with lineHigh := true, longSeen := true, expected := none, failures := 0, attached := .attached,
                                                              retryMs := if x.attached = .silent then none else x.retryMs, lastShown := none }
          (raise .stationRestart (BitVec.ofNat 32 g.val) {} s)))
    ∧ (x.attached ≠ .detached → (∀ w, x.fetch ≠ .waiting w) →
        exec (.detach g) s = .next (raise .stationDetached (BitVec.ofNat 32 g.val) {}
          (putStation g { x with lineHigh := false, attached := .detached, shortSeen := false, retryMs := none } s)))
    ∧ (∀ w, x.attached ≠ .detached → x.fetch = .waiting w →
        exec (.detach g) s = .next (putStation g { x with lineHigh := false, attached := .detached, shortSeen := false, retryMs := none,
                                                          failures := failures, fetch := .none }
          (raise .stationDetached (BitVec.ofNat 32 g.val) {} (setRx (.station g) outside s))))
    ∧ (x.attached = .detached → exec (.detach g) s = .next s ∧ exec (.attach g) s = .next
        (putStation g { x with lineHigh := true, attached := .attached, expected := none, failures := 0, lastShown := none } s))
    ∧ (x.attached = .silent → x.retryMs ≠ none → x.fetch = .none → exec (.retryFetch g) s =
        .next (formed (.station g) .fetch (putStation g { x with shortSeen := false, fetch := .waiting .toBegin } s)))
    ∧ (x.fetch = .waiting .running → ¬ begunInside → ∃ t, exec (.fetchFailure g) s = .next t ∧ fails s t)
    ∧ (x.fetch = .waiting .running → begunInside → exec (.fetchFailure g) s = .next (putStation g { x with fetch := .waiting .over } s))
    ∧ (∀ why, Discard.fits (.station g) why = true → x.fetch = .waiting .over →
        ∃ t, exec (.discardedFrame (.station g) why) s = .next t ∧ fails h t)
    ∧ (∀ body, passagesOf body = none ∨ (∀ w, x.fetch ≠ .waiting w) ∨ (∃ bytes, s.rxOf (.station g) = .collecting false bytes)
          ∨ (s.rxOf (.station g) = .hunting ∧ x.fetch ≠ .waiting .running) →
        (x.fetch ≠ .waiting .over → exec (.passages g body) s = .next h)
        ∧ (x.fetch = .waiting .over → ∃ t, exec (.passages g body) s = .next t ∧ fails h t))
    ∧ ∀ body records w, x.fetch = .waiting w → passagesOf body = some records →
        (begunInside ∨ (s.rxOf (.station g) = .hunting ∧ w = .running)) →
        let y : Station := { x with failures := 0, retryMs := none, attached := if x.attached = .silent then .attached else x.attached }
        (records ≠ [] → exec (.passages g body) s = .next (putStation g { y with fetch := .judging records [] } h))
        ∧ (records = [] → x.attached ≠ .detached →
            exec (.passages g body) s = .next (fetches { y with fetch := .none } (formed (.station g) (.verdicts []) h)))

/-- JUDGING_A_PASSAGE (R151 to R156, R167): one record judged by sequence, mode, card and presence; the last one sends VERDICTS, unless the
station is DETACHED, and the next FETCH follows when SHORT SEEN is set (R149). -/
def Obligations.PassagesAreJudged : Prop :=
  (∀ (s : State) (g : Fin 4) (r : Passage) (rest : List Passage) (done : List (Word16 × PassageVerdict)), s.boundary = none →
    s.pru.stations[g].fetch = .judging (r :: rest) done →
    let j := judgeRecord g r s
    (rest ≠ [] → exec (.judgingAPassage g) s =
      .next (putStation g { j.2.pru.stations[g] with fetch := .judging rest (done ++ [(r.sequence, j.1)]) } j.2))
    ∧ (rest = [] →
        let x := s.pru.stations[g]
        let y := j.2.pru.stations[g]
        let sent := if x.attached = .detached then j.2 else formed (.station g) (.verdicts (done ++ [(r.sequence, j.1)])) j.2
        exec (.judgingAPassage g) s = .next (if s.slc.service = .serving ∧ x.attached = .attached ∧ x.shortSeen = true
          then formed (.station g) .fetch (putStation g { y with shortSeen := false, fetch := .waiting .toBegin } sent)
          else putStation g { y with fetch := .none } sent)))
  ∧ ∀ (s : State) (g : Fin 4) (r : Passage),
    let x := s.pru.stations[g]
    let d := x.expected.elim 0 (fun e => (r.sequence - e).toNat)
    let y : Station := { x with expected := some (r.sequence + 1) }
    let t := putStation g y (if d = 0 then s else raise .sequenceGap (BitVec.ofNat 32 g.val) (detail d) s)
    let wrongWay := (x.mode = .outbound ∧ r.inward = true) ∨ (x.mode = .inbound ∧ r.inward = false)
    let judged (verdict : PassageVerdict) (u : State) : Prop := judgeRecord g r s = (verdict, u)
    (32768 ≤ d → judged .duplicate s)
    ∧ (d < 32768 →
      (x.mode = .closed → judged .refusedClosed t)
      ∧ (wrongWay → judged .refusedWrongWay t)
      ∧ (x.mode ≠ .closed → ¬ wrongWay →
        (lookup r.serial s = none → judged .refusedUnknown t)
        ∧ ∀ f, lookup r.serial s = some f →
          let p := f.person
          (f.card.state = .lost → judged .refusedLost (raise .lostCardPresented r.serial (detail 3 g.val) t))
          ∧ (f.card.state = .departed → judged .refusedDeparted (raise .passageRefused r.serial (detail g.val) t))
          ∧ (f.card.state = .active ∨ f.card.state = .suspended →
            let anomaly (reason : Nat) : Prop := judged .acceptedWithNote (offerEvent
              { kind := .anomaly, flags := { irregular := p.att.irregular }, index := f.card.person, serial := r.serial, folio := p.ident.folio,
                place := g.val, reason := reason, a := 0, b := p.att.presence.number, c := r.age, aux := r.sequence.toNat } t)
            let moves (after : Presence) : Prop :=
              let u := changePresence f.card.person p after (s.scl.voyage - r.age) (some g) false t
              let b := if x.tallyDay = some s.scl.folioDay then y else { y with tallyDay := some s.scl.folioDay, tallyIn := 0, tallyOut := 0 }
              let tallied := if r.inward then { b with tallyIn := min 65535 (b.tallyIn + 1) } else { b with tallyOut := min 65535 (b.tallyOut + 1) }
              judged .accepted (offerEvent
                { kind := .passage, flags := { irregular := p.att.irregular }, index := f.card.person, serial := r.serial, folio := p.ident.folio,
                  place := g.val, reason := 1, a := if r.inward then 1 else 0, b := after.number, c := r.age, aux := r.sequence.toNat }
                (putStation g tallied u))
            (p.att.presence = .expected → r.inward = true → moves .aboard) ∧ (p.att.presence = .expected → r.inward = false → anomaly 1)
            ∧ (p.att.presence = .aboard → r.inward = true → anomaly 2)
            ∧ (p.att.presence = .aboard → r.inward = false → p.att.final = false → moves .ashore)
            ∧ (p.att.presence = .aboard → r.inward = false → p.att.final = true → moves .departed)
            ∧ (p.att.presence = .ashore → r.inward = true → moves .aboard) ∧ (p.att.presence = .ashore → r.inward = false → anomaly 3))))

/-- SET STATION, SET PERSON and SET PRESENCE (R99, R166, R168, R169), and the all-aboard requests (R160, R163).
The model's readings: MINOR and FINAL are coded 0 set, 1 clear (log 17), the short-pulse limit is a number (log 18), and any frequency given makes last shown absent
(log 41). -/
def Obligations.StationPersonAndTimerRequests : Prop :=
  ∀ (s : State) (tag : Byte) (body : List Byte) (v : Values), s.ready = true →
    let t := heard .service s
    (decodeFields setStationFields body = .ok v → ∀ g : Fin 4, v.nat 1 = g.val →
      let x := s.pru.stations[g]
      exec (.setStation tag body) s = .next (answered 0x50 tag .done (.stationSettings x.mode x.pulseLimit x.frequency)
        (putStation g { x with mode := (v.optNat 2).elim x.mode stationModeOf, pulseLimit := (v.optNat 3).getD x.pulseLimit,
                               frequency := (v.optNat 4).elim x.frequency frequencyOf,
                               lastShown := if v.opt 4 = none then x.lastShown else none } t)))
    ∧ (decodeFields setPersonFields body = .ok v →
      (s.persons.get (v.nat 1) = none → exec (.setPerson tag body) s = .next (answered 0x52 tag .notFound .nothing t))
      ∧ ∀ p, s.persons.get (v.nat 1) = some p →
        let mark (i : Nat) (now : Bool) : Bool := (v.opt i).elim now (fun x => decide (x = 0))
        exec (.setPerson tag body) s = .next (answered 0x52 tag .done .nothing (putPerson (v.nat 1)
          { p with spend := { p.spend with privilege := (v.optNat 2).elim p.spend.privilege privilegeOf,
                                           allowance := (v.opt 3).getD p.spend.allowance, minor := mark 4 p.spend.minor },
                   att := { p.att with final := mark 5 p.att.final } } t)))
    ∧ (decodeFields setPresenceFields body = .ok v →
      (s.persons.get (v.nat 1) = none → exec (.setPresence tag body) s = .next (answered 0x53 tag .notFound .nothing t))
      ∧ ∀ p, s.persons.get (v.nat 1) = some p →
        let after := presenceOf (v.nat 2)
        (after = p.att.presence → exec (.setPresence tag body) s = .next (answered 0x53 tag .done (.presence p.att.presence) t))
        ∧ (after ≠ p.att.presence → exec (.setPresence tag body) s = .next (answered 0x53 tag .done (.presence p.att.presence)
            (changePresence (v.nat 1) p after s.scl.voyage none false t))))
    ∧ (decodeFields setAllAboardFields body = .ok v →
      let armed : State := { t with pru := { s.pru with timer := .armed (v.nat 1), newlyMarked := 0 } }
      (s.pru.timer = .clear → exec (.setAllAboard tag body) s = .next (answered 0x56 tag .done .nothing armed))
      ∧ (∀ d, s.pru.timer = .expired d → exec (.setAllAboard tag body) s = .next (answered 0x56 tag .done .nothing armed))
      ∧ (∀ d, s.pru.timer = .armed d → exec (.setAllAboard tag body) s =
          .next (answered 0x56 tag .done .nothing (setTimer (.armed (v.nat 1)) t)))
      ∧ (∀ d, s.pru.timer = .running d → exec (.setAllAboard tag body) s =
          .next (answered 0x56 tag .done .nothing (setTimer (.running (v.nat 1)) t)))
      ∧ ∀ d w, s.pru.timer = .expiring d w → exec (.setAllAboard tag body) s = .next (answered 0x56 tag .notNow .nothing t))
    ∧ (∀ d, s.pru.timer = .armed d ∨ s.pru.timer = .running d →
        exec (.cancelAllAboard tag []) s = .next (answered 0x57 tag .done .nothing (setTimer .clear t))
        ∧ exec (.clearTimer tag []) s = .next (answered 0x58 tag .notNow .nothing t))
    ∧ (s.pru.timer = .clear → exec (.cancelAllAboard tag []) s = .next (answered 0x57 tag .notFound .nothing t)
        ∧ exec (.clearTimer tag []) s = .next (answered 0x58 tag .done .nothing t))
    ∧ (∀ d, s.pru.timer = .expired d → exec (.cancelAllAboard tag []) s = .next (answered 0x57 tag .notNow .nothing t)
        ∧ exec (.clearTimer tag []) s = .next (answered 0x58 tag .done .nothing (setTimer .clear t)))
    ∧ (∀ d w, s.pru.timer = .expiring d w → exec (.cancelAllAboard tag []) s = .next (answered 0x57 tag .notNow .nothing t)
        ∧ exec (.clearTimer tag []) s = .next (answered 0x58 tag .notNow .nothing t)
        ∧ exec (.clearMissing tag []) s = .next (answered 0x59 tag .notNow .nothing t))
    ∧ ((∀ d w, s.pru.timer ≠ .expiring d w) → exec (.clearMissing tag []) s =
        .next (answered 0x59 tag .done (.missingCount s.pru.missingCount)
          { t with persons := s.persons.map (fun e => (e.1, { e.2 with att := { e.2.att with missing := false } })),
                   pru := { s.pru with missingCount := 0 } }))

/-! ### The journal and the transfers (chapters 9 and 10) -/

/-- DRAIN with its NEXT (R178 to R180), and RELEASE (R181). -/
def Obligations.DrainReadsAndReleaseFrees : Prop :=
  ∀ (s : State) (tag : Byte) (body : List Byte) (v : Values),
    let t := heard .service s
    let j := s.jnl
    let ahead (q : Word32) : Nat := (q - j.released).toNat
    let frame (code : Byte) (position : Word32) (remaining : Nat) : State :=
      let k := min (min 8 remaining) (ahead j.next - ahead position)
      let after := position + BitVec.ofNat 32 k
      let fin := decide (remaining = k ∨ after = j.next)
      answered code tag .done (.records ((List.range k).filterMap (fun d => j.recordAt (position + BitVec.ofNat 32 d))) fin)
        { t with jnl := { j with delivered := if ahead j.delivered < ahead after then after else j.delivered },
                 slc := { s.slc with transfer := if fin then none else some (.drain after (remaining - k) (after - 1)), windowMs := none } }
    (s.ready = true → decodeFields drainFields body = .ok v → j.used ≤ 16384 →
      (ahead (v.word 1) < j.used → exec (.drain tag body) s = .next (frame 0x60 (v.word 1) (v.nat 2)))
      ∧ (j.used ≤ ahead (v.word 1) → exec (.drain tag body) s = .next (answered 0x60 tag .range (.pointers j.released j.next) t)))
    ∧ (∀ position remaining last, s.boundary = none → s.slc.exchange = false → s.slc.transfer = some (.drain position remaining last) →
        j.used ≤ 16384 → ahead position < j.used → 0 < remaining → exec (.next tag []) s = .next (frame 0x70 position remaining))
    ∧ (s.ready = true → decodeFields releaseFields body = .ok v →
      let d := ahead (v.word 1)
      (ahead j.delivered ≤ d → d < 2147483648 → exec (.release tag body) s = .next (answered 0x61 tag .range (.pointers j.released j.delivered) t))
      ∧ (ahead j.delivered ≤ d → 2147483648 ≤ d → exec (.release tag body) s = .next (answered 0x61 tag .done (.released j.released j.used) t))
      ∧ (d < ahead j.delivered → j.lawful → ∃ ring, exec (.release tag body) s =
          .next (answered 0x61 tag .done (.released (v.word 1 + 1) (j.used - (d + 1))) { t with jnl := { j with released := v.word 1 + 1, ring := ring } })
          ∧ (∀ i < j.used, i ≤ d → ring.get ((j.released + BitVec.ofNat 32 i).toNat % 16384) = none)
          ∧ ∀ i < j.used, d < i → ring.get ((j.released + BitVec.ofNat 32 i).toNat % 16384) = j.recordAt (j.released + BitVec.ofNat 32 i)))

/-- SCAN FOLIOS and READ MISSING with their NEXT (R85, R86, R164), STOP, and the end of the service window (R180, R191, R194). That bits 0,
1 and 2 of the state filter stand for OPEN, FROZEN and CLOSED is the model's reading (log 55). -/
def Obligations.WalksStopsAndWindows : Prop :=
  (∀ (s : State) (tag : Byte) (body : List Byte) (v : Values),
    let t := heard .service s
    let walk (code : Byte) (limit fin : Nat) (hits : List Nat) (again : Nat → Transfer) : State :=
      let full := limit ≤ hits.length
      let last := if full then (hits.take limit).getLastD fin else fin
      answered code tag .done (.numbers (hits.take limit) last (decide (fin ≤ last)))
        { t with slc := { s.slc with transfer := if fin ≤ last then none else some (again last), windowMs := none } }
    let isMatch (q : ScanQuery) (f : Folio) : Bool :=
      (match f.state with | .opened => q.inOpen | .frozen => q.inFrozen | .closed => q.inClosed)
      && (match q.condition with
          | .balanceAtLeast => decide (q.x ≤ f.balance) | .balanceAtMost => decide (f.balance ≤ q.x) | .balanceEqual => decide (f.balance = q.x)
          | .availableAtMost => decide (f.limit - f.balance - (f.holds.map (·.amount)).sum ≤ q.x))
    let folios (q : ScanQuery) (first : Nat) : List Nat := (s.fst.folios.filter (fun e => decide (first ≤ e.1) && isMatch q e.2)).map (·.1)
    let missing (first : Nat) : List Nat := (s.persons.filter (fun e => decide (first ≤ e.1) && e.2.att.missing)).map (·.1)
    (s.ready = true → decodeFields scanFoliosFields body = .ok v →
      let q : ScanQuery := { condition := conditionOf (v.nat 1), x := v.int 2, inOpen := (v.nat 3).testBit 0, inFrozen := (v.nat 3).testBit 1,
                             inClosed := (v.nat 3).testBit 2 }
      exec (.scanFolios tag body) s = .next (walk 0x2C 32 4000 (folios q (v.nat 4)) (fun last => .scan q (last + 1) last)))
    ∧ (s.ready = true → decodeFields readMissingFields body = .ok v →
      exec (.readMissing tag body) s = .next (walk 0x5A 64 8000 (missing (v.nat 1)) (fun last => .missing (last + 1) last)))
    ∧ (s.boundary = none → s.slc.exchange = false →
      (∀ q first last, s.slc.transfer = some (.scan q first last) →
        exec (.next tag []) s = .next (walk 0x70 32 4000 (folios q first) (fun last => .scan q (last + 1) last)))
      ∧ (∀ first last, s.slc.transfer = some (.missing first last) →
        exec (.next tag []) s = .next (walk 0x70 64 8000 (missing first) (fun last => .missing (last + 1) last)))
      ∧ ∀ tr, s.slc.transfer = some tr → exec (.stop tag []) s = .next (answered 0x71 tag .done
          (match tr with | .drain _ _ last => .lastSequence last | .scan _ _ last => .lastVisited last | .missing _ last => .lastVisited last
                         | .load _ _ next _ => .nextIndex next)
          { t with slc := { s.slc with transfer := none, windowMs := none } })))
  ∧ ∀ (s : State) (tr : Transfer) (ms : Nat), s.boundary = none → s.slc.transfer = some tr → s.slc.windowMs = some ms →
    let u : State := { s with slc := { s.slc with transfer := none, windowMs := none } }
    exec .serviceWindowExpiry s = .next (match tr with
      | .drain _ _ last => raise .drainOverrun last {} u
      | .load table _ next _ => raise .loadOverrun (BitVec.ofNat 32 (match table with
          | .persons => 0 | .cards => 1 | .folios => 2 | .cabins => 3 | .bindings => 4)) (detail next) u
      | .scan _ _ _ => u
      | .missing _ _ => u)

/-- LOAD and LOAD ITEM (R192, R193): READY; an item executed as its single request and its verdict stored; a verdict given again; RANGE.
The model's readings: an item of another index is answered without judging its fields (log 37), and a MALFORMED item is the reply of an exchange, which stops the service
window (log 38). -/
def Obligations.LoadTakesItemsOnce : Prop :=
  (∀ (s : State) (tag : Byte) (body : List Byte) (v : Values), s.ready = true → decodeFields loadFields body = .ok v →
    exec (.load tag body) s = .next (answered 0x72 tag .ready (.nextIndex 1) { heard .service s with
      slc := { s.slc with transfer := some (.load (loadTableOf (v.nat 1)) (v.nat 2) 1 none), windowMs := none } }))
  ∧ ∀ (s : State) (tag : Byte) (body : List Byte) (table : LoadTable) (count next index : Nat) (stored : Option StoredVerdict), s.boundary = none →
    s.slc.exchange = false → s.slc.transfer = some (.load table count next stored) → judgeItem table body = .ok index →
    let t := { heard .service s with slc := { s.slc with windowMs := none } }
    let keeps (e : Status) (x : Payload) : Prop := exec (.loadItem tag body) s = .next (answered 0x73 tag e x t)
    (∀ i, index = next → decodeFieldsFrom 2 (itemFields table) (body.drop 2) = .error i → keeps .malformed (.field i))
    ∧ (∀ v, index = next → decodeFieldsFrom 2 (itemFields table) (body.drop 2) = .ok v →
      let r := match table with
        | .persons => addPerson v t | .cards => issueCard v t | .folios => openFolio v t | .cabins => addCabin v t | .bindings => bind v t
      let fin := decide (index = count)
      exec (.loadItem tag body) s = .next (answered 0x73 tag r.1.status (.item r.1.payload index (next + 1) fin) { r.2 with
        slc := { s.slc with transfer := if fin then none else some (.load table count (next + 1) (some ⟨r.1.status, r.1.payload⟩)),
                            windowMs := none } }))
    ∧ (∀ w, index + 1 = next → stored = some w → keeps w.status (.item w.payload index next false))
    ∧ (index ≠ next → (index + 1 ≠ next ∨ stored = none) → keeps .range (.nextIndex next))

/-! ### Attention and service (chapter 10) -/

/-- SENSE and SET PRIORITY (R196 to R198): the choice, the record removed, ATTN, and BUSY while an exchange or a transfer is open. -/
def Obligations.SenseTakesTheFirstCause : Prop :=
  (∀ (a : Atu),
    (a.chosen = none ↔ ∀ e ∈ a.causes.toList, e.pending = none)
    ∧ ∀ c, a.chosen = some c ↔ ∃ i : Fin 25, c.number = i.val + 1 ∧ a.causes[i].pending = some c.record ∧ a.causes[i].priority = c.priority
      ∧ ∀ k : Fin 25, a.causes[k].pending ≠ none → a.causes[k].priority < c.priority ∨ (a.causes[k].priority = c.priority ∧ i ≤ k))
  ∧ ∀ (s : State) (tag : Byte) (body : List Byte) (v : Values), s.ready = true →
    let t := heard .service s
    let changes (code : Byte) (x : Payload) (i : Fin 25) (e : CauseEntry) : Prop := ∃ a : Atu,
      (if code = 0x74 then exec (.sense tag []) s else exec (.setPriority tag body) s) = .next (answered code tag .done x { t with atu := a })
      ∧ a.causes[i] = e ∧ (∀ k : Fin 25, k ≠ i → a.causes[k] = s.atu.causes[k]) ∧ (a.attn = true ↔ ∃ k : Fin 25, a.causes[k].pending ≠ none)
    (∀ u : State, u.boundary = none → u.linkFree = false →
        exec (.sense tag []) u = .next (turnedAway 0x74 tag .busy .nothing (heard .service u)))
    ∧ (s.atu.chosen = none → exec (.sense tag []) s = .next (answered 0x74 tag .done .noCause t))
    ∧ (∀ c i, s.atu.chosen = some c → c.number = (i : Fin 25).val + 1 →
        changes 0x74 (.cause c.number c.priority c.record) i { s.atu.causes[i] with pending := none })
    ∧ (decodeFields setPriorityFields body = .ok v → ∀ i : Fin 25, v.nat 1 = i.val + 1 →
        changes 0x75 (.priority s.atu.causes[i].priority) i
          { priority := v.nat 2, pending := if v.nat 2 = 0 then none else s.atu.causes[i].pending })

/-- START SERVICE (R38, R199). -/
def Obligations.StartServiceOpensTheService : Prop :=
  ∀ (s : State) (tag : Byte) (body : List Byte) (v : Values), s.ready = true → decodeFields startServiceFields body = .ok v →
    (s.slc.service = .serving → exec (.startService tag body) s = .next (answered 0x77 tag .notNow .nothing (heard .service s)))
    ∧ (s.slc.service = .loading → ∃ t p, exec (.startService tag body) s = .next t
      ∧ t.slc = { s.slc with service := .serving, exchange := true }
      ∧ t.scl = { s.scl with folioDay := v.nat 1, closeHeld := false, closePoint := some p }
      ∧ (let after := s.scl.lastClose.elim (s.scl.voyage + 60 * s.scl.offset) (·.atLocal)
         after < p ∧ p ≤ after + 86400 ∧ (p - 3600 * s.scl.closeHour) % 86400 = 0)
      ∧ t.txOf .service = s.txOf .service ++ [replyFrame 0x77 tag .done .nothing true]
      ∧ (∀ g : Fin 4, let x := s.pru.stations[g]
          if x.attached = .attached ∧ x.shortSeen = true ∧ x.fetch = .none
          then t.pru.stations[g] = { x with shortSeen := false, fetch := .waiting .toBegin } ∧ t.txOf (.station g) = s.txOf (.station g) ++ [.fetch]
          else t.pru.stations[g] = x ∧ t.txOf (.station g) = s.txOf (.station g))
      ∧ t.pru.counts = s.pru.counts ∧ t.pru.timer = s.pru.timer ∧ t.atu = s.atu ∧ t.crg = s.crg ∧ t.persons = s.persons ∧ t.chu = s.chu
      ∧ t.pru.newlyMarked = s.pru.newlyMarked ∧ t.pru.missingCount = s.pru.missingCount ∧ t.fst = s.fst ∧ t.cau = s.cau ∧ t.lscs = s.lscs
      ∧ t.jnl = s.jnl ∧ t.ports.rx = (heard .service s).ports.rx ∧ (∀ p, p ≠ .service → (∀ g, p ≠ .station g) → t.txOf p = s.txOf p)
      ∧ t.boundary = none ∧ t.free = s.free ∧ t.lines = s.lines ∧ t.pending = s.pending)

/-! ### The laws that every step keeps -/

/-- ATTN is active exactly while a cause is pending, and every cause keeps its ranges (R195, R196, R198). -/
def Obligations.EveryStepKeepsAttention : Prop := ∀ s t : State, step s = .next t → s.atu.lawful = true → t.atu.lawful = true

/-- The journal keeps its pointers in order, at most 16,384 unreleased records, and every one of them in its slot (R171, R173). -/
def Obligations.EveryStepKeepsTheJournal : Prop := ∀ s t : State, step s = .next t → s.jnl.lawful → t.jnl.lawful

/-- Every table keeps its canonical form, the model's own (log 42), so that a number names at most one record. -/
def Obligations.EveryStepKeepsTheTables : Prop := ∀ s t : State, step s = .next t → s.canonical = true → t.canonical = true

/-- Every folio keeps the laws of R65, R70 and R71. -/
def Obligations.EveryStepKeepsTheFolios : Prop := ∀ s t : State, step s = .next t → s.folioLaw → t.folioLaw

/-- The presence counts and the missing count are true counts (R157, R163), and no ACTIVE or SUSPENDED card belongs to a DEPARTED person (R8). -/
def Obligations.EveryStepKeepsPresence : Prop :=
  ∀ s t : State, step s = .next t → s.presenceLaw ∧ s.departureLaw → t.presenceLaw ∧ t.departureLaw

/-- The binding lists of cabins and persons mirror each other (R111), and the poll lists the cabin table (R110). -/
def Obligations.EveryStepKeepsTheCabins : Prop :=
  ∀ s t : State, step s = .next t → s.bindingLaw ∧ s.pollLaw → t.bindingLaw ∧ t.pollLaw

/-- The ring's law holds at every moment, in a shift as outside a purge, and with it a search finds every card where it stands (R3, R4, R19, R20). -/
def Obligations.EveryStepKeepsTheRing : Prop :=
  (∀ s t : State, step s = .next t → s.crg.lawful → t.crg.lawful)
  ∧ ∀ g : Crg, g.lawful → ∀ e ∈ g.ring, g.search e.2.serial = .found e.1 e.2

/-- The laws hold at reset. -/
def Obligations.ResetKeepsTheLaws : Prop :=
  State.reset.atu.lawful = true ∧ State.reset.jnl.lawful ∧ State.reset.canonical = true ∧ State.reset.folioLaw ∧ State.reset.presenceLaw
  ∧ State.reset.departureLaw ∧ State.reset.bindingLaw ∧ State.reset.pollLaw ∧ State.reset.crg.lawful

end Slice0Statements
end

