-- ==== Sys2Proof/Laws/State.lean ====
section
/-! SUPPORT. One lemma for each field of the state after each named update, true by unfolding. -/
namespace Sys2Proof.Machine

/-! ### setRx -/

@[simp] theorem setRx_slc (p : Port) (r : Receiver) (s : State) : (setRx p r s).slc = s.slc := rfl
@[simp] theorem setRx_atu (p : Port) (r : Receiver) (s : State) : (setRx p r s).atu = s.atu := rfl
@[simp] theorem setRx_crg (p : Port) (r : Receiver) (s : State) : (setRx p r s).crg = s.crg := rfl
@[simp] theorem setRx_persons (p : Port) (r : Receiver) (s : State) : (setRx p r s).persons = s.persons := rfl
@[simp] theorem setRx_scl (p : Port) (r : Receiver) (s : State) : (setRx p r s).scl = s.scl := rfl
@[simp] theorem setRx_chu (p : Port) (r : Receiver) (s : State) : (setRx p r s).chu = s.chu := rfl
@[simp] theorem setRx_fst (p : Port) (r : Receiver) (s : State) : (setRx p r s).fst = s.fst := rfl
@[simp] theorem setRx_cau (p : Port) (r : Receiver) (s : State) : (setRx p r s).cau = s.cau := rfl
@[simp] theorem setRx_lscs (p : Port) (r : Receiver) (s : State) : (setRx p r s).lscs = s.lscs := rfl
@[simp] theorem setRx_pru (p : Port) (r : Receiver) (s : State) : (setRx p r s).pru = s.pru := rfl
@[simp] theorem setRx_jnl (p : Port) (r : Receiver) (s : State) : (setRx p r s).jnl = s.jnl := rfl
@[simp] theorem setRx_ports (p : Port) (r : Receiver) (s : State) : (setRx p r s).ports = { s.ports with rx := s.ports.rx.set (portIndex p) r } := rfl
@[simp] theorem setRx_boundary (p : Port) (r : Receiver) (s : State) : (setRx p r s).boundary = s.boundary := rfl
@[simp] theorem setRx_free (p : Port) (r : Receiver) (s : State) : (setRx p r s).free = s.free := rfl
@[simp] theorem setRx_lines (p : Port) (r : Receiver) (s : State) : (setRx p r s).lines = s.lines := rfl
@[simp] theorem setRx_pending (p : Port) (r : Receiver) (s : State) : (setRx p r s).pending = s.pending := rfl

/-! ### setTx -/

@[simp] theorem setTx_slc (p : Port) (q : List Frame) (s : State) : (setTx p q s).slc = s.slc := rfl
@[simp] theorem setTx_atu (p : Port) (q : List Frame) (s : State) : (setTx p q s).atu = s.atu := rfl
@[simp] theorem setTx_crg (p : Port) (q : List Frame) (s : State) : (setTx p q s).crg = s.crg := rfl
@[simp] theorem setTx_persons (p : Port) (q : List Frame) (s : State) : (setTx p q s).persons = s.persons := rfl
@[simp] theorem setTx_scl (p : Port) (q : List Frame) (s : State) : (setTx p q s).scl = s.scl := rfl
@[simp] theorem setTx_chu (p : Port) (q : List Frame) (s : State) : (setTx p q s).chu = s.chu := rfl
@[simp] theorem setTx_fst (p : Port) (q : List Frame) (s : State) : (setTx p q s).fst = s.fst := rfl
@[simp] theorem setTx_cau (p : Port) (q : List Frame) (s : State) : (setTx p q s).cau = s.cau := rfl
@[simp] theorem setTx_lscs (p : Port) (q : List Frame) (s : State) : (setTx p q s).lscs = s.lscs := rfl
@[simp] theorem setTx_pru (p : Port) (q : List Frame) (s : State) : (setTx p q s).pru = s.pru := rfl
@[simp] theorem setTx_jnl (p : Port) (q : List Frame) (s : State) : (setTx p q s).jnl = s.jnl := rfl
@[simp] theorem setTx_ports (p : Port) (q : List Frame) (s : State) : (setTx p q s).ports = { s.ports with tx := s.ports.tx.set (portIndex p) q } := rfl
@[simp] theorem setTx_boundary (p : Port) (q : List Frame) (s : State) : (setTx p q s).boundary = s.boundary := rfl
@[simp] theorem setTx_free (p : Port) (q : List Frame) (s : State) : (setTx p q s).free = s.free := rfl
@[simp] theorem setTx_lines (p : Port) (q : List Frame) (s : State) : (setTx p q s).lines = s.lines := rfl
@[simp] theorem setTx_pending (p : Port) (q : List Frame) (s : State) : (setTx p q s).pending = s.pending := rfl

/-! ### send -/

@[simp] theorem send_slc (p : Port) (f : Frame) (s : State) : (send p f s).slc = s.slc := rfl
@[simp] theorem send_atu (p : Port) (f : Frame) (s : State) : (send p f s).atu = s.atu := rfl
@[simp] theorem send_crg (p : Port) (f : Frame) (s : State) : (send p f s).crg = s.crg := rfl
@[simp] theorem send_persons (p : Port) (f : Frame) (s : State) : (send p f s).persons = s.persons := rfl
@[simp] theorem send_scl (p : Port) (f : Frame) (s : State) : (send p f s).scl = s.scl := rfl
@[simp] theorem send_chu (p : Port) (f : Frame) (s : State) : (send p f s).chu = s.chu := rfl
@[simp] theorem send_fst (p : Port) (f : Frame) (s : State) : (send p f s).fst = s.fst := rfl
@[simp] theorem send_cau (p : Port) (f : Frame) (s : State) : (send p f s).cau = s.cau := rfl
@[simp] theorem send_lscs (p : Port) (f : Frame) (s : State) : (send p f s).lscs = s.lscs := rfl
@[simp] theorem send_pru (p : Port) (f : Frame) (s : State) : (send p f s).pru = s.pru := rfl
@[simp] theorem send_jnl (p : Port) (f : Frame) (s : State) : (send p f s).jnl = s.jnl := rfl
@[simp] theorem send_ports (p : Port) (f : Frame) (s : State) : (send p f s).ports = { s.ports with tx := s.ports.tx.set (portIndex p) (s.ports.tx[portIndex p] ++ [f]) } := rfl
@[simp] theorem send_boundary (p : Port) (f : Frame) (s : State) : (send p f s).boundary = s.boundary := rfl
@[simp] theorem send_free (p : Port) (f : Frame) (s : State) : (send p f s).free = s.free := rfl
@[simp] theorem send_lines (p : Port) (f : Frame) (s : State) : (send p f s).lines = s.lines := rfl
@[simp] theorem send_pending (p : Port) (f : Frame) (s : State) : (send p f s).pending = s.pending := rfl

/-! ### heard -/

@[simp] theorem heard_slc (p : Port) (s : State) : (heard p s).slc = s.slc := rfl
@[simp] theorem heard_atu (p : Port) (s : State) : (heard p s).atu = s.atu := rfl
@[simp] theorem heard_crg (p : Port) (s : State) : (heard p s).crg = s.crg := rfl
@[simp] theorem heard_persons (p : Port) (s : State) : (heard p s).persons = s.persons := rfl
@[simp] theorem heard_scl (p : Port) (s : State) : (heard p s).scl = s.scl := rfl
@[simp] theorem heard_chu (p : Port) (s : State) : (heard p s).chu = s.chu := rfl
@[simp] theorem heard_fst (p : Port) (s : State) : (heard p s).fst = s.fst := rfl
@[simp] theorem heard_cau (p : Port) (s : State) : (heard p s).cau = s.cau := rfl
@[simp] theorem heard_lscs (p : Port) (s : State) : (heard p s).lscs = s.lscs := rfl
@[simp] theorem heard_pru (p : Port) (s : State) : (heard p s).pru = s.pru := rfl
@[simp] theorem heard_jnl (p : Port) (s : State) : (heard p s).jnl = s.jnl := rfl
@[simp] theorem heard_ports (p : Port) (s : State) : (heard p s).ports = { s.ports with rx := s.ports.rx.set (portIndex p) .hunting } := rfl
@[simp] theorem heard_boundary (p : Port) (s : State) : (heard p s).boundary = s.boundary := rfl
@[simp] theorem heard_free (p : Port) (s : State) : (heard p s).free = s.free := rfl
@[simp] theorem heard_lines (p : Port) (s : State) : (heard p s).lines = s.lines := rfl
@[simp] theorem heard_pending (p : Port) (s : State) : (heard p s).pending = s.pending := rfl

/-! ### formed -/

@[simp] theorem formed_slc (p : Port) (f : Frame) (s : State) : (formed p f s).slc = s.slc := rfl
@[simp] theorem formed_atu (p : Port) (f : Frame) (s : State) : (formed p f s).atu = s.atu := rfl
@[simp] theorem formed_crg (p : Port) (f : Frame) (s : State) : (formed p f s).crg = s.crg := rfl
@[simp] theorem formed_persons (p : Port) (f : Frame) (s : State) : (formed p f s).persons = s.persons := rfl
@[simp] theorem formed_scl (p : Port) (f : Frame) (s : State) : (formed p f s).scl = s.scl := rfl
@[simp] theorem formed_chu (p : Port) (f : Frame) (s : State) : (formed p f s).chu = s.chu := rfl
@[simp] theorem formed_fst (p : Port) (f : Frame) (s : State) : (formed p f s).fst = s.fst := rfl
@[simp] theorem formed_cau (p : Port) (f : Frame) (s : State) : (formed p f s).cau = s.cau := rfl
@[simp] theorem formed_lscs (p : Port) (f : Frame) (s : State) : (formed p f s).lscs = s.lscs := rfl
@[simp] theorem formed_pru (p : Port) (f : Frame) (s : State) : (formed p f s).pru = s.pru := rfl
@[simp] theorem formed_jnl (p : Port) (f : Frame) (s : State) : (formed p f s).jnl = s.jnl := rfl
@[simp] theorem formed_ports (p : Port) (f : Frame) (s : State) : (formed p f s).ports = { s.ports with tx := s.ports.tx.set (portIndex p) (s.ports.tx[portIndex p] ++ [f]) } := rfl
@[simp] theorem formed_boundary (p : Port) (f : Frame) (s : State) : (formed p f s).boundary = s.boundary := rfl
@[simp] theorem formed_free (p : Port) (f : Frame) (s : State) : (formed p f s).free = s.free := rfl
@[simp] theorem formed_lines (p : Port) (f : Frame) (s : State) : (formed p f s).lines = s.lines := rfl
@[simp] theorem formed_pending (p : Port) (f : Frame) (s : State) : (formed p f s).pending = s.pending := rfl

/-! ### useFree -/

@[simp] theorem useFree_slc (s : State) : (useFree s).slc = s.slc := rfl
@[simp] theorem useFree_atu (s : State) : (useFree s).atu = s.atu := rfl
@[simp] theorem useFree_crg (s : State) : (useFree s).crg = s.crg := rfl
@[simp] theorem useFree_persons (s : State) : (useFree s).persons = s.persons := rfl
@[simp] theorem useFree_scl (s : State) : (useFree s).scl = s.scl := rfl
@[simp] theorem useFree_chu (s : State) : (useFree s).chu = s.chu := rfl
@[simp] theorem useFree_fst (s : State) : (useFree s).fst = s.fst := rfl
@[simp] theorem useFree_cau (s : State) : (useFree s).cau = s.cau := rfl
@[simp] theorem useFree_lscs (s : State) : (useFree s).lscs = s.lscs := rfl
@[simp] theorem useFree_pru (s : State) : (useFree s).pru = s.pru := rfl
@[simp] theorem useFree_jnl (s : State) : (useFree s).jnl = s.jnl := rfl
@[simp] theorem useFree_ports (s : State) : (useFree s).ports = s.ports := rfl
@[simp] theorem useFree_boundary (s : State) : (useFree s).boundary = s.boundary := rfl
@[simp] theorem useFree_free (s : State) : (useFree s).free = s.free + 1 := rfl
@[simp] theorem useFree_lines (s : State) : (useFree s).lines = s.lines := rfl
@[simp] theorem useFree_pending (s : State) : (useFree s).pending = s.pending := rfl

/-! ### putCard -/

@[simp] theorem putCard_slc (n : Nat) (c : Card) (s : State) : (putCard n c s).slc = s.slc := rfl
@[simp] theorem putCard_atu (n : Nat) (c : Card) (s : State) : (putCard n c s).atu = s.atu := rfl
@[simp] theorem putCard_crg (n : Nat) (c : Card) (s : State) : (putCard n c s).crg = { s.crg with ring := s.crg.ring.set n c } := rfl
@[simp] theorem putCard_persons (n : Nat) (c : Card) (s : State) : (putCard n c s).persons = s.persons := rfl
@[simp] theorem putCard_scl (n : Nat) (c : Card) (s : State) : (putCard n c s).scl = s.scl := rfl
@[simp] theorem putCard_chu (n : Nat) (c : Card) (s : State) : (putCard n c s).chu = s.chu := rfl
@[simp] theorem putCard_fst (n : Nat) (c : Card) (s : State) : (putCard n c s).fst = s.fst := rfl
@[simp] theorem putCard_cau (n : Nat) (c : Card) (s : State) : (putCard n c s).cau = s.cau := rfl
@[simp] theorem putCard_lscs (n : Nat) (c : Card) (s : State) : (putCard n c s).lscs = s.lscs := rfl
@[simp] theorem putCard_pru (n : Nat) (c : Card) (s : State) : (putCard n c s).pru = s.pru := rfl
@[simp] theorem putCard_jnl (n : Nat) (c : Card) (s : State) : (putCard n c s).jnl = s.jnl := rfl
@[simp] theorem putCard_ports (n : Nat) (c : Card) (s : State) : (putCard n c s).ports = s.ports := rfl
@[simp] theorem putCard_boundary (n : Nat) (c : Card) (s : State) : (putCard n c s).boundary = s.boundary := rfl
@[simp] theorem putCard_free (n : Nat) (c : Card) (s : State) : (putCard n c s).free = s.free := rfl
@[simp] theorem putCard_lines (n : Nat) (c : Card) (s : State) : (putCard n c s).lines = s.lines := rfl
@[simp] theorem putCard_pending (n : Nat) (c : Card) (s : State) : (putCard n c s).pending = s.pending := rfl

/-! ### setPurge -/

@[simp] theorem setPurge_slc (q : Purge) (s : State) : (setPurge q s).slc = s.slc := rfl
@[simp] theorem setPurge_atu (q : Purge) (s : State) : (setPurge q s).atu = s.atu := rfl
@[simp] theorem setPurge_crg (q : Purge) (s : State) : (setPurge q s).crg = { s.crg with purge := q } := rfl
@[simp] theorem setPurge_persons (q : Purge) (s : State) : (setPurge q s).persons = s.persons := rfl
@[simp] theorem setPurge_scl (q : Purge) (s : State) : (setPurge q s).scl = s.scl := rfl
@[simp] theorem setPurge_chu (q : Purge) (s : State) : (setPurge q s).chu = s.chu := rfl
@[simp] theorem setPurge_fst (q : Purge) (s : State) : (setPurge q s).fst = s.fst := rfl
@[simp] theorem setPurge_cau (q : Purge) (s : State) : (setPurge q s).cau = s.cau := rfl
@[simp] theorem setPurge_lscs (q : Purge) (s : State) : (setPurge q s).lscs = s.lscs := rfl
@[simp] theorem setPurge_pru (q : Purge) (s : State) : (setPurge q s).pru = s.pru := rfl
@[simp] theorem setPurge_jnl (q : Purge) (s : State) : (setPurge q s).jnl = s.jnl := rfl
@[simp] theorem setPurge_ports (q : Purge) (s : State) : (setPurge q s).ports = s.ports := rfl
@[simp] theorem setPurge_boundary (q : Purge) (s : State) : (setPurge q s).boundary = s.boundary := rfl
@[simp] theorem setPurge_free (q : Purge) (s : State) : (setPurge q s).free = s.free := rfl
@[simp] theorem setPurge_lines (q : Purge) (s : State) : (setPurge q s).lines = s.lines := rfl
@[simp] theorem setPurge_pending (q : Purge) (s : State) : (setPurge q s).pending = s.pending := rfl

/-! ### putPerson -/

@[simp] theorem putPerson_slc (n : Nat) (q : Person) (s : State) : (putPerson n q s).slc = s.slc := rfl
@[simp] theorem putPerson_atu (n : Nat) (q : Person) (s : State) : (putPerson n q s).atu = s.atu := rfl
@[simp] theorem putPerson_crg (n : Nat) (q : Person) (s : State) : (putPerson n q s).crg = s.crg := rfl
@[simp] theorem putPerson_persons (n : Nat) (q : Person) (s : State) : (putPerson n q s).persons = s.persons.set n q := rfl
@[simp] theorem putPerson_scl (n : Nat) (q : Person) (s : State) : (putPerson n q s).scl = s.scl := rfl
@[simp] theorem putPerson_chu (n : Nat) (q : Person) (s : State) : (putPerson n q s).chu = s.chu := rfl
@[simp] theorem putPerson_fst (n : Nat) (q : Person) (s : State) : (putPerson n q s).fst = s.fst := rfl
@[simp] theorem putPerson_cau (n : Nat) (q : Person) (s : State) : (putPerson n q s).cau = s.cau := rfl
@[simp] theorem putPerson_lscs (n : Nat) (q : Person) (s : State) : (putPerson n q s).lscs = s.lscs := rfl
@[simp] theorem putPerson_pru (n : Nat) (q : Person) (s : State) : (putPerson n q s).pru = s.pru := rfl
@[simp] theorem putPerson_jnl (n : Nat) (q : Person) (s : State) : (putPerson n q s).jnl = s.jnl := rfl
@[simp] theorem putPerson_ports (n : Nat) (q : Person) (s : State) : (putPerson n q s).ports = s.ports := rfl
@[simp] theorem putPerson_boundary (n : Nat) (q : Person) (s : State) : (putPerson n q s).boundary = s.boundary := rfl
@[simp] theorem putPerson_free (n : Nat) (q : Person) (s : State) : (putPerson n q s).free = s.free := rfl
@[simp] theorem putPerson_lines (n : Nat) (q : Person) (s : State) : (putPerson n q s).lines = s.lines := rfl
@[simp] theorem putPerson_pending (n : Nat) (q : Person) (s : State) : (putPerson n q s).pending = s.pending := rfl

/-! ### putFolio -/

@[simp] theorem putFolio_slc (n : Nat) (f : Folio) (s : State) : (putFolio n f s).slc = s.slc := rfl
@[simp] theorem putFolio_atu (n : Nat) (f : Folio) (s : State) : (putFolio n f s).atu = s.atu := rfl
@[simp] theorem putFolio_crg (n : Nat) (f : Folio) (s : State) : (putFolio n f s).crg = s.crg := rfl
@[simp] theorem putFolio_persons (n : Nat) (f : Folio) (s : State) : (putFolio n f s).persons = s.persons := rfl
@[simp] theorem putFolio_scl (n : Nat) (f : Folio) (s : State) : (putFolio n f s).scl = s.scl := rfl
@[simp] theorem putFolio_chu (n : Nat) (f : Folio) (s : State) : (putFolio n f s).chu = s.chu := rfl
@[simp] theorem putFolio_fst (n : Nat) (f : Folio) (s : State) : (putFolio n f s).fst = { s.fst with folios := s.fst.folios.set n f } := rfl
@[simp] theorem putFolio_cau (n : Nat) (f : Folio) (s : State) : (putFolio n f s).cau = s.cau := rfl
@[simp] theorem putFolio_lscs (n : Nat) (f : Folio) (s : State) : (putFolio n f s).lscs = s.lscs := rfl
@[simp] theorem putFolio_pru (n : Nat) (f : Folio) (s : State) : (putFolio n f s).pru = s.pru := rfl
@[simp] theorem putFolio_jnl (n : Nat) (f : Folio) (s : State) : (putFolio n f s).jnl = s.jnl := rfl
@[simp] theorem putFolio_ports (n : Nat) (f : Folio) (s : State) : (putFolio n f s).ports = s.ports := rfl
@[simp] theorem putFolio_boundary (n : Nat) (f : Folio) (s : State) : (putFolio n f s).boundary = s.boundary := rfl
@[simp] theorem putFolio_free (n : Nat) (f : Folio) (s : State) : (putFolio n f s).free = s.free := rfl
@[simp] theorem putFolio_lines (n : Nat) (f : Folio) (s : State) : (putFolio n f s).lines = s.lines := rfl
@[simp] theorem putFolio_pending (n : Nat) (f : Folio) (s : State) : (putFolio n f s).pending = s.pending := rfl

/-! ### addToDay -/

@[simp] theorem addToDay_slc (x : Int) (s : State) : (addToDay x s).slc = s.slc := rfl
@[simp] theorem addToDay_atu (x : Int) (s : State) : (addToDay x s).atu = s.atu := rfl
@[simp] theorem addToDay_crg (x : Int) (s : State) : (addToDay x s).crg = s.crg := rfl
@[simp] theorem addToDay_persons (x : Int) (s : State) : (addToDay x s).persons = s.persons := rfl
@[simp] theorem addToDay_scl (x : Int) (s : State) : (addToDay x s).scl = s.scl := rfl
@[simp] theorem addToDay_chu (x : Int) (s : State) : (addToDay x s).chu = s.chu := rfl
@[simp] theorem addToDay_fst (x : Int) (s : State) : (addToDay x s).fst = s.fst.addToDay x := rfl
@[simp] theorem addToDay_cau (x : Int) (s : State) : (addToDay x s).cau = s.cau := rfl
@[simp] theorem addToDay_lscs (x : Int) (s : State) : (addToDay x s).lscs = s.lscs := rfl
@[simp] theorem addToDay_pru (x : Int) (s : State) : (addToDay x s).pru = s.pru := rfl
@[simp] theorem addToDay_jnl (x : Int) (s : State) : (addToDay x s).jnl = s.jnl := rfl
@[simp] theorem addToDay_ports (x : Int) (s : State) : (addToDay x s).ports = s.ports := rfl
@[simp] theorem addToDay_boundary (x : Int) (s : State) : (addToDay x s).boundary = s.boundary := rfl
@[simp] theorem addToDay_free (x : Int) (s : State) : (addToDay x s).free = s.free := rfl
@[simp] theorem addToDay_lines (x : Int) (s : State) : (addToDay x s).lines = s.lines := rfl
@[simp] theorem addToDay_pending (x : Int) (s : State) : (addToDay x s).pending = s.pending := rfl

/-! ### putTill -/

@[simp] theorem putTill_slc (n : Fin 128) (q : Till) (s : State) : (putTill n q s).slc = s.slc := rfl
@[simp] theorem putTill_atu (n : Fin 128) (q : Till) (s : State) : (putTill n q s).atu = s.atu := rfl
@[simp] theorem putTill_crg (n : Fin 128) (q : Till) (s : State) : (putTill n q s).crg = s.crg := rfl
@[simp] theorem putTill_persons (n : Fin 128) (q : Till) (s : State) : (putTill n q s).persons = s.persons := rfl
@[simp] theorem putTill_scl (n : Fin 128) (q : Till) (s : State) : (putTill n q s).scl = s.scl := rfl
@[simp] theorem putTill_chu (n : Fin 128) (q : Till) (s : State) : (putTill n q s).chu = { s.chu with tills := s.chu.tills.set n q } := rfl
@[simp] theorem putTill_fst (n : Fin 128) (q : Till) (s : State) : (putTill n q s).fst = s.fst := rfl
@[simp] theorem putTill_cau (n : Fin 128) (q : Till) (s : State) : (putTill n q s).cau = s.cau := rfl
@[simp] theorem putTill_lscs (n : Fin 128) (q : Till) (s : State) : (putTill n q s).lscs = s.lscs := rfl
@[simp] theorem putTill_pru (n : Fin 128) (q : Till) (s : State) : (putTill n q s).pru = s.pru := rfl
@[simp] theorem putTill_jnl (n : Fin 128) (q : Till) (s : State) : (putTill n q s).jnl = s.jnl := rfl
@[simp] theorem putTill_ports (n : Fin 128) (q : Till) (s : State) : (putTill n q s).ports = s.ports := rfl
@[simp] theorem putTill_boundary (n : Fin 128) (q : Till) (s : State) : (putTill n q s).boundary = s.boundary := rfl
@[simp] theorem putTill_free (n : Fin 128) (q : Till) (s : State) : (putTill n q s).free = s.free := rfl
@[simp] theorem putTill_lines (n : Fin 128) (q : Till) (s : State) : (putTill n q s).lines = s.lines := rfl
@[simp] theorem putTill_pending (n : Fin 128) (q : Till) (s : State) : (putTill n q s).pending = s.pending := rfl

/-! ### putVenue -/

@[simp] theorem putVenue_slc (n : Fin 64) (q : Venue) (s : State) : (putVenue n q s).slc = s.slc := rfl
@[simp] theorem putVenue_atu (n : Fin 64) (q : Venue) (s : State) : (putVenue n q s).atu = s.atu := rfl
@[simp] theorem putVenue_crg (n : Fin 64) (q : Venue) (s : State) : (putVenue n q s).crg = s.crg := rfl
@[simp] theorem putVenue_persons (n : Fin 64) (q : Venue) (s : State) : (putVenue n q s).persons = s.persons := rfl
@[simp] theorem putVenue_scl (n : Fin 64) (q : Venue) (s : State) : (putVenue n q s).scl = s.scl := rfl
@[simp] theorem putVenue_chu (n : Fin 64) (q : Venue) (s : State) : (putVenue n q s).chu = { s.chu with venues := s.chu.venues.set n q } := rfl
@[simp] theorem putVenue_fst (n : Fin 64) (q : Venue) (s : State) : (putVenue n q s).fst = s.fst := rfl
@[simp] theorem putVenue_cau (n : Fin 64) (q : Venue) (s : State) : (putVenue n q s).cau = s.cau := rfl
@[simp] theorem putVenue_lscs (n : Fin 64) (q : Venue) (s : State) : (putVenue n q s).lscs = s.lscs := rfl
@[simp] theorem putVenue_pru (n : Fin 64) (q : Venue) (s : State) : (putVenue n q s).pru = s.pru := rfl
@[simp] theorem putVenue_jnl (n : Fin 64) (q : Venue) (s : State) : (putVenue n q s).jnl = s.jnl := rfl
@[simp] theorem putVenue_ports (n : Fin 64) (q : Venue) (s : State) : (putVenue n q s).ports = s.ports := rfl
@[simp] theorem putVenue_boundary (n : Fin 64) (q : Venue) (s : State) : (putVenue n q s).boundary = s.boundary := rfl
@[simp] theorem putVenue_free (n : Fin 64) (q : Venue) (s : State) : (putVenue n q s).free = s.free := rfl
@[simp] theorem putVenue_lines (n : Fin 64) (q : Venue) (s : State) : (putVenue n q s).lines = s.lines := rfl
@[simp] theorem putVenue_pending (n : Fin 64) (q : Venue) (s : State) : (putVenue n q s).pending = s.pending := rfl

/-! ### setApproved -/

@[simp] theorem setApproved_slc (n : Fin 128) (a : Option Approved) (s : State) : (setApproved n a s).slc = s.slc := rfl
@[simp] theorem setApproved_atu (n : Fin 128) (a : Option Approved) (s : State) : (setApproved n a s).atu = s.atu := rfl
@[simp] theorem setApproved_crg (n : Fin 128) (a : Option Approved) (s : State) : (setApproved n a s).crg = s.crg := rfl
@[simp] theorem setApproved_persons (n : Fin 128) (a : Option Approved) (s : State) : (setApproved n a s).persons = s.persons := rfl
@[simp] theorem setApproved_scl (n : Fin 128) (a : Option Approved) (s : State) : (setApproved n a s).scl = s.scl := rfl
@[simp] theorem setApproved_chu (n : Fin 128) (a : Option Approved) (s : State) : (setApproved n a s).chu = { s.chu with tills := s.chu.tills.set n { s.till n with lastApproved := a } } := rfl
@[simp] theorem setApproved_fst (n : Fin 128) (a : Option Approved) (s : State) : (setApproved n a s).fst = s.fst := rfl
@[simp] theorem setApproved_cau (n : Fin 128) (a : Option Approved) (s : State) : (setApproved n a s).cau = s.cau := rfl
@[simp] theorem setApproved_lscs (n : Fin 128) (a : Option Approved) (s : State) : (setApproved n a s).lscs = s.lscs := rfl
@[simp] theorem setApproved_pru (n : Fin 128) (a : Option Approved) (s : State) : (setApproved n a s).pru = s.pru := rfl
@[simp] theorem setApproved_jnl (n : Fin 128) (a : Option Approved) (s : State) : (setApproved n a s).jnl = s.jnl := rfl
@[simp] theorem setApproved_ports (n : Fin 128) (a : Option Approved) (s : State) : (setApproved n a s).ports = s.ports := rfl
@[simp] theorem setApproved_boundary (n : Fin 128) (a : Option Approved) (s : State) : (setApproved n a s).boundary = s.boundary := rfl
@[simp] theorem setApproved_free (n : Fin 128) (a : Option Approved) (s : State) : (setApproved n a s).free = s.free := rfl
@[simp] theorem setApproved_lines (n : Fin 128) (a : Option Approved) (s : State) : (setApproved n a s).lines = s.lines := rfl
@[simp] theorem setApproved_pending (n : Fin 128) (a : Option Approved) (s : State) : (setApproved n a s).pending = s.pending := rfl

/-! ### putLsc -/

@[simp] theorem putLsc_slc (i : Fin 8) (l : Lsc) (s : State) : (putLsc i l s).slc = s.slc := rfl
@[simp] theorem putLsc_atu (i : Fin 8) (l : Lsc) (s : State) : (putLsc i l s).atu = s.atu := rfl
@[simp] theorem putLsc_crg (i : Fin 8) (l : Lsc) (s : State) : (putLsc i l s).crg = s.crg := rfl
@[simp] theorem putLsc_persons (i : Fin 8) (l : Lsc) (s : State) : (putLsc i l s).persons = s.persons := rfl
@[simp] theorem putLsc_scl (i : Fin 8) (l : Lsc) (s : State) : (putLsc i l s).scl = s.scl := rfl
@[simp] theorem putLsc_chu (i : Fin 8) (l : Lsc) (s : State) : (putLsc i l s).chu = s.chu := rfl
@[simp] theorem putLsc_fst (i : Fin 8) (l : Lsc) (s : State) : (putLsc i l s).fst = s.fst := rfl
@[simp] theorem putLsc_cau (i : Fin 8) (l : Lsc) (s : State) : (putLsc i l s).cau = s.cau := rfl
@[simp] theorem putLsc_lscs (i : Fin 8) (l : Lsc) (s : State) : (putLsc i l s).lscs = s.lscs.set i l := rfl
@[simp] theorem putLsc_pru (i : Fin 8) (l : Lsc) (s : State) : (putLsc i l s).pru = s.pru := rfl
@[simp] theorem putLsc_jnl (i : Fin 8) (l : Lsc) (s : State) : (putLsc i l s).jnl = s.jnl := rfl
@[simp] theorem putLsc_ports (i : Fin 8) (l : Lsc) (s : State) : (putLsc i l s).ports = s.ports := rfl
@[simp] theorem putLsc_boundary (i : Fin 8) (l : Lsc) (s : State) : (putLsc i l s).boundary = s.boundary := rfl
@[simp] theorem putLsc_free (i : Fin 8) (l : Lsc) (s : State) : (putLsc i l s).free = s.free := rfl
@[simp] theorem putLsc_lines (i : Fin 8) (l : Lsc) (s : State) : (putLsc i l s).lines = s.lines := rfl
@[simp] theorem putLsc_pending (i : Fin 8) (l : Lsc) (s : State) : (putLsc i l s).pending = s.pending := rfl

/-! ### putStation -/

@[simp] theorem putStation_slc (g : Fin 4) (q : Station) (s : State) : (putStation g q s).slc = s.slc := rfl
@[simp] theorem putStation_atu (g : Fin 4) (q : Station) (s : State) : (putStation g q s).atu = s.atu := rfl
@[simp] theorem putStation_crg (g : Fin 4) (q : Station) (s : State) : (putStation g q s).crg = s.crg := rfl
@[simp] theorem putStation_persons (g : Fin 4) (q : Station) (s : State) : (putStation g q s).persons = s.persons := rfl
@[simp] theorem putStation_scl (g : Fin 4) (q : Station) (s : State) : (putStation g q s).scl = s.scl := rfl
@[simp] theorem putStation_chu (g : Fin 4) (q : Station) (s : State) : (putStation g q s).chu = s.chu := rfl
@[simp] theorem putStation_fst (g : Fin 4) (q : Station) (s : State) : (putStation g q s).fst = s.fst := rfl
@[simp] theorem putStation_cau (g : Fin 4) (q : Station) (s : State) : (putStation g q s).cau = s.cau := rfl
@[simp] theorem putStation_lscs (g : Fin 4) (q : Station) (s : State) : (putStation g q s).lscs = s.lscs := rfl
@[simp] theorem putStation_pru (g : Fin 4) (q : Station) (s : State) : (putStation g q s).pru = { s.pru with stations := s.pru.stations.set g q } := rfl
@[simp] theorem putStation_jnl (g : Fin 4) (q : Station) (s : State) : (putStation g q s).jnl = s.jnl := rfl
@[simp] theorem putStation_ports (g : Fin 4) (q : Station) (s : State) : (putStation g q s).ports = s.ports := rfl
@[simp] theorem putStation_boundary (g : Fin 4) (q : Station) (s : State) : (putStation g q s).boundary = s.boundary := rfl
@[simp] theorem putStation_free (g : Fin 4) (q : Station) (s : State) : (putStation g q s).free = s.free := rfl
@[simp] theorem putStation_lines (g : Fin 4) (q : Station) (s : State) : (putStation g q s).lines = s.lines := rfl
@[simp] theorem putStation_pending (g : Fin 4) (q : Station) (s : State) : (putStation g q s).pending = s.pending := rfl

/-! ### setTimer -/

@[simp] theorem setTimer_slc (q : Timer) (s : State) : (setTimer q s).slc = s.slc := rfl
@[simp] theorem setTimer_atu (q : Timer) (s : State) : (setTimer q s).atu = s.atu := rfl
@[simp] theorem setTimer_crg (q : Timer) (s : State) : (setTimer q s).crg = s.crg := rfl
@[simp] theorem setTimer_persons (q : Timer) (s : State) : (setTimer q s).persons = s.persons := rfl
@[simp] theorem setTimer_scl (q : Timer) (s : State) : (setTimer q s).scl = s.scl := rfl
@[simp] theorem setTimer_chu (q : Timer) (s : State) : (setTimer q s).chu = s.chu := rfl
@[simp] theorem setTimer_fst (q : Timer) (s : State) : (setTimer q s).fst = s.fst := rfl
@[simp] theorem setTimer_cau (q : Timer) (s : State) : (setTimer q s).cau = s.cau := rfl
@[simp] theorem setTimer_lscs (q : Timer) (s : State) : (setTimer q s).lscs = s.lscs := rfl
@[simp] theorem setTimer_pru (q : Timer) (s : State) : (setTimer q s).pru = { s.pru with timer := q } := rfl
@[simp] theorem setTimer_jnl (q : Timer) (s : State) : (setTimer q s).jnl = s.jnl := rfl
@[simp] theorem setTimer_ports (q : Timer) (s : State) : (setTimer q s).ports = s.ports := rfl
@[simp] theorem setTimer_boundary (q : Timer) (s : State) : (setTimer q s).boundary = s.boundary := rfl
@[simp] theorem setTimer_free (q : Timer) (s : State) : (setTimer q s).free = s.free := rfl
@[simp] theorem setTimer_lines (q : Timer) (s : State) : (setTimer q s).lines = s.lines := rfl
@[simp] theorem setTimer_pending (q : Timer) (s : State) : (setTimer q s).pending = s.pending := rfl

/-! ### putCabin -/

@[simp] theorem putCabin_slc (n : Nat) (c : Cabin) (s : State) : (putCabin n c s).slc = s.slc := rfl
@[simp] theorem putCabin_atu (n : Nat) (c : Cabin) (s : State) : (putCabin n c s).atu = s.atu := rfl
@[simp] theorem putCabin_crg (n : Nat) (c : Cabin) (s : State) : (putCabin n c s).crg = s.crg := rfl
@[simp] theorem putCabin_persons (n : Nat) (c : Cabin) (s : State) : (putCabin n c s).persons = s.persons := rfl
@[simp] theorem putCabin_scl (n : Nat) (c : Cabin) (s : State) : (putCabin n c s).scl = s.scl := rfl
@[simp] theorem putCabin_chu (n : Nat) (c : Cabin) (s : State) : (putCabin n c s).chu = s.chu := rfl
@[simp] theorem putCabin_fst (n : Nat) (c : Cabin) (s : State) : (putCabin n c s).fst = s.fst := rfl
@[simp] theorem putCabin_cau (n : Nat) (c : Cabin) (s : State) : (putCabin n c s).cau = { s.cau with cabins := s.cau.cabins.set n c } := rfl
@[simp] theorem putCabin_lscs (n : Nat) (c : Cabin) (s : State) : (putCabin n c s).lscs = s.lscs := rfl
@[simp] theorem putCabin_pru (n : Nat) (c : Cabin) (s : State) : (putCabin n c s).pru = s.pru := rfl
@[simp] theorem putCabin_jnl (n : Nat) (c : Cabin) (s : State) : (putCabin n c s).jnl = s.jnl := rfl
@[simp] theorem putCabin_ports (n : Nat) (c : Cabin) (s : State) : (putCabin n c s).ports = s.ports := rfl
@[simp] theorem putCabin_boundary (n : Nat) (c : Cabin) (s : State) : (putCabin n c s).boundary = s.boundary := rfl
@[simp] theorem putCabin_free (n : Nat) (c : Cabin) (s : State) : (putCabin n c s).free = s.free := rfl
@[simp] theorem putCabin_lines (n : Nat) (c : Cabin) (s : State) : (putCabin n c s).lines = s.lines := rfl
@[simp] theorem putCabin_pending (n : Nat) (c : Cabin) (s : State) : (putCabin n c s).pending = s.pending := rfl

/-! ### setTransfer -/

@[simp] theorem setTransfer_slc (q : Option Transfer) (s : State) : (setTransfer q s).slc = { s.slc with transfer := q, windowMs := none } := rfl
@[simp] theorem setTransfer_atu (q : Option Transfer) (s : State) : (setTransfer q s).atu = s.atu := rfl
@[simp] theorem setTransfer_crg (q : Option Transfer) (s : State) : (setTransfer q s).crg = s.crg := rfl
@[simp] theorem setTransfer_persons (q : Option Transfer) (s : State) : (setTransfer q s).persons = s.persons := rfl
@[simp] theorem setTransfer_scl (q : Option Transfer) (s : State) : (setTransfer q s).scl = s.scl := rfl
@[simp] theorem setTransfer_chu (q : Option Transfer) (s : State) : (setTransfer q s).chu = s.chu := rfl
@[simp] theorem setTransfer_fst (q : Option Transfer) (s : State) : (setTransfer q s).fst = s.fst := rfl
@[simp] theorem setTransfer_cau (q : Option Transfer) (s : State) : (setTransfer q s).cau = s.cau := rfl
@[simp] theorem setTransfer_lscs (q : Option Transfer) (s : State) : (setTransfer q s).lscs = s.lscs := rfl
@[simp] theorem setTransfer_pru (q : Option Transfer) (s : State) : (setTransfer q s).pru = s.pru := rfl
@[simp] theorem setTransfer_jnl (q : Option Transfer) (s : State) : (setTransfer q s).jnl = s.jnl := rfl
@[simp] theorem setTransfer_ports (q : Option Transfer) (s : State) : (setTransfer q s).ports = s.ports := rfl
@[simp] theorem setTransfer_boundary (q : Option Transfer) (s : State) : (setTransfer q s).boundary = s.boundary := rfl
@[simp] theorem setTransfer_free (q : Option Transfer) (s : State) : (setTransfer q s).free = s.free := rfl
@[simp] theorem setTransfer_lines (q : Option Transfer) (s : State) : (setTransfer q s).lines = s.lines := rfl
@[simp] theorem setTransfer_pending (q : Option Transfer) (s : State) : (setTransfer q s).pending = s.pending := rfl

/-! ### stopWindow -/

@[simp] theorem stopWindow_slc (s : State) : (stopWindow s).slc = { s.slc with windowMs := none } := rfl
@[simp] theorem stopWindow_atu (s : State) : (stopWindow s).atu = s.atu := rfl
@[simp] theorem stopWindow_crg (s : State) : (stopWindow s).crg = s.crg := rfl
@[simp] theorem stopWindow_persons (s : State) : (stopWindow s).persons = s.persons := rfl
@[simp] theorem stopWindow_scl (s : State) : (stopWindow s).scl = s.scl := rfl
@[simp] theorem stopWindow_chu (s : State) : (stopWindow s).chu = s.chu := rfl
@[simp] theorem stopWindow_fst (s : State) : (stopWindow s).fst = s.fst := rfl
@[simp] theorem stopWindow_cau (s : State) : (stopWindow s).cau = s.cau := rfl
@[simp] theorem stopWindow_lscs (s : State) : (stopWindow s).lscs = s.lscs := rfl
@[simp] theorem stopWindow_pru (s : State) : (stopWindow s).pru = s.pru := rfl
@[simp] theorem stopWindow_jnl (s : State) : (stopWindow s).jnl = s.jnl := rfl
@[simp] theorem stopWindow_ports (s : State) : (stopWindow s).ports = s.ports := rfl
@[simp] theorem stopWindow_boundary (s : State) : (stopWindow s).boundary = s.boundary := rfl
@[simp] theorem stopWindow_free (s : State) : (stopWindow s).free = s.free := rfl
@[simp] theorem stopWindow_lines (s : State) : (stopWindow s).lines = s.lines := rfl
@[simp] theorem stopWindow_pending (s : State) : (stopWindow s).pending = s.pending := rfl

/-! ### answered -/

@[simp] theorem answered_slc (code tag : Byte) (e : Status) (x : Payload) (s : State) : (answered code tag e x s).slc = { s.slc with exchange := true } := rfl
@[simp] theorem answered_atu (code tag : Byte) (e : Status) (x : Payload) (s : State) : (answered code tag e x s).atu = s.atu := rfl
@[simp] theorem answered_crg (code tag : Byte) (e : Status) (x : Payload) (s : State) : (answered code tag e x s).crg = s.crg := rfl
@[simp] theorem answered_persons (code tag : Byte) (e : Status) (x : Payload) (s : State) : (answered code tag e x s).persons = s.persons := rfl
@[simp] theorem answered_scl (code tag : Byte) (e : Status) (x : Payload) (s : State) : (answered code tag e x s).scl = s.scl := rfl
@[simp] theorem answered_chu (code tag : Byte) (e : Status) (x : Payload) (s : State) : (answered code tag e x s).chu = s.chu := rfl
@[simp] theorem answered_fst (code tag : Byte) (e : Status) (x : Payload) (s : State) : (answered code tag e x s).fst = s.fst := rfl
@[simp] theorem answered_cau (code tag : Byte) (e : Status) (x : Payload) (s : State) : (answered code tag e x s).cau = s.cau := rfl
@[simp] theorem answered_lscs (code tag : Byte) (e : Status) (x : Payload) (s : State) : (answered code tag e x s).lscs = s.lscs := rfl
@[simp] theorem answered_pru (code tag : Byte) (e : Status) (x : Payload) (s : State) : (answered code tag e x s).pru = s.pru := rfl
@[simp] theorem answered_jnl (code tag : Byte) (e : Status) (x : Payload) (s : State) : (answered code tag e x s).jnl = s.jnl := rfl
@[simp] theorem answered_ports (code tag : Byte) (e : Status) (x : Payload) (s : State) : (answered code tag e x s).ports = (formed .service (replyFrame code tag e x true) s).ports := rfl
@[simp] theorem answered_boundary (code tag : Byte) (e : Status) (x : Payload) (s : State) : (answered code tag e x s).boundary = s.boundary := rfl
@[simp] theorem answered_free (code tag : Byte) (e : Status) (x : Payload) (s : State) : (answered code tag e x s).free = s.free := rfl
@[simp] theorem answered_lines (code tag : Byte) (e : Status) (x : Payload) (s : State) : (answered code tag e x s).lines = s.lines := rfl
@[simp] theorem answered_pending (code tag : Byte) (e : Status) (x : Payload) (s : State) : (answered code tag e x s).pending = s.pending := rfl

/-! ### turnedAway -/

@[simp] theorem turnedAway_slc (code tag : Byte) (e : Status) (x : Payload) (s : State) : (turnedAway code tag e x s).slc = s.slc := rfl
@[simp] theorem turnedAway_atu (code tag : Byte) (e : Status) (x : Payload) (s : State) : (turnedAway code tag e x s).atu = s.atu := rfl
@[simp] theorem turnedAway_crg (code tag : Byte) (e : Status) (x : Payload) (s : State) : (turnedAway code tag e x s).crg = s.crg := rfl
@[simp] theorem turnedAway_persons (code tag : Byte) (e : Status) (x : Payload) (s : State) : (turnedAway code tag e x s).persons = s.persons := rfl
@[simp] theorem turnedAway_scl (code tag : Byte) (e : Status) (x : Payload) (s : State) : (turnedAway code tag e x s).scl = s.scl := rfl
@[simp] theorem turnedAway_chu (code tag : Byte) (e : Status) (x : Payload) (s : State) : (turnedAway code tag e x s).chu = s.chu := rfl
@[simp] theorem turnedAway_fst (code tag : Byte) (e : Status) (x : Payload) (s : State) : (turnedAway code tag e x s).fst = s.fst := rfl
@[simp] theorem turnedAway_cau (code tag : Byte) (e : Status) (x : Payload) (s : State) : (turnedAway code tag e x s).cau = s.cau := rfl
@[simp] theorem turnedAway_lscs (code tag : Byte) (e : Status) (x : Payload) (s : State) : (turnedAway code tag e x s).lscs = s.lscs := rfl
@[simp] theorem turnedAway_pru (code tag : Byte) (e : Status) (x : Payload) (s : State) : (turnedAway code tag e x s).pru = s.pru := rfl
@[simp] theorem turnedAway_jnl (code tag : Byte) (e : Status) (x : Payload) (s : State) : (turnedAway code tag e x s).jnl = s.jnl := rfl
@[simp] theorem turnedAway_ports (code tag : Byte) (e : Status) (x : Payload) (s : State) : (turnedAway code tag e x s).ports = (formed .service (replyFrame code tag e x false) s).ports := rfl
@[simp] theorem turnedAway_boundary (code tag : Byte) (e : Status) (x : Payload) (s : State) : (turnedAway code tag e x s).boundary = s.boundary := rfl
@[simp] theorem turnedAway_free (code tag : Byte) (e : Status) (x : Payload) (s : State) : (turnedAway code tag e x s).free = s.free := rfl
@[simp] theorem turnedAway_lines (code tag : Byte) (e : Status) (x : Payload) (s : State) : (turnedAway code tag e x s).lines = s.lines := rfl
@[simp] theorem turnedAway_pending (code tag : Byte) (e : Status) (x : Payload) (s : State) : (turnedAway code tag e x s).pending = s.pending := rfl

/-! ### tillAnswered -/

@[simp] theorem tillAnswered_slc (kind q till : Byte) (r : Bool) (b : AnswerBody) (s : State) : (tillAnswered kind q till r b s).slc = s.slc := rfl
@[simp] theorem tillAnswered_atu (kind q till : Byte) (r : Bool) (b : AnswerBody) (s : State) : (tillAnswered kind q till r b s).atu = s.atu := rfl
@[simp] theorem tillAnswered_crg (kind q till : Byte) (r : Bool) (b : AnswerBody) (s : State) : (tillAnswered kind q till r b s).crg = s.crg := rfl
@[simp] theorem tillAnswered_persons (kind q till : Byte) (r : Bool) (b : AnswerBody) (s : State) : (tillAnswered kind q till r b s).persons = s.persons := rfl
@[simp] theorem tillAnswered_scl (kind q till : Byte) (r : Bool) (b : AnswerBody) (s : State) : (tillAnswered kind q till r b s).scl = s.scl := rfl
@[simp] theorem tillAnswered_chu (kind q till : Byte) (r : Bool) (b : AnswerBody) (s : State) : (tillAnswered kind q till r b s).chu = s.chu := rfl
@[simp] theorem tillAnswered_fst (kind q till : Byte) (r : Bool) (b : AnswerBody) (s : State) : (tillAnswered kind q till r b s).fst = s.fst := rfl
@[simp] theorem tillAnswered_cau (kind q till : Byte) (r : Bool) (b : AnswerBody) (s : State) : (tillAnswered kind q till r b s).cau = s.cau := rfl
@[simp] theorem tillAnswered_lscs (kind q till : Byte) (r : Bool) (b : AnswerBody) (s : State) : (tillAnswered kind q till r b s).lscs = s.lscs := rfl
@[simp] theorem tillAnswered_pru (kind q till : Byte) (r : Bool) (b : AnswerBody) (s : State) : (tillAnswered kind q till r b s).pru = s.pru := rfl
@[simp] theorem tillAnswered_jnl (kind q till : Byte) (r : Bool) (b : AnswerBody) (s : State) : (tillAnswered kind q till r b s).jnl = s.jnl := rfl
@[simp] theorem tillAnswered_ports (kind q till : Byte) (r : Bool) (b : AnswerBody) (s : State) : (tillAnswered kind q till r b s).ports = (formed .till (.tillAnswer { kind := kind, sequence := q, till := till, repeated := r, body := b }) s).ports := rfl
@[simp] theorem tillAnswered_boundary (kind q till : Byte) (r : Bool) (b : AnswerBody) (s : State) : (tillAnswered kind q till r b s).boundary = s.boundary := rfl
@[simp] theorem tillAnswered_free (kind q till : Byte) (r : Bool) (b : AnswerBody) (s : State) : (tillAnswered kind q till r b s).free = s.free := rfl
@[simp] theorem tillAnswered_lines (kind q till : Byte) (r : Bool) (b : AnswerBody) (s : State) : (tillAnswered kind q till r b s).lines = s.lines := rfl
@[simp] theorem tillAnswered_pending (kind q till : Byte) (r : Bool) (b : AnswerBody) (s : State) : (tillAnswered kind q till r b s).pending = s.pending := rfl

/-! ### Turn.replacedAt -/

/-- A request that sets the pending mode of a node marks the turn of that node (R141). -/
@[simp] theorem replacedAt_replaced (t : Turn) (a : Nat) : (t.replacedAt a).replaced = (t.replaced || decide (t.address = a)) := by
  unfold Turn.replacedAt; split <;> simp_all
@[simp] theorem replacedAt_address (t : Turn) (a : Nat) : (t.replacedAt a).address = t.address := by
  unfold Turn.replacedAt; split <;> rfl
@[simp] theorem replacedAt_sent (t : Turn) (a : Nat) : (t.replacedAt a).sent = t.sent := by
  unfold Turn.replacedAt; split <;> rfl
@[simp] theorem replacedAt_windowMs (t : Turn) (a : Nat) : (t.replacedAt a).windowMs = t.windowMs := by
  unfold Turn.replacedAt; split <;> rfl
@[simp] theorem replacedAt_window (t : Turn) (a : Nat) : (t.replacedAt a).window = t.window := by
  unfold Turn.replacedAt; split <;> rfl
@[simp] theorem replacedAt_removed (t : Turn) (a : Nat) : (t.replacedAt a).removed = t.removed := by
  unfold Turn.replacedAt; split <;> rfl
@[simp] theorem replacedAt_heldCard (t : Turn) (a : Nat) : (t.replacedAt a).heldCard = t.heldCard := by
  unfold Turn.replacedAt; split <;> rfl
@[simp] theorem replacedAt_kind (t : Turn) (a : Nat) : (t.replacedAt a).kind = t.kind := by
  unfold Turn.kind; rw [replacedAt_sent]

end Sys2Proof.Machine
end

