-- ==== Sys2Proof/Laws/Frames.lean ====
section
/-! SUPPORT. The fields that each shared operation leaves as they were: one lemma for each. -/
namespace Sys2Proof.Machine

/-! ### raise -/

@[simp] theorem raise_slc (c : Cause) (x : Word32) (d : Detail) (s : State) : (raise c x d s).slc = s.slc := by
  unfold raise; split <;> rfl
@[simp] theorem raise_crg (c : Cause) (x : Word32) (d : Detail) (s : State) : (raise c x d s).crg = s.crg := by
  unfold raise; split <;> rfl
@[simp] theorem raise_persons (c : Cause) (x : Word32) (d : Detail) (s : State) : (raise c x d s).persons = s.persons := by
  unfold raise; split <;> rfl
@[simp] theorem raise_scl (c : Cause) (x : Word32) (d : Detail) (s : State) : (raise c x d s).scl = s.scl := by
  unfold raise; split <;> rfl
@[simp] theorem raise_chu (c : Cause) (x : Word32) (d : Detail) (s : State) : (raise c x d s).chu = s.chu := by
  unfold raise; split <;> rfl
@[simp] theorem raise_fst (c : Cause) (x : Word32) (d : Detail) (s : State) : (raise c x d s).fst = s.fst := by
  unfold raise; split <;> rfl
@[simp] theorem raise_cau (c : Cause) (x : Word32) (d : Detail) (s : State) : (raise c x d s).cau = s.cau := by
  unfold raise; split <;> rfl
@[simp] theorem raise_lscs (c : Cause) (x : Word32) (d : Detail) (s : State) : (raise c x d s).lscs = s.lscs := by
  unfold raise; split <;> rfl
@[simp] theorem raise_pru (c : Cause) (x : Word32) (d : Detail) (s : State) : (raise c x d s).pru = s.pru := by
  unfold raise; split <;> rfl
@[simp] theorem raise_jnl (c : Cause) (x : Word32) (d : Detail) (s : State) : (raise c x d s).jnl = s.jnl := by
  unfold raise; split <;> rfl
@[simp] theorem raise_ports (c : Cause) (x : Word32) (d : Detail) (s : State) : (raise c x d s).ports = s.ports := by
  unfold raise; split <;> rfl
@[simp] theorem raise_boundary (c : Cause) (x : Word32) (d : Detail) (s : State) : (raise c x d s).boundary = s.boundary := by
  unfold raise; split <;> rfl
@[simp] theorem raise_free (c : Cause) (x : Word32) (d : Detail) (s : State) : (raise c x d s).free = s.free := by
  unfold raise; split <;> rfl
@[simp] theorem raise_lines (c : Cause) (x : Word32) (d : Detail) (s : State) : (raise c x d s).lines = s.lines := by
  unfold raise; split <;> rfl
@[simp] theorem raise_pending (c : Cause) (x : Word32) (d : Detail) (s : State) : (raise c x d s).pending = s.pending := by
  unfold raise; split <;> rfl

/-! ### takeIn -/

@[simp] theorem takeIn_slc (r : Record) (s : State) : (takeIn r s).slc = s.slc := by
  unfold takeIn; dsimp only; split <;> simp
@[simp] theorem takeIn_crg (r : Record) (s : State) : (takeIn r s).crg = s.crg := by
  unfold takeIn; dsimp only; split <;> simp
@[simp] theorem takeIn_persons (r : Record) (s : State) : (takeIn r s).persons = s.persons := by
  unfold takeIn; dsimp only; split <;> simp
@[simp] theorem takeIn_scl (r : Record) (s : State) : (takeIn r s).scl = s.scl := by
  unfold takeIn; dsimp only; split <;> simp
@[simp] theorem takeIn_chu (r : Record) (s : State) : (takeIn r s).chu = s.chu := by
  unfold takeIn; dsimp only; split <;> simp
@[simp] theorem takeIn_fst (r : Record) (s : State) : (takeIn r s).fst = s.fst := by
  unfold takeIn; dsimp only; split <;> simp
@[simp] theorem takeIn_cau (r : Record) (s : State) : (takeIn r s).cau = s.cau := by
  unfold takeIn; dsimp only; split <;> simp
@[simp] theorem takeIn_lscs (r : Record) (s : State) : (takeIn r s).lscs = s.lscs := by
  unfold takeIn; dsimp only; split <;> simp
@[simp] theorem takeIn_pru (r : Record) (s : State) : (takeIn r s).pru = s.pru := by
  unfold takeIn; dsimp only; split <;> simp
@[simp] theorem takeIn_ports (r : Record) (s : State) : (takeIn r s).ports = s.ports := by
  unfold takeIn; dsimp only; split <;> simp
@[simp] theorem takeIn_boundary (r : Record) (s : State) : (takeIn r s).boundary = s.boundary := by
  unfold takeIn; dsimp only; split <;> simp
@[simp] theorem takeIn_free (r : Record) (s : State) : (takeIn r s).free = s.free := by
  unfold takeIn; dsimp only; split <;> simp
@[simp] theorem takeIn_lines (r : Record) (s : State) : (takeIn r s).lines = s.lines := by
  unfold takeIn; dsimp only; split <;> simp
@[simp] theorem takeIn_pending (r : Record) (s : State) : (takeIn r s).pending = s.pending := by
  unfold takeIn; dsimp only; split <;> simp

/-! ### offerMoney -/

@[simp] theorem offerMoney_slc (r : Record) (s : State) : ((offerMoney r s).2).slc = s.slc := by
  unfold offerMoney; split <;> simp
@[simp] theorem offerMoney_crg (r : Record) (s : State) : ((offerMoney r s).2).crg = s.crg := by
  unfold offerMoney; split <;> simp
@[simp] theorem offerMoney_persons (r : Record) (s : State) : ((offerMoney r s).2).persons = s.persons := by
  unfold offerMoney; split <;> simp
@[simp] theorem offerMoney_scl (r : Record) (s : State) : ((offerMoney r s).2).scl = s.scl := by
  unfold offerMoney; split <;> simp
@[simp] theorem offerMoney_chu (r : Record) (s : State) : ((offerMoney r s).2).chu = s.chu := by
  unfold offerMoney; split <;> simp
@[simp] theorem offerMoney_fst (r : Record) (s : State) : ((offerMoney r s).2).fst = s.fst := by
  unfold offerMoney; split <;> simp
@[simp] theorem offerMoney_cau (r : Record) (s : State) : ((offerMoney r s).2).cau = s.cau := by
  unfold offerMoney; split <;> simp
@[simp] theorem offerMoney_lscs (r : Record) (s : State) : ((offerMoney r s).2).lscs = s.lscs := by
  unfold offerMoney; split <;> simp
@[simp] theorem offerMoney_pru (r : Record) (s : State) : ((offerMoney r s).2).pru = s.pru := by
  unfold offerMoney; split <;> simp
@[simp] theorem offerMoney_ports (r : Record) (s : State) : ((offerMoney r s).2).ports = s.ports := by
  unfold offerMoney; split <;> simp
@[simp] theorem offerMoney_boundary (r : Record) (s : State) : ((offerMoney r s).2).boundary = s.boundary := by
  unfold offerMoney; split <;> simp
@[simp] theorem offerMoney_free (r : Record) (s : State) : ((offerMoney r s).2).free = s.free := by
  unfold offerMoney; split <;> simp
@[simp] theorem offerMoney_lines (r : Record) (s : State) : ((offerMoney r s).2).lines = s.lines := by
  unfold offerMoney; split <;> simp
@[simp] theorem offerMoney_pending (r : Record) (s : State) : ((offerMoney r s).2).pending = s.pending := by
  unfold offerMoney; split <;> simp

/-! ### offerGap -/

@[simp] theorem offerGap_slc (s : State) : (offerGap s).slc = s.slc := by
  unfold offerGap; split <;> simp
@[simp] theorem offerGap_crg (s : State) : (offerGap s).crg = s.crg := by
  unfold offerGap; split <;> simp
@[simp] theorem offerGap_persons (s : State) : (offerGap s).persons = s.persons := by
  unfold offerGap; split <;> simp
@[simp] theorem offerGap_scl (s : State) : (offerGap s).scl = s.scl := by
  unfold offerGap; split <;> simp
@[simp] theorem offerGap_chu (s : State) : (offerGap s).chu = s.chu := by
  unfold offerGap; split <;> simp
@[simp] theorem offerGap_fst (s : State) : (offerGap s).fst = s.fst := by
  unfold offerGap; split <;> simp
@[simp] theorem offerGap_cau (s : State) : (offerGap s).cau = s.cau := by
  unfold offerGap; split <;> simp
@[simp] theorem offerGap_lscs (s : State) : (offerGap s).lscs = s.lscs := by
  unfold offerGap; split <;> simp
@[simp] theorem offerGap_pru (s : State) : (offerGap s).pru = s.pru := by
  unfold offerGap; split <;> simp
@[simp] theorem offerGap_ports (s : State) : (offerGap s).ports = s.ports := by
  unfold offerGap; split <;> simp
@[simp] theorem offerGap_boundary (s : State) : (offerGap s).boundary = s.boundary := by
  unfold offerGap; split <;> simp
@[simp] theorem offerGap_free (s : State) : (offerGap s).free = s.free := by
  unfold offerGap; split <;> simp
@[simp] theorem offerGap_lines (s : State) : (offerGap s).lines = s.lines := by
  unfold offerGap; split <;> simp
@[simp] theorem offerGap_pending (s : State) : (offerGap s).pending = s.pending := by
  unfold offerGap; split <;> simp

/-! ### offerEvent -/

@[simp] theorem offerEvent_slc (r : Record) (s : State) : (offerEvent r s).slc = s.slc := by
  unfold offerEvent; dsimp only; split <;> simp
@[simp] theorem offerEvent_crg (r : Record) (s : State) : (offerEvent r s).crg = s.crg := by
  unfold offerEvent; dsimp only; split <;> simp
@[simp] theorem offerEvent_persons (r : Record) (s : State) : (offerEvent r s).persons = s.persons := by
  unfold offerEvent; dsimp only; split <;> simp
@[simp] theorem offerEvent_scl (r : Record) (s : State) : (offerEvent r s).scl = s.scl := by
  unfold offerEvent; dsimp only; split <;> simp
@[simp] theorem offerEvent_chu (r : Record) (s : State) : (offerEvent r s).chu = s.chu := by
  unfold offerEvent; dsimp only; split <;> simp
@[simp] theorem offerEvent_fst (r : Record) (s : State) : (offerEvent r s).fst = s.fst := by
  unfold offerEvent; dsimp only; split <;> simp
@[simp] theorem offerEvent_cau (r : Record) (s : State) : (offerEvent r s).cau = s.cau := by
  unfold offerEvent; dsimp only; split <;> simp
@[simp] theorem offerEvent_lscs (r : Record) (s : State) : (offerEvent r s).lscs = s.lscs := by
  unfold offerEvent; dsimp only; split <;> simp
@[simp] theorem offerEvent_pru (r : Record) (s : State) : (offerEvent r s).pru = s.pru := by
  unfold offerEvent; dsimp only; split <;> simp
@[simp] theorem offerEvent_ports (r : Record) (s : State) : (offerEvent r s).ports = s.ports := by
  unfold offerEvent; dsimp only; split <;> simp
@[simp] theorem offerEvent_boundary (r : Record) (s : State) : (offerEvent r s).boundary = s.boundary := by
  unfold offerEvent; dsimp only; split <;> simp
@[simp] theorem offerEvent_free (r : Record) (s : State) : (offerEvent r s).free = s.free := by
  unfold offerEvent; dsimp only; split <;> simp
@[simp] theorem offerEvent_lines (r : Record) (s : State) : (offerEvent r s).lines = s.lines := by
  unfold offerEvent; dsimp only; split <;> simp
@[simp] theorem offerEvent_pending (r : Record) (s : State) : (offerEvent r s).pending = s.pending := by
  unfold offerEvent; dsimp only; split <;> simp

/-! ### failureUpdate -/

@[simp] theorem failureUpdate_slc (x : Word32) (s : State) : (failureUpdate x s).slc = s.slc := by
  unfold failureUpdate; (repeat' split) <;> simp
@[simp] theorem failureUpdate_persons (x : Word32) (s : State) : (failureUpdate x s).persons = s.persons := by
  unfold failureUpdate; (repeat' split) <;> simp
@[simp] theorem failureUpdate_scl (x : Word32) (s : State) : (failureUpdate x s).scl = s.scl := by
  unfold failureUpdate; (repeat' split) <;> simp
@[simp] theorem failureUpdate_chu (x : Word32) (s : State) : (failureUpdate x s).chu = s.chu := by
  unfold failureUpdate; (repeat' split) <;> simp
@[simp] theorem failureUpdate_fst (x : Word32) (s : State) : (failureUpdate x s).fst = s.fst := by
  unfold failureUpdate; (repeat' split) <;> simp
@[simp] theorem failureUpdate_cau (x : Word32) (s : State) : (failureUpdate x s).cau = s.cau := by
  unfold failureUpdate; (repeat' split) <;> simp
@[simp] theorem failureUpdate_lscs (x : Word32) (s : State) : (failureUpdate x s).lscs = s.lscs := by
  unfold failureUpdate; (repeat' split) <;> simp
@[simp] theorem failureUpdate_pru (x : Word32) (s : State) : (failureUpdate x s).pru = s.pru := by
  unfold failureUpdate; (repeat' split) <;> simp
@[simp] theorem failureUpdate_jnl (x : Word32) (s : State) : (failureUpdate x s).jnl = s.jnl := by
  unfold failureUpdate; (repeat' split) <;> simp
@[simp] theorem failureUpdate_ports (x : Word32) (s : State) : (failureUpdate x s).ports = s.ports := by
  unfold failureUpdate; (repeat' split) <;> simp
@[simp] theorem failureUpdate_boundary (x : Word32) (s : State) : (failureUpdate x s).boundary = s.boundary := by
  unfold failureUpdate; (repeat' split) <;> simp
@[simp] theorem failureUpdate_free (x : Word32) (s : State) : (failureUpdate x s).free = s.free := by
  unfold failureUpdate; (repeat' split) <;> simp
@[simp] theorem failureUpdate_lines (x : Word32) (s : State) : (failureUpdate x s).lines = s.lines := by
  unfold failureUpdate; (repeat' split) <;> simp
@[simp] theorem failureUpdate_pending (x : Word32) (s : State) : (failureUpdate x s).pending = s.pending := by
  unfold failureUpdate; (repeat' split) <;> simp

/-! ### successUpdate -/

@[simp] theorem successUpdate_slc (x : Word32) (s : State) : (successUpdate x s).slc = s.slc := by
  unfold successUpdate; (repeat' split) <;> simp
@[simp] theorem successUpdate_atu (x : Word32) (s : State) : (successUpdate x s).atu = s.atu := by
  unfold successUpdate; (repeat' split) <;> simp
@[simp] theorem successUpdate_persons (x : Word32) (s : State) : (successUpdate x s).persons = s.persons := by
  unfold successUpdate; (repeat' split) <;> simp
@[simp] theorem successUpdate_scl (x : Word32) (s : State) : (successUpdate x s).scl = s.scl := by
  unfold successUpdate; (repeat' split) <;> simp
@[simp] theorem successUpdate_chu (x : Word32) (s : State) : (successUpdate x s).chu = s.chu := by
  unfold successUpdate; (repeat' split) <;> simp
@[simp] theorem successUpdate_fst (x : Word32) (s : State) : (successUpdate x s).fst = s.fst := by
  unfold successUpdate; (repeat' split) <;> simp
@[simp] theorem successUpdate_cau (x : Word32) (s : State) : (successUpdate x s).cau = s.cau := by
  unfold successUpdate; (repeat' split) <;> simp
@[simp] theorem successUpdate_lscs (x : Word32) (s : State) : (successUpdate x s).lscs = s.lscs := by
  unfold successUpdate; (repeat' split) <;> simp
@[simp] theorem successUpdate_pru (x : Word32) (s : State) : (successUpdate x s).pru = s.pru := by
  unfold successUpdate; (repeat' split) <;> simp
@[simp] theorem successUpdate_jnl (x : Word32) (s : State) : (successUpdate x s).jnl = s.jnl := by
  unfold successUpdate; (repeat' split) <;> simp
@[simp] theorem successUpdate_ports (x : Word32) (s : State) : (successUpdate x s).ports = s.ports := by
  unfold successUpdate; (repeat' split) <;> simp
@[simp] theorem successUpdate_boundary (x : Word32) (s : State) : (successUpdate x s).boundary = s.boundary := by
  unfold successUpdate; (repeat' split) <;> simp
@[simp] theorem successUpdate_free (x : Word32) (s : State) : (successUpdate x s).free = s.free := by
  unfold successUpdate; (repeat' split) <;> simp
@[simp] theorem successUpdate_lines (x : Word32) (s : State) : (successUpdate x s).lines = s.lines := by
  unfold successUpdate; (repeat' split) <;> simp
@[simp] theorem successUpdate_pending (x : Word32) (s : State) : (successUpdate x s).pending = s.pending := by
  unfold successUpdate; (repeat' split) <;> simp

/-! ### departCards -/

@[simp] theorem departCards_slc (n : Nat) (s : State) : (departCards n s).slc = s.slc := by
  rfl
@[simp] theorem departCards_atu (n : Nat) (s : State) : (departCards n s).atu = s.atu := by
  rfl
@[simp] theorem departCards_persons (n : Nat) (s : State) : (departCards n s).persons = s.persons := by
  rfl
@[simp] theorem departCards_scl (n : Nat) (s : State) : (departCards n s).scl = s.scl := by
  rfl
@[simp] theorem departCards_chu (n : Nat) (s : State) : (departCards n s).chu = s.chu := by
  rfl
@[simp] theorem departCards_fst (n : Nat) (s : State) : (departCards n s).fst = s.fst := by
  rfl
@[simp] theorem departCards_cau (n : Nat) (s : State) : (departCards n s).cau = s.cau := by
  rfl
@[simp] theorem departCards_lscs (n : Nat) (s : State) : (departCards n s).lscs = s.lscs := by
  rfl
@[simp] theorem departCards_pru (n : Nat) (s : State) : (departCards n s).pru = s.pru := by
  rfl
@[simp] theorem departCards_jnl (n : Nat) (s : State) : (departCards n s).jnl = s.jnl := by
  rfl
@[simp] theorem departCards_ports (n : Nat) (s : State) : (departCards n s).ports = s.ports := by
  rfl
@[simp] theorem departCards_boundary (n : Nat) (s : State) : (departCards n s).boundary = s.boundary := by
  rfl
@[simp] theorem departCards_free (n : Nat) (s : State) : (departCards n s).free = s.free := by
  rfl
@[simp] theorem departCards_lines (n : Nat) (s : State) : (departCards n s).lines = s.lines := by
  rfl
@[simp] theorem departCards_pending (n : Nat) (s : State) : (departCards n s).pending = s.pending := by
  rfl

/-! ### clearMark -/

@[simp] theorem clearMark_slc (s : State) : (clearMark s).slc = s.slc := by
  unfold clearMark; dsimp only; split <;> simp
@[simp] theorem clearMark_crg (s : State) : (clearMark s).crg = s.crg := by
  unfold clearMark; dsimp only; split <;> simp
@[simp] theorem clearMark_persons (s : State) : (clearMark s).persons = s.persons := by
  unfold clearMark; dsimp only; split <;> simp
@[simp] theorem clearMark_scl (s : State) : (clearMark s).scl = s.scl := by
  unfold clearMark; dsimp only; split <;> simp
@[simp] theorem clearMark_chu (s : State) : (clearMark s).chu = s.chu := by
  unfold clearMark; dsimp only; split <;> simp
@[simp] theorem clearMark_fst (s : State) : (clearMark s).fst = s.fst := by
  unfold clearMark; dsimp only; split <;> simp
@[simp] theorem clearMark_cau (s : State) : (clearMark s).cau = s.cau := by
  unfold clearMark; dsimp only; split <;> simp
@[simp] theorem clearMark_lscs (s : State) : (clearMark s).lscs = s.lscs := by
  unfold clearMark; dsimp only; split <;> simp
@[simp] theorem clearMark_jnl (s : State) : (clearMark s).jnl = s.jnl := by
  unfold clearMark; dsimp only; split <;> simp
@[simp] theorem clearMark_ports (s : State) : (clearMark s).ports = s.ports := by
  unfold clearMark; dsimp only; split <;> simp
@[simp] theorem clearMark_boundary (s : State) : (clearMark s).boundary = s.boundary := by
  unfold clearMark; dsimp only; split <;> simp
@[simp] theorem clearMark_free (s : State) : (clearMark s).free = s.free := by
  unfold clearMark; dsimp only; split <;> simp
@[simp] theorem clearMark_lines (s : State) : (clearMark s).lines = s.lines := by
  unfold clearMark; dsimp only; split <;> simp
@[simp] theorem clearMark_pending (s : State) : (clearMark s).pending = s.pending := by
  unfold clearMark; dsimp only; split <;> simp

/-! ### depart -/

@[simp] theorem depart_slc (n m : Nat) (s : State) : (depart n m s).slc = s.slc := by
  unfold depart; dsimp only; split <;> simp
@[simp] theorem depart_persons (n m : Nat) (s : State) : (depart n m s).persons = s.persons := by
  unfold depart; dsimp only; split <;> simp
@[simp] theorem depart_scl (n m : Nat) (s : State) : (depart n m s).scl = s.scl := by
  unfold depart; dsimp only; split <;> simp
@[simp] theorem depart_chu (n m : Nat) (s : State) : (depart n m s).chu = s.chu := by
  unfold depart; dsimp only; split <;> simp
@[simp] theorem depart_fst (n m : Nat) (s : State) : (depart n m s).fst = s.fst := by
  unfold depart; dsimp only; split <;> simp
@[simp] theorem depart_cau (n m : Nat) (s : State) : (depart n m s).cau = s.cau := by
  unfold depart; dsimp only; split <;> simp
@[simp] theorem depart_lscs (n m : Nat) (s : State) : (depart n m s).lscs = s.lscs := by
  unfold depart; dsimp only; split <;> simp
@[simp] theorem depart_pru (n m : Nat) (s : State) : (depart n m s).pru = s.pru := by
  unfold depart; dsimp only; split <;> simp
@[simp] theorem depart_jnl (n m : Nat) (s : State) : (depart n m s).jnl = s.jnl := by
  unfold depart; dsimp only; split <;> simp
@[simp] theorem depart_ports (n m : Nat) (s : State) : (depart n m s).ports = s.ports := by
  unfold depart; dsimp only; split <;> simp
@[simp] theorem depart_boundary (n m : Nat) (s : State) : (depart n m s).boundary = s.boundary := by
  unfold depart; dsimp only; split <;> simp
@[simp] theorem depart_free (n m : Nat) (s : State) : (depart n m s).free = s.free := by
  unfold depart; dsimp only; split <;> simp
@[simp] theorem depart_lines (n m : Nat) (s : State) : (depart n m s).lines = s.lines := by
  unfold depart; dsimp only; split <;> simp
@[simp] theorem depart_pending (n m : Nat) (s : State) : (depart n m s).pending = s.pending := by
  unfold depart; dsimp only; split <;> simp

/-! ### changePresence -/

@[simp] theorem changePresence_slc (n : Nat) (p : Person) (a : Presence) (x : Nat) (g : Option (Fin 4)) (i : Bool) (s : State) : (changePresence n p a x g i s).slc = s.slc := by
  unfold changePresence; dsimp only; (repeat' split) <;> simp
@[simp] theorem changePresence_scl (n : Nat) (p : Person) (a : Presence) (x : Nat) (g : Option (Fin 4)) (i : Bool) (s : State) : (changePresence n p a x g i s).scl = s.scl := by
  unfold changePresence; dsimp only; (repeat' split) <;> simp
@[simp] theorem changePresence_chu (n : Nat) (p : Person) (a : Presence) (x : Nat) (g : Option (Fin 4)) (i : Bool) (s : State) : (changePresence n p a x g i s).chu = s.chu := by
  unfold changePresence; dsimp only; (repeat' split) <;> simp
@[simp] theorem changePresence_fst (n : Nat) (p : Person) (a : Presence) (x : Nat) (g : Option (Fin 4)) (i : Bool) (s : State) : (changePresence n p a x g i s).fst = s.fst := by
  unfold changePresence; dsimp only; (repeat' split) <;> simp
@[simp] theorem changePresence_cau (n : Nat) (p : Person) (a : Presence) (x : Nat) (g : Option (Fin 4)) (i : Bool) (s : State) : (changePresence n p a x g i s).cau = s.cau := by
  unfold changePresence; dsimp only; (repeat' split) <;> simp
@[simp] theorem changePresence_lscs (n : Nat) (p : Person) (a : Presence) (x : Nat) (g : Option (Fin 4)) (i : Bool) (s : State) : (changePresence n p a x g i s).lscs = s.lscs := by
  unfold changePresence; dsimp only; (repeat' split) <;> simp
@[simp] theorem changePresence_jnl (n : Nat) (p : Person) (a : Presence) (x : Nat) (g : Option (Fin 4)) (i : Bool) (s : State) : (changePresence n p a x g i s).jnl = s.jnl := by
  unfold changePresence; dsimp only; (repeat' split) <;> simp
@[simp] theorem changePresence_ports (n : Nat) (p : Person) (a : Presence) (x : Nat) (g : Option (Fin 4)) (i : Bool) (s : State) : (changePresence n p a x g i s).ports = s.ports := by
  unfold changePresence; dsimp only; (repeat' split) <;> simp
@[simp] theorem changePresence_boundary (n : Nat) (p : Person) (a : Presence) (x : Nat) (g : Option (Fin 4)) (i : Bool) (s : State) : (changePresence n p a x g i s).boundary = s.boundary := by
  unfold changePresence; dsimp only; (repeat' split) <;> simp
@[simp] theorem changePresence_free (n : Nat) (p : Person) (a : Presence) (x : Nat) (g : Option (Fin 4)) (i : Bool) (s : State) : (changePresence n p a x g i s).free = s.free := by
  unfold changePresence; dsimp only; (repeat' split) <;> simp
@[simp] theorem changePresence_lines (n : Nat) (p : Person) (a : Presence) (x : Nat) (g : Option (Fin 4)) (i : Bool) (s : State) : (changePresence n p a x g i s).lines = s.lines := by
  unfold changePresence; dsimp only; (repeat' split) <;> simp
@[simp] theorem changePresence_pending (n : Nat) (p : Person) (a : Presence) (x : Nat) (g : Option (Fin 4)) (i : Bool) (s : State) : (changePresence n p a x g i s).pending = s.pending := by
  unfold changePresence; dsimp only; (repeat' split) <;> simp

/-! ### raiseSighting -/

@[simp] theorem raiseSighting_slc (n : Nat) (w : Sighted) (s : State) : (raiseSighting n w s).slc = s.slc := by
  unfold raiseSighting; simp
@[simp] theorem raiseSighting_crg (n : Nat) (w : Sighted) (s : State) : (raiseSighting n w s).crg = s.crg := by
  unfold raiseSighting; simp
@[simp] theorem raiseSighting_persons (n : Nat) (w : Sighted) (s : State) : (raiseSighting n w s).persons = s.persons := by
  unfold raiseSighting; simp
@[simp] theorem raiseSighting_scl (n : Nat) (w : Sighted) (s : State) : (raiseSighting n w s).scl = s.scl := by
  unfold raiseSighting; simp
@[simp] theorem raiseSighting_chu (n : Nat) (w : Sighted) (s : State) : (raiseSighting n w s).chu = s.chu := by
  unfold raiseSighting; simp
@[simp] theorem raiseSighting_fst (n : Nat) (w : Sighted) (s : State) : (raiseSighting n w s).fst = s.fst := by
  unfold raiseSighting; simp
@[simp] theorem raiseSighting_cau (n : Nat) (w : Sighted) (s : State) : (raiseSighting n w s).cau = s.cau := by
  unfold raiseSighting; simp
@[simp] theorem raiseSighting_lscs (n : Nat) (w : Sighted) (s : State) : (raiseSighting n w s).lscs = s.lscs := by
  unfold raiseSighting; simp
@[simp] theorem raiseSighting_pru (n : Nat) (w : Sighted) (s : State) : (raiseSighting n w s).pru = s.pru := by
  unfold raiseSighting; simp
@[simp] theorem raiseSighting_jnl (n : Nat) (w : Sighted) (s : State) : (raiseSighting n w s).jnl = s.jnl := by
  unfold raiseSighting; simp
@[simp] theorem raiseSighting_ports (n : Nat) (w : Sighted) (s : State) : (raiseSighting n w s).ports = s.ports := by
  unfold raiseSighting; simp
@[simp] theorem raiseSighting_boundary (n : Nat) (w : Sighted) (s : State) : (raiseSighting n w s).boundary = s.boundary := by
  unfold raiseSighting; simp
@[simp] theorem raiseSighting_free (n : Nat) (w : Sighted) (s : State) : (raiseSighting n w s).free = s.free := by
  unfold raiseSighting; simp
@[simp] theorem raiseSighting_lines (n : Nat) (w : Sighted) (s : State) : (raiseSighting n w s).lines = s.lines := by
  unfold raiseSighting; simp
@[simp] theorem raiseSighting_pending (n : Nat) (w : Sighted) (s : State) : (raiseSighting n w s).pending = s.pending := by
  unfold raiseSighting; simp

/-! ### sighting -/

@[simp] theorem sighting_slc (n : Nat) (p : Person) (x : Word32) (w : Sighted) (s : State) : (sighting n p x w s).slc = s.slc := by
  unfold sighting; split <;> simp
@[simp] theorem sighting_scl (n : Nat) (p : Person) (x : Word32) (w : Sighted) (s : State) : (sighting n p x w s).scl = s.scl := by
  unfold sighting; split <;> simp
@[simp] theorem sighting_chu (n : Nat) (p : Person) (x : Word32) (w : Sighted) (s : State) : (sighting n p x w s).chu = s.chu := by
  unfold sighting; split <;> simp
@[simp] theorem sighting_fst (n : Nat) (p : Person) (x : Word32) (w : Sighted) (s : State) : (sighting n p x w s).fst = s.fst := by
  unfold sighting; split <;> simp
@[simp] theorem sighting_cau (n : Nat) (p : Person) (x : Word32) (w : Sighted) (s : State) : (sighting n p x w s).cau = s.cau := by
  unfold sighting; split <;> simp
@[simp] theorem sighting_lscs (n : Nat) (p : Person) (x : Word32) (w : Sighted) (s : State) : (sighting n p x w s).lscs = s.lscs := by
  unfold sighting; split <;> simp
@[simp] theorem sighting_ports (n : Nat) (p : Person) (x : Word32) (w : Sighted) (s : State) : (sighting n p x w s).ports = s.ports := by
  unfold sighting; split <;> simp
@[simp] theorem sighting_boundary (n : Nat) (p : Person) (x : Word32) (w : Sighted) (s : State) : (sighting n p x w s).boundary = s.boundary := by
  unfold sighting; split <;> simp
@[simp] theorem sighting_free (n : Nat) (p : Person) (x : Word32) (w : Sighted) (s : State) : (sighting n p x w s).free = s.free := by
  unfold sighting; split <;> simp
@[simp] theorem sighting_lines (n : Nat) (p : Person) (x : Word32) (w : Sighted) (s : State) : (sighting n p x w s).lines = s.lines := by
  unfold sighting; split <;> simp
@[simp] theorem sighting_pending (n : Nat) (p : Person) (x : Word32) (w : Sighted) (s : State) : (sighting n p x w s).pending = s.pending := by
  unfold sighting; split <;> simp

/-! ### nearTest -/

@[simp] theorem nearTest_slc (n : Nat) (s : State) : (nearTest n s).slc = s.slc := by
  unfold nearTest; (repeat' split) <;> simp
@[simp] theorem nearTest_crg (n : Nat) (s : State) : (nearTest n s).crg = s.crg := by
  unfold nearTest; (repeat' split) <;> simp
@[simp] theorem nearTest_persons (n : Nat) (s : State) : (nearTest n s).persons = s.persons := by
  unfold nearTest; (repeat' split) <;> simp
@[simp] theorem nearTest_scl (n : Nat) (s : State) : (nearTest n s).scl = s.scl := by
  unfold nearTest; (repeat' split) <;> simp
@[simp] theorem nearTest_chu (n : Nat) (s : State) : (nearTest n s).chu = s.chu := by
  unfold nearTest; (repeat' split) <;> simp
@[simp] theorem nearTest_cau (n : Nat) (s : State) : (nearTest n s).cau = s.cau := by
  unfold nearTest; (repeat' split) <;> simp
@[simp] theorem nearTest_lscs (n : Nat) (s : State) : (nearTest n s).lscs = s.lscs := by
  unfold nearTest; (repeat' split) <;> simp
@[simp] theorem nearTest_pru (n : Nat) (s : State) : (nearTest n s).pru = s.pru := by
  unfold nearTest; (repeat' split) <;> simp
@[simp] theorem nearTest_jnl (n : Nat) (s : State) : (nearTest n s).jnl = s.jnl := by
  unfold nearTest; (repeat' split) <;> simp
@[simp] theorem nearTest_ports (n : Nat) (s : State) : (nearTest n s).ports = s.ports := by
  unfold nearTest; (repeat' split) <;> simp
@[simp] theorem nearTest_boundary (n : Nat) (s : State) : (nearTest n s).boundary = s.boundary := by
  unfold nearTest; (repeat' split) <;> simp
@[simp] theorem nearTest_free (n : Nat) (s : State) : (nearTest n s).free = s.free := by
  unfold nearTest; (repeat' split) <;> simp
@[simp] theorem nearTest_lines (n : Nat) (s : State) : (nearTest n s).lines = s.lines := by
  unfold nearTest; (repeat' split) <;> simp
@[simp] theorem nearTest_pending (n : Nat) (s : State) : (nearTest n s).pending = s.pending := by
  unfold nearTest; (repeat' split) <;> simp

/-! ### showBalance -/

@[simp] theorem showBalance_slc (n : Nat) (s : State) : (showBalance n s).slc = s.slc := by
  unfold showBalance; (repeat' split) <;> simp
@[simp] theorem showBalance_crg (n : Nat) (s : State) : (showBalance n s).crg = s.crg := by
  unfold showBalance; (repeat' split) <;> simp
@[simp] theorem showBalance_persons (n : Nat) (s : State) : (showBalance n s).persons = s.persons := by
  unfold showBalance; (repeat' split) <;> simp
@[simp] theorem showBalance_scl (n : Nat) (s : State) : (showBalance n s).scl = s.scl := by
  unfold showBalance; (repeat' split) <;> simp
@[simp] theorem showBalance_chu (n : Nat) (s : State) : (showBalance n s).chu = s.chu := by
  unfold showBalance; (repeat' split) <;> simp
@[simp] theorem showBalance_cau (n : Nat) (s : State) : (showBalance n s).cau = s.cau := by
  unfold showBalance; (repeat' split) <;> simp
@[simp] theorem showBalance_lscs (n : Nat) (s : State) : (showBalance n s).lscs = s.lscs := by
  unfold showBalance; (repeat' split) <;> simp
@[simp] theorem showBalance_pru (n : Nat) (s : State) : (showBalance n s).pru = s.pru := by
  unfold showBalance; (repeat' split) <;> simp
@[simp] theorem showBalance_jnl (n : Nat) (s : State) : (showBalance n s).jnl = s.jnl := by
  unfold showBalance; (repeat' split) <;> simp
@[simp] theorem showBalance_ports (n : Nat) (s : State) : (showBalance n s).ports = s.ports := by
  unfold showBalance; (repeat' split) <;> simp
@[simp] theorem showBalance_boundary (n : Nat) (s : State) : (showBalance n s).boundary = s.boundary := by
  unfold showBalance; (repeat' split) <;> simp
@[simp] theorem showBalance_free (n : Nat) (s : State) : (showBalance n s).free = s.free := by
  unfold showBalance; (repeat' split) <;> simp
@[simp] theorem showBalance_lines (n : Nat) (s : State) : (showBalance n s).lines = s.lines := by
  unfold showBalance; (repeat' split) <;> simp
@[simp] theorem showBalance_pending (n : Nat) (s : State) : (showBalance n s).pending = s.pending := by
  unfold showBalance; (repeat' split) <;> simp

/-! ### postFromTill -/

@[simp] theorem postFromTill_slc (n : Nat) (f : Folio) (s : State) : (postFromTill n f s).slc = s.slc := by
  unfold postFromTill; dsimp only; split <;> simp
@[simp] theorem postFromTill_crg (n : Nat) (f : Folio) (s : State) : (postFromTill n f s).crg = s.crg := by
  unfold postFromTill; dsimp only; split <;> simp
@[simp] theorem postFromTill_persons (n : Nat) (f : Folio) (s : State) : (postFromTill n f s).persons = s.persons := by
  unfold postFromTill; dsimp only; split <;> simp
@[simp] theorem postFromTill_scl (n : Nat) (f : Folio) (s : State) : (postFromTill n f s).scl = s.scl := by
  unfold postFromTill; dsimp only; split <;> simp
@[simp] theorem postFromTill_chu (n : Nat) (f : Folio) (s : State) : (postFromTill n f s).chu = s.chu := by
  unfold postFromTill; dsimp only; split <;> simp
@[simp] theorem postFromTill_cau (n : Nat) (f : Folio) (s : State) : (postFromTill n f s).cau = s.cau := by
  unfold postFromTill; dsimp only; split <;> simp
@[simp] theorem postFromTill_lscs (n : Nat) (f : Folio) (s : State) : (postFromTill n f s).lscs = s.lscs := by
  unfold postFromTill; dsimp only; split <;> simp
@[simp] theorem postFromTill_pru (n : Nat) (f : Folio) (s : State) : (postFromTill n f s).pru = s.pru := by
  unfold postFromTill; dsimp only; split <;> simp
@[simp] theorem postFromTill_jnl (n : Nat) (f : Folio) (s : State) : (postFromTill n f s).jnl = s.jnl := by
  unfold postFromTill; dsimp only; split <;> simp
@[simp] theorem postFromTill_ports (n : Nat) (f : Folio) (s : State) : (postFromTill n f s).ports = s.ports := by
  unfold postFromTill; dsimp only; split <;> simp
@[simp] theorem postFromTill_boundary (n : Nat) (f : Folio) (s : State) : (postFromTill n f s).boundary = s.boundary := by
  unfold postFromTill; dsimp only; split <;> simp
@[simp] theorem postFromTill_free (n : Nat) (f : Folio) (s : State) : (postFromTill n f s).free = s.free := by
  unfold postFromTill; dsimp only; split <;> simp
@[simp] theorem postFromTill_lines (n : Nat) (f : Folio) (s : State) : (postFromTill n f s).lines = s.lines := by
  unfold postFromTill; dsimp only; split <;> simp
@[simp] theorem postFromTill_pending (n : Nat) (f : Folio) (s : State) : (postFromTill n f s).pending = s.pending := by
  unfold postFromTill; dsimp only; split <;> simp

end Sys2Proof.Machine
end

