-- ==== Sys2Proof/Laws/Boundary.lean ====
section
/-! SUPPORT. The work of a boundary: the fields that each stage leaves as they were, and that `settle` brings a boundary to its end. -/
namespace Sys2Proof.Machine

/-- A money record with a free slot is taken in (R173). -/
theorem offerMoney_admitted {s : State} (h : 1 ≤ s.jnl.freeSlots) (r : Record) : offerMoney r s = (some s.jnl.next, takeIn r s) := by
  unfold offerMoney; rw [if_pos h]

/-- A money record with no free slot is refused (R173, R175). -/
theorem offerMoney_refused {s : State} (h : ¬ 1 ≤ s.jnl.freeSlots) (r : Record) :
    offerMoney r s = (none, raise .journalFull (subj r.kind.code) {} s) := by
  unfold offerMoney; rw [if_neg h]

/-! ### takeZoneShift -/

@[simp] theorem takeZoneShift_slc (s : State) : (takeZoneShift s).slc = s.slc := by
  unfold takeZoneShift; split <;> simp
@[simp] theorem takeZoneShift_crg (s : State) : (takeZoneShift s).crg = s.crg := by
  unfold takeZoneShift; split <;> simp
@[simp] theorem takeZoneShift_persons (s : State) : (takeZoneShift s).persons = s.persons := by
  unfold takeZoneShift; split <;> simp
@[simp] theorem takeZoneShift_chu (s : State) : (takeZoneShift s).chu = s.chu := by
  unfold takeZoneShift; split <;> simp
@[simp] theorem takeZoneShift_fst (s : State) : (takeZoneShift s).fst = s.fst := by
  unfold takeZoneShift; split <;> simp
@[simp] theorem takeZoneShift_cau (s : State) : (takeZoneShift s).cau = s.cau := by
  unfold takeZoneShift; split <;> simp
@[simp] theorem takeZoneShift_lscs (s : State) : (takeZoneShift s).lscs = s.lscs := by
  unfold takeZoneShift; split <;> simp
@[simp] theorem takeZoneShift_pru (s : State) : (takeZoneShift s).pru = s.pru := by
  unfold takeZoneShift; split <;> simp
@[simp] theorem takeZoneShift_ports (s : State) : (takeZoneShift s).ports = s.ports := by
  unfold takeZoneShift; split <;> simp
@[simp] theorem takeZoneShift_boundary (s : State) : (takeZoneShift s).boundary = s.boundary := by
  unfold takeZoneShift; split <;> simp
@[simp] theorem takeZoneShift_free (s : State) : (takeZoneShift s).free = s.free := by
  unfold takeZoneShift; split <;> simp
@[simp] theorem takeZoneShift_lines (s : State) : (takeZoneShift s).lines = s.lines := by
  unfold takeZoneShift; split <;> simp
@[simp] theorem takeZoneShift_pending (s : State) : (takeZoneShift s).pending = s.pending := by
  unfold takeZoneShift; split <;> simp

/-! ### expireHold -/

@[simp] theorem expireHold_slc (n m : Nat) (s : State) : (expireHold n m s).slc = s.slc := by
  unfold expireHold; by_cases h : 1 ≤ s.jnl.freeSlots
  · simp only [offerMoney_admitted h]; (repeat' split) <;> simp
  · simp only [offerMoney_refused h]; (repeat' split) <;> simp
@[simp] theorem expireHold_crg (n m : Nat) (s : State) : (expireHold n m s).crg = s.crg := by
  unfold expireHold; by_cases h : 1 ≤ s.jnl.freeSlots
  · simp only [offerMoney_admitted h]; (repeat' split) <;> simp
  · simp only [offerMoney_refused h]; (repeat' split) <;> simp
@[simp] theorem expireHold_persons (n m : Nat) (s : State) : (expireHold n m s).persons = s.persons := by
  unfold expireHold; by_cases h : 1 ≤ s.jnl.freeSlots
  · simp only [offerMoney_admitted h]; (repeat' split) <;> simp
  · simp only [offerMoney_refused h]; (repeat' split) <;> simp
@[simp] theorem expireHold_scl (n m : Nat) (s : State) : (expireHold n m s).scl = s.scl := by
  unfold expireHold; by_cases h : 1 ≤ s.jnl.freeSlots
  · simp only [offerMoney_admitted h]; (repeat' split) <;> simp
  · simp only [offerMoney_refused h]; (repeat' split) <;> simp
@[simp] theorem expireHold_chu (n m : Nat) (s : State) : (expireHold n m s).chu = s.chu := by
  unfold expireHold; by_cases h : 1 ≤ s.jnl.freeSlots
  · simp only [offerMoney_admitted h]; (repeat' split) <;> simp
  · simp only [offerMoney_refused h]; (repeat' split) <;> simp
@[simp] theorem expireHold_cau (n m : Nat) (s : State) : (expireHold n m s).cau = s.cau := by
  unfold expireHold; by_cases h : 1 ≤ s.jnl.freeSlots
  · simp only [offerMoney_admitted h]; (repeat' split) <;> simp
  · simp only [offerMoney_refused h]; (repeat' split) <;> simp
@[simp] theorem expireHold_lscs (n m : Nat) (s : State) : (expireHold n m s).lscs = s.lscs := by
  unfold expireHold; by_cases h : 1 ≤ s.jnl.freeSlots
  · simp only [offerMoney_admitted h]; (repeat' split) <;> simp
  · simp only [offerMoney_refused h]; (repeat' split) <;> simp
@[simp] theorem expireHold_pru (n m : Nat) (s : State) : (expireHold n m s).pru = s.pru := by
  unfold expireHold; by_cases h : 1 ≤ s.jnl.freeSlots
  · simp only [offerMoney_admitted h]; (repeat' split) <;> simp
  · simp only [offerMoney_refused h]; (repeat' split) <;> simp
@[simp] theorem expireHold_ports (n m : Nat) (s : State) : (expireHold n m s).ports = s.ports := by
  unfold expireHold; by_cases h : 1 ≤ s.jnl.freeSlots
  · simp only [offerMoney_admitted h]; (repeat' split) <;> simp
  · simp only [offerMoney_refused h]; (repeat' split) <;> simp
@[simp] theorem expireHold_boundary (n m : Nat) (s : State) : (expireHold n m s).boundary = s.boundary := by
  unfold expireHold; by_cases h : 1 ≤ s.jnl.freeSlots
  · simp only [offerMoney_admitted h]; (repeat' split) <;> simp
  · simp only [offerMoney_refused h]; (repeat' split) <;> simp
@[simp] theorem expireHold_free (n m : Nat) (s : State) : (expireHold n m s).free = s.free := by
  unfold expireHold; by_cases h : 1 ≤ s.jnl.freeSlots
  · simp only [offerMoney_admitted h]; (repeat' split) <;> simp
  · simp only [offerMoney_refused h]; (repeat' split) <;> simp
@[simp] theorem expireHold_lines (n m : Nat) (s : State) : (expireHold n m s).lines = s.lines := by
  unfold expireHold; by_cases h : 1 ≤ s.jnl.freeSlots
  · simp only [offerMoney_admitted h]; (repeat' split) <;> simp
  · simp only [offerMoney_refused h]; (repeat' split) <;> simp
@[simp] theorem expireHold_pending (n m : Nat) (s : State) : (expireHold n m s).pending = s.pending := by
  unfold expireHold; by_cases h : 1 ≤ s.jnl.freeSlots
  · simp only [offerMoney_admitted h]; (repeat' split) <;> simp
  · simp only [offerMoney_refused h]; (repeat' split) <;> simp

/-! ### showCounts -/

@[simp] theorem showCounts_slc (b : Nat) (c : Counts) (g : Fin 4) (s : State) : (showCounts b c g s).slc = s.slc := by
  unfold showCounts; split <;> simp
@[simp] theorem showCounts_atu (b : Nat) (c : Counts) (g : Fin 4) (s : State) : (showCounts b c g s).atu = s.atu := by
  unfold showCounts; split <;> simp
@[simp] theorem showCounts_crg (b : Nat) (c : Counts) (g : Fin 4) (s : State) : (showCounts b c g s).crg = s.crg := by
  unfold showCounts; split <;> simp
@[simp] theorem showCounts_persons (b : Nat) (c : Counts) (g : Fin 4) (s : State) : (showCounts b c g s).persons = s.persons := by
  unfold showCounts; split <;> simp
@[simp] theorem showCounts_scl (b : Nat) (c : Counts) (g : Fin 4) (s : State) : (showCounts b c g s).scl = s.scl := by
  unfold showCounts; split <;> simp
@[simp] theorem showCounts_chu (b : Nat) (c : Counts) (g : Fin 4) (s : State) : (showCounts b c g s).chu = s.chu := by
  unfold showCounts; split <;> simp
@[simp] theorem showCounts_fst (b : Nat) (c : Counts) (g : Fin 4) (s : State) : (showCounts b c g s).fst = s.fst := by
  unfold showCounts; split <;> simp
@[simp] theorem showCounts_cau (b : Nat) (c : Counts) (g : Fin 4) (s : State) : (showCounts b c g s).cau = s.cau := by
  unfold showCounts; split <;> simp
@[simp] theorem showCounts_lscs (b : Nat) (c : Counts) (g : Fin 4) (s : State) : (showCounts b c g s).lscs = s.lscs := by
  unfold showCounts; split <;> simp
@[simp] theorem showCounts_jnl (b : Nat) (c : Counts) (g : Fin 4) (s : State) : (showCounts b c g s).jnl = s.jnl := by
  unfold showCounts; split <;> simp
@[simp] theorem showCounts_boundary (b : Nat) (c : Counts) (g : Fin 4) (s : State) : (showCounts b c g s).boundary = s.boundary := by
  unfold showCounts; split <;> simp
@[simp] theorem showCounts_free (b : Nat) (c : Counts) (g : Fin 4) (s : State) : (showCounts b c g s).free = s.free := by
  unfold showCounts; split <;> simp
@[simp] theorem showCounts_lines (b : Nat) (c : Counts) (g : Fin 4) (s : State) : (showCounts b c g s).lines = s.lines := by
  unfold showCounts; split <;> simp
@[simp] theorem showCounts_pending (b : Nat) (c : Counts) (g : Fin 4) (s : State) : (showCounts b c g s).pending = s.pending := by
  unfold showCounts; split <;> simp

/-! ### showAll -/

@[simp] theorem showAll_slc (b : Nat) (s : State) : (showAll b s).slc = s.slc := by
  unfold showAll; simp
@[simp] theorem showAll_atu (b : Nat) (s : State) : (showAll b s).atu = s.atu := by
  unfold showAll; simp
@[simp] theorem showAll_crg (b : Nat) (s : State) : (showAll b s).crg = s.crg := by
  unfold showAll; simp
@[simp] theorem showAll_persons (b : Nat) (s : State) : (showAll b s).persons = s.persons := by
  unfold showAll; simp
@[simp] theorem showAll_scl (b : Nat) (s : State) : (showAll b s).scl = s.scl := by
  unfold showAll; simp
@[simp] theorem showAll_chu (b : Nat) (s : State) : (showAll b s).chu = s.chu := by
  unfold showAll; simp
@[simp] theorem showAll_fst (b : Nat) (s : State) : (showAll b s).fst = s.fst := by
  unfold showAll; simp
@[simp] theorem showAll_cau (b : Nat) (s : State) : (showAll b s).cau = s.cau := by
  unfold showAll; simp
@[simp] theorem showAll_lscs (b : Nat) (s : State) : (showAll b s).lscs = s.lscs := by
  unfold showAll; simp
@[simp] theorem showAll_jnl (b : Nat) (s : State) : (showAll b s).jnl = s.jnl := by
  unfold showAll; simp
@[simp] theorem showAll_boundary (b : Nat) (s : State) : (showAll b s).boundary = s.boundary := by
  unfold showAll; simp
@[simp] theorem showAll_free (b : Nat) (s : State) : (showAll b s).free = s.free := by
  unfold showAll; simp
@[simp] theorem showAll_lines (b : Nat) (s : State) : (showAll b s).lines = s.lines := by
  unfold showAll; simp
@[simp] theorem showAll_pending (b : Nat) (s : State) : (showAll b s).pending = s.pending := by
  unfold showAll; simp

/-! ### finishBoundary -/

@[simp] theorem finishBoundary_slc (b : Nat) (s : State) : (finishBoundary b s).slc = s.slc := by
  unfold finishBoundary; simp
@[simp] theorem finishBoundary_atu (b : Nat) (s : State) : (finishBoundary b s).atu = s.atu := by
  unfold finishBoundary; simp
@[simp] theorem finishBoundary_crg (b : Nat) (s : State) : (finishBoundary b s).crg = s.crg := by
  unfold finishBoundary; simp
@[simp] theorem finishBoundary_persons (b : Nat) (s : State) : (finishBoundary b s).persons = s.persons := by
  unfold finishBoundary; simp
@[simp] theorem finishBoundary_scl (b : Nat) (s : State) : (finishBoundary b s).scl = s.scl := by
  unfold finishBoundary; simp
@[simp] theorem finishBoundary_chu (b : Nat) (s : State) : (finishBoundary b s).chu = s.chu := by
  unfold finishBoundary; simp
@[simp] theorem finishBoundary_fst (b : Nat) (s : State) : (finishBoundary b s).fst = s.fst := by
  unfold finishBoundary; simp
@[simp] theorem finishBoundary_cau (b : Nat) (s : State) : (finishBoundary b s).cau = s.cau := by
  unfold finishBoundary; simp
@[simp] theorem finishBoundary_lscs (b : Nat) (s : State) : (finishBoundary b s).lscs = s.lscs := by
  unfold finishBoundary; simp
@[simp] theorem finishBoundary_jnl (b : Nat) (s : State) : (finishBoundary b s).jnl = s.jnl := by
  unfold finishBoundary; simp
@[simp] theorem finishBoundary_free (b : Nat) (s : State) : (finishBoundary b s).free = s.free := by
  unfold finishBoundary; simp
@[simp] theorem finishBoundary_lines (b : Nat) (s : State) : (finishBoundary b s).lines = s.lines := by
  unfold finishBoundary; simp
@[simp] theorem finishBoundary_pending (b : Nat) (s : State) : (finishBoundary b s).pending = s.pending := by
  unfold finishBoundary; simp

/-! ### reachTimer -/

@[simp] theorem reachTimer_slc (b : Nat) (s : State) : (reachTimer b s).slc = s.slc := by
  unfold reachTimer; split <;> simp
@[simp] theorem reachTimer_atu (b : Nat) (s : State) : (reachTimer b s).atu = s.atu := by
  unfold reachTimer; split <;> simp
@[simp] theorem reachTimer_crg (b : Nat) (s : State) : (reachTimer b s).crg = s.crg := by
  unfold reachTimer; split <;> simp
@[simp] theorem reachTimer_persons (b : Nat) (s : State) : (reachTimer b s).persons = s.persons := by
  unfold reachTimer; split <;> simp
@[simp] theorem reachTimer_scl (b : Nat) (s : State) : (reachTimer b s).scl = s.scl := by
  unfold reachTimer; split <;> simp
@[simp] theorem reachTimer_chu (b : Nat) (s : State) : (reachTimer b s).chu = s.chu := by
  unfold reachTimer; split <;> simp
@[simp] theorem reachTimer_fst (b : Nat) (s : State) : (reachTimer b s).fst = s.fst := by
  unfold reachTimer; split <;> simp
@[simp] theorem reachTimer_cau (b : Nat) (s : State) : (reachTimer b s).cau = s.cau := by
  unfold reachTimer; split <;> simp
@[simp] theorem reachTimer_lscs (b : Nat) (s : State) : (reachTimer b s).lscs = s.lscs := by
  unfold reachTimer; split <;> simp
@[simp] theorem reachTimer_jnl (b : Nat) (s : State) : (reachTimer b s).jnl = s.jnl := by
  unfold reachTimer; split <;> simp
@[simp] theorem reachTimer_free (b : Nat) (s : State) : (reachTimer b s).free = s.free := by
  unfold reachTimer; split <;> simp
@[simp] theorem reachTimer_lines (b : Nat) (s : State) : (reachTimer b s).lines = s.lines := by
  unfold reachTimer; split <;> simp
@[simp] theorem reachTimer_pending (b : Nat) (s : State) : (reachTimer b s).pending = s.pending := by
  unfold reachTimer; split <;> simp

/-! ### reachHolds -/

@[simp] theorem reachHolds_slc (b : Nat) (d : List (Nat × Nat)) (s : State) : (reachHolds b d s).slc = s.slc := by
  unfold reachHolds; split <;> simp
@[simp] theorem reachHolds_atu (b : Nat) (d : List (Nat × Nat)) (s : State) : (reachHolds b d s).atu = s.atu := by
  unfold reachHolds; split <;> simp
@[simp] theorem reachHolds_crg (b : Nat) (d : List (Nat × Nat)) (s : State) : (reachHolds b d s).crg = s.crg := by
  unfold reachHolds; split <;> simp
@[simp] theorem reachHolds_persons (b : Nat) (d : List (Nat × Nat)) (s : State) : (reachHolds b d s).persons = s.persons := by
  unfold reachHolds; split <;> simp
@[simp] theorem reachHolds_scl (b : Nat) (d : List (Nat × Nat)) (s : State) : (reachHolds b d s).scl = s.scl := by
  unfold reachHolds; split <;> simp
@[simp] theorem reachHolds_chu (b : Nat) (d : List (Nat × Nat)) (s : State) : (reachHolds b d s).chu = s.chu := by
  unfold reachHolds; split <;> simp
@[simp] theorem reachHolds_fst (b : Nat) (d : List (Nat × Nat)) (s : State) : (reachHolds b d s).fst = s.fst := by
  unfold reachHolds; split <;> simp
@[simp] theorem reachHolds_cau (b : Nat) (d : List (Nat × Nat)) (s : State) : (reachHolds b d s).cau = s.cau := by
  unfold reachHolds; split <;> simp
@[simp] theorem reachHolds_lscs (b : Nat) (d : List (Nat × Nat)) (s : State) : (reachHolds b d s).lscs = s.lscs := by
  unfold reachHolds; split <;> simp
@[simp] theorem reachHolds_jnl (b : Nat) (d : List (Nat × Nat)) (s : State) : (reachHolds b d s).jnl = s.jnl := by
  unfold reachHolds; split <;> simp
@[simp] theorem reachHolds_free (b : Nat) (d : List (Nat × Nat)) (s : State) : (reachHolds b d s).free = s.free := by
  unfold reachHolds; split <;> simp
@[simp] theorem reachHolds_lines (b : Nat) (d : List (Nat × Nat)) (s : State) : (reachHolds b d s).lines = s.lines := by
  unfold reachHolds; split <;> simp
@[simp] theorem reachHolds_pending (b : Nat) (d : List (Nat × Nat)) (s : State) : (reachHolds b d s).pending = s.pending := by
  unfold reachHolds; split <;> simp

/-! ### reachClose -/

@[simp] theorem reachClose_slc (b : Nat) (s : State) : (reachClose b s).slc = s.slc := by
  unfold reachClose; split <;> simp
@[simp] theorem reachClose_atu (b : Nat) (s : State) : (reachClose b s).atu = s.atu := by
  unfold reachClose; split <;> simp
@[simp] theorem reachClose_crg (b : Nat) (s : State) : (reachClose b s).crg = s.crg := by
  unfold reachClose; split <;> simp
@[simp] theorem reachClose_persons (b : Nat) (s : State) : (reachClose b s).persons = s.persons := by
  unfold reachClose; split <;> simp
@[simp] theorem reachClose_scl (b : Nat) (s : State) : (reachClose b s).scl = s.scl := by
  unfold reachClose; split <;> simp
@[simp] theorem reachClose_chu (b : Nat) (s : State) : (reachClose b s).chu = s.chu := by
  unfold reachClose; split <;> simp
@[simp] theorem reachClose_fst (b : Nat) (s : State) : (reachClose b s).fst = s.fst := by
  unfold reachClose; split <;> simp
@[simp] theorem reachClose_cau (b : Nat) (s : State) : (reachClose b s).cau = s.cau := by
  unfold reachClose; split <;> simp
@[simp] theorem reachClose_lscs (b : Nat) (s : State) : (reachClose b s).lscs = s.lscs := by
  unfold reachClose; split <;> simp
@[simp] theorem reachClose_jnl (b : Nat) (s : State) : (reachClose b s).jnl = s.jnl := by
  unfold reachClose; split <;> simp
@[simp] theorem reachClose_free (b : Nat) (s : State) : (reachClose b s).free = s.free := by
  unfold reachClose; split <;> simp
@[simp] theorem reachClose_lines (b : Nat) (s : State) : (reachClose b s).lines = s.lines := by
  unfold reachClose; split <;> simp
@[simp] theorem reachClose_pending (b : Nat) (s : State) : (reachClose b s).pending = s.pending := by
  unfold reachClose; split <;> simp

/-! ### reachZone -/

@[simp] theorem reachZone_slc (b : Nat) (s : State) : (reachZone b s).slc = s.slc := by
  unfold reachZone; split <;> simp
@[simp] theorem reachZone_atu (b : Nat) (s : State) : (reachZone b s).atu = s.atu := by
  unfold reachZone; split <;> simp
@[simp] theorem reachZone_crg (b : Nat) (s : State) : (reachZone b s).crg = s.crg := by
  unfold reachZone; split <;> simp
@[simp] theorem reachZone_persons (b : Nat) (s : State) : (reachZone b s).persons = s.persons := by
  unfold reachZone; split <;> simp
@[simp] theorem reachZone_scl (b : Nat) (s : State) : (reachZone b s).scl = s.scl := by
  unfold reachZone; split <;> simp
@[simp] theorem reachZone_chu (b : Nat) (s : State) : (reachZone b s).chu = s.chu := by
  unfold reachZone; split <;> simp
@[simp] theorem reachZone_fst (b : Nat) (s : State) : (reachZone b s).fst = s.fst := by
  unfold reachZone; split <;> simp
@[simp] theorem reachZone_cau (b : Nat) (s : State) : (reachZone b s).cau = s.cau := by
  unfold reachZone; split <;> simp
@[simp] theorem reachZone_lscs (b : Nat) (s : State) : (reachZone b s).lscs = s.lscs := by
  unfold reachZone; split <;> simp
@[simp] theorem reachZone_jnl (b : Nat) (s : State) : (reachZone b s).jnl = s.jnl := by
  unfold reachZone; split <;> simp
@[simp] theorem reachZone_free (b : Nat) (s : State) : (reachZone b s).free = s.free := by
  unfold reachZone; split <;> simp
@[simp] theorem reachZone_lines (b : Nat) (s : State) : (reachZone b s).lines = s.lines := by
  unfold reachZone; split <;> simp
@[simp] theorem reachZone_pending (b : Nat) (s : State) : (reachZone b s).pending = s.pending := by
  unfold reachZone; split <;> simp

/-! ### passZone -/

@[simp] theorem passZone_slc (b : Nat) (s : State) : (passZone b s).slc = s.slc := by
  unfold passZone; simp
@[simp] theorem passZone_crg (b : Nat) (s : State) : (passZone b s).crg = s.crg := by
  unfold passZone; simp
@[simp] theorem passZone_persons (b : Nat) (s : State) : (passZone b s).persons = s.persons := by
  unfold passZone; simp
@[simp] theorem passZone_chu (b : Nat) (s : State) : (passZone b s).chu = s.chu := by
  unfold passZone; simp
@[simp] theorem passZone_fst (b : Nat) (s : State) : (passZone b s).fst = s.fst := by
  unfold passZone; simp
@[simp] theorem passZone_cau (b : Nat) (s : State) : (passZone b s).cau = s.cau := by
  unfold passZone; simp
@[simp] theorem passZone_lscs (b : Nat) (s : State) : (passZone b s).lscs = s.lscs := by
  unfold passZone; simp
@[simp] theorem passZone_free (b : Nat) (s : State) : (passZone b s).free = s.free := by
  unfold passZone; simp
@[simp] theorem passZone_lines (b : Nat) (s : State) : (passZone b s).lines = s.lines := by
  unfold passZone; simp
@[simp] theorem passZone_pending (b : Nat) (s : State) : (passZone b s).pending = s.pending := by
  unfold passZone; simp

/-! ### makeDayClose -/

@[simp] theorem makeDayClose_slc (s : State) : (makeDayClose s).slc = s.slc := by
  unfold makeDayClose; by_cases h : 1 ≤ s.jnl.freeSlots
  · simp [offerMoney_admitted h]
  · simp [offerMoney_refused h]
@[simp] theorem makeDayClose_crg (s : State) : (makeDayClose s).crg = s.crg := by
  unfold makeDayClose; by_cases h : 1 ≤ s.jnl.freeSlots
  · simp [offerMoney_admitted h]
  · simp [offerMoney_refused h]
@[simp] theorem makeDayClose_persons (s : State) : (makeDayClose s).persons = s.persons := by
  unfold makeDayClose; by_cases h : 1 ≤ s.jnl.freeSlots
  · simp [offerMoney_admitted h]
  · simp [offerMoney_refused h]
@[simp] theorem makeDayClose_chu (s : State) : (makeDayClose s).chu = s.chu := by
  unfold makeDayClose; by_cases h : 1 ≤ s.jnl.freeSlots
  · simp [offerMoney_admitted h]
  · simp [offerMoney_refused h]
@[simp] theorem makeDayClose_cau (s : State) : (makeDayClose s).cau = s.cau := by
  unfold makeDayClose; by_cases h : 1 ≤ s.jnl.freeSlots
  · simp [offerMoney_admitted h]
  · simp [offerMoney_refused h]
@[simp] theorem makeDayClose_lscs (s : State) : (makeDayClose s).lscs = s.lscs := by
  unfold makeDayClose; by_cases h : 1 ≤ s.jnl.freeSlots
  · simp [offerMoney_admitted h]
  · simp [offerMoney_refused h]
@[simp] theorem makeDayClose_pru (s : State) : (makeDayClose s).pru = s.pru := by
  unfold makeDayClose; by_cases h : 1 ≤ s.jnl.freeSlots
  · simp [offerMoney_admitted h]
  · simp [offerMoney_refused h]
@[simp] theorem makeDayClose_ports (s : State) : (makeDayClose s).ports = s.ports := by
  unfold makeDayClose; by_cases h : 1 ≤ s.jnl.freeSlots
  · simp [offerMoney_admitted h]
  · simp [offerMoney_refused h]
@[simp] theorem makeDayClose_boundary (s : State) : (makeDayClose s).boundary = s.boundary := by
  unfold makeDayClose; by_cases h : 1 ≤ s.jnl.freeSlots
  · simp [offerMoney_admitted h]
  · simp [offerMoney_refused h]
@[simp] theorem makeDayClose_free (s : State) : (makeDayClose s).free = s.free := by
  unfold makeDayClose; by_cases h : 1 ≤ s.jnl.freeSlots
  · simp [offerMoney_admitted h]
  · simp [offerMoney_refused h]
@[simp] theorem makeDayClose_lines (s : State) : (makeDayClose s).lines = s.lines := by
  unfold makeDayClose; by_cases h : 1 ≤ s.jnl.freeSlots
  · simp [offerMoney_admitted h]
  · simp [offerMoney_refused h]
@[simp] theorem makeDayClose_pending (s : State) : (makeDayClose s).pending = s.pending := by
  unfold makeDayClose; by_cases h : 1 ≤ s.jnl.freeSlots
  · simp [offerMoney_admitted h]
  · simp [offerMoney_refused h]

/-! ### passClose -/

@[simp] theorem passClose_slc (b : Nat) (s : State) : (passClose b s).slc = s.slc := by
  unfold passClose; simp
@[simp] theorem passClose_crg (b : Nat) (s : State) : (passClose b s).crg = s.crg := by
  unfold passClose; simp
@[simp] theorem passClose_persons (b : Nat) (s : State) : (passClose b s).persons = s.persons := by
  unfold passClose; simp
@[simp] theorem passClose_chu (b : Nat) (s : State) : (passClose b s).chu = s.chu := by
  unfold passClose; simp
@[simp] theorem passClose_cau (b : Nat) (s : State) : (passClose b s).cau = s.cau := by
  unfold passClose; simp
@[simp] theorem passClose_lscs (b : Nat) (s : State) : (passClose b s).lscs = s.lscs := by
  unfold passClose; simp
@[simp] theorem passClose_free (b : Nat) (s : State) : (passClose b s).free = s.free := by
  unfold passClose; simp
@[simp] theorem passClose_lines (b : Nat) (s : State) : (passClose b s).lines = s.lines := by
  unfold passClose; simp
@[simp] theorem passClose_pending (b : Nat) (s : State) : (passClose b s).pending = s.pending := by
  unfold passClose; simp

/-! ### passHold -/

@[simp] theorem passHold_slc (b : Nat) (d : List (Nat × Nat)) (s : State) : (passHold b d s).slc = s.slc := by
  unfold passHold; split <;> simp
@[simp] theorem passHold_crg (b : Nat) (d : List (Nat × Nat)) (s : State) : (passHold b d s).crg = s.crg := by
  unfold passHold; split <;> simp
@[simp] theorem passHold_persons (b : Nat) (d : List (Nat × Nat)) (s : State) : (passHold b d s).persons = s.persons := by
  unfold passHold; split <;> simp
@[simp] theorem passHold_scl (b : Nat) (d : List (Nat × Nat)) (s : State) : (passHold b d s).scl = s.scl := by
  unfold passHold; split <;> simp
@[simp] theorem passHold_chu (b : Nat) (d : List (Nat × Nat)) (s : State) : (passHold b d s).chu = s.chu := by
  unfold passHold; split <;> simp
@[simp] theorem passHold_cau (b : Nat) (d : List (Nat × Nat)) (s : State) : (passHold b d s).cau = s.cau := by
  unfold passHold; split <;> simp
@[simp] theorem passHold_lscs (b : Nat) (d : List (Nat × Nat)) (s : State) : (passHold b d s).lscs = s.lscs := by
  unfold passHold; split <;> simp
@[simp] theorem passHold_free (b : Nat) (d : List (Nat × Nat)) (s : State) : (passHold b d s).free = s.free := by
  unfold passHold; split <;> simp
@[simp] theorem passHold_lines (b : Nat) (d : List (Nat × Nat)) (s : State) : (passHold b d s).lines = s.lines := by
  unfold passHold; split <;> simp
@[simp] theorem passHold_pending (b : Nat) (d : List (Nat × Nat)) (s : State) : (passHold b d s).pending = s.pending := by
  unfold passHold; split <;> simp

/-! ### passTimer -/

@[simp] theorem passTimer_slc (b : Nat) (s : State) : (passTimer b s).slc = s.slc := by
  unfold passTimer; simp
@[simp] theorem passTimer_atu (b : Nat) (s : State) : (passTimer b s).atu = s.atu := by
  unfold passTimer; simp
@[simp] theorem passTimer_crg (b : Nat) (s : State) : (passTimer b s).crg = s.crg := by
  unfold passTimer; simp
@[simp] theorem passTimer_persons (b : Nat) (s : State) : (passTimer b s).persons = s.persons := by
  unfold passTimer; simp
@[simp] theorem passTimer_scl (b : Nat) (s : State) : (passTimer b s).scl = s.scl := by
  unfold passTimer; simp
@[simp] theorem passTimer_chu (b : Nat) (s : State) : (passTimer b s).chu = s.chu := by
  unfold passTimer; simp
@[simp] theorem passTimer_fst (b : Nat) (s : State) : (passTimer b s).fst = s.fst := by
  unfold passTimer; simp
@[simp] theorem passTimer_cau (b : Nat) (s : State) : (passTimer b s).cau = s.cau := by
  unfold passTimer; simp
@[simp] theorem passTimer_lscs (b : Nat) (s : State) : (passTimer b s).lscs = s.lscs := by
  unfold passTimer; simp
@[simp] theorem passTimer_jnl (b : Nat) (s : State) : (passTimer b s).jnl = s.jnl := by
  unfold passTimer; simp
@[simp] theorem passTimer_free (b : Nat) (s : State) : (passTimer b s).free = s.free := by
  unfold passTimer; simp
@[simp] theorem passTimer_lines (b : Nat) (s : State) : (passTimer b s).lines = s.lines := by
  unfold passTimer; simp
@[simp] theorem passTimer_pending (b : Nat) (s : State) : (passTimer b s).pending = s.pending := by
  unfold passTimer; simp

end Sys2Proof.Machine
end

