-- ==== Sys2Proof/Laws/Shared.lean ====
section
/-! SUPPORT. What every command shares: outstanding boundary work brought to its end, a frame handed on, a request judged and answered. -/
namespace Sys2Proof.Machine

/-! ### settle -/

theorem settleZone_none {s : State} (h : s.boundary = none) : settleZone s = s := by
  unfold settleZone; rw [h]

theorem settleClose_none {s : State} (h : s.boundary = none) : settleClose s = s := by
  unfold settleClose; simp only [settleZone_none h, h]

theorem settleHolds_none {s : State} (h : s.boundary = none) : settleHolds s = s := by
  unfold settleHolds; simp only [settleClose_none h, h]

/-- With no boundary work outstanding there is nothing to settle. -/
theorem settle_none {s : State} (h : s.boundary = none) : settle s = s := by
  unfold settle; simp only [settleHolds_none h, h]

@[simp] theorem settleZone_slc (s : State) : (settleZone s).slc = s.slc := by
  unfold settleZone; (repeat' split) <;> simp
@[simp] theorem settleZone_crg (s : State) : (settleZone s).crg = s.crg := by
  unfold settleZone; (repeat' split) <;> simp
@[simp] theorem settleZone_persons (s : State) : (settleZone s).persons = s.persons := by
  unfold settleZone; (repeat' split) <;> simp
@[simp] theorem settleZone_chu (s : State) : (settleZone s).chu = s.chu := by
  unfold settleZone; (repeat' split) <;> simp
@[simp] theorem settleZone_cau (s : State) : (settleZone s).cau = s.cau := by
  unfold settleZone; (repeat' split) <;> simp
@[simp] theorem settleZone_lscs (s : State) : (settleZone s).lscs = s.lscs := by
  unfold settleZone; (repeat' split) <;> simp
@[simp] theorem settleZone_free (s : State) : (settleZone s).free = s.free := by
  unfold settleZone; (repeat' split) <;> simp
@[simp] theorem settleZone_lines (s : State) : (settleZone s).lines = s.lines := by
  unfold settleZone; (repeat' split) <;> simp
@[simp] theorem settleZone_pending (s : State) : (settleZone s).pending = s.pending := by
  unfold settleZone; (repeat' split) <;> simp

@[simp] theorem settleClose_slc (s : State) : (settleClose s).slc = s.slc := by
  unfold settleClose; dsimp only; (repeat' split) <;> simp
@[simp] theorem settleClose_crg (s : State) : (settleClose s).crg = s.crg := by
  unfold settleClose; dsimp only; (repeat' split) <;> simp
@[simp] theorem settleClose_persons (s : State) : (settleClose s).persons = s.persons := by
  unfold settleClose; dsimp only; (repeat' split) <;> simp
@[simp] theorem settleClose_chu (s : State) : (settleClose s).chu = s.chu := by
  unfold settleClose; dsimp only; (repeat' split) <;> simp
@[simp] theorem settleClose_cau (s : State) : (settleClose s).cau = s.cau := by
  unfold settleClose; dsimp only; (repeat' split) <;> simp
@[simp] theorem settleClose_lscs (s : State) : (settleClose s).lscs = s.lscs := by
  unfold settleClose; dsimp only; (repeat' split) <;> simp
@[simp] theorem settleClose_free (s : State) : (settleClose s).free = s.free := by
  unfold settleClose; dsimp only; (repeat' split) <;> simp
@[simp] theorem settleClose_lines (s : State) : (settleClose s).lines = s.lines := by
  unfold settleClose; dsimp only; (repeat' split) <;> simp
@[simp] theorem settleClose_pending (s : State) : (settleClose s).pending = s.pending := by
  unfold settleClose; dsimp only; (repeat' split) <;> simp

/-- Expiring holds one after another leaves what expiring one leaves. -/
theorem expireHolds_keep {β : Type} (f : State → β) (k : ∀ n m s, f (expireHold n m s) = f s) (due : List (Nat × Nat)) (s : State) :
    f (due.foldl (fun u d => expireHold d.1 d.2 u) s) = f s := by
  induction due generalizing s with
  | nil => rfl
  | cons d due ih => rw [List.foldl_cons, ih, k]

@[simp] theorem settleHolds_slc (s : State) : (settleHolds s).slc = s.slc := by
  unfold settleHolds; dsimp only; (repeat' split) <;> simp [expireHolds_keep (State.slc) expireHold_slc]
@[simp] theorem settleHolds_crg (s : State) : (settleHolds s).crg = s.crg := by
  unfold settleHolds; dsimp only; (repeat' split) <;> simp [expireHolds_keep (State.crg) expireHold_crg]
@[simp] theorem settleHolds_persons (s : State) : (settleHolds s).persons = s.persons := by
  unfold settleHolds; dsimp only; (repeat' split) <;> simp [expireHolds_keep (State.persons) expireHold_persons]
@[simp] theorem settleHolds_chu (s : State) : (settleHolds s).chu = s.chu := by
  unfold settleHolds; dsimp only; (repeat' split) <;> simp [expireHolds_keep (State.chu) expireHold_chu]
@[simp] theorem settleHolds_cau (s : State) : (settleHolds s).cau = s.cau := by
  unfold settleHolds; dsimp only; (repeat' split) <;> simp [expireHolds_keep (State.cau) expireHold_cau]
@[simp] theorem settleHolds_lscs (s : State) : (settleHolds s).lscs = s.lscs := by
  unfold settleHolds; dsimp only; (repeat' split) <;> simp [expireHolds_keep (State.lscs) expireHold_lscs]
@[simp] theorem settleHolds_free (s : State) : (settleHolds s).free = s.free := by
  unfold settleHolds; dsimp only; (repeat' split) <;> simp [expireHolds_keep (State.free) expireHold_free]
@[simp] theorem settleHolds_lines (s : State) : (settleHolds s).lines = s.lines := by
  unfold settleHolds; dsimp only; (repeat' split) <;> simp [expireHolds_keep (State.lines) expireHold_lines]
@[simp] theorem settleHolds_pending (s : State) : (settleHolds s).pending = s.pending := by
  unfold settleHolds; dsimp only; (repeat' split) <;> simp [expireHolds_keep (State.pending) expireHold_pending]

@[simp] theorem settle_slc (s : State) : (settle s).slc = s.slc := by
  unfold settle; dsimp only; (repeat' split) <;> simp
@[simp] theorem settle_crg (s : State) : (settle s).crg = s.crg := by
  unfold settle; dsimp only; (repeat' split) <;> simp
@[simp] theorem settle_persons (s : State) : (settle s).persons = s.persons := by
  unfold settle; dsimp only; (repeat' split) <;> simp
@[simp] theorem settle_chu (s : State) : (settle s).chu = s.chu := by
  unfold settle; dsimp only; (repeat' split) <;> simp
@[simp] theorem settle_cau (s : State) : (settle s).cau = s.cau := by
  unfold settle; dsimp only; (repeat' split) <;> simp
@[simp] theorem settle_lscs (s : State) : (settle s).lscs = s.lscs := by
  unfold settle; dsimp only; (repeat' split) <;> simp
@[simp] theorem settle_free (s : State) : (settle s).free = s.free := by
  unfold settle; dsimp only; (repeat' split) <;> simp
@[simp] theorem settle_lines (s : State) : (settle s).lines = s.lines := by
  unfold settle; dsimp only; (repeat' split) <;> simp
@[simp] theorem settle_pending (s : State) : (settle s).pending = s.pending := by
  unfold settle; dsimp only; (repeat' split) <;> simp

/-! ### Frames and requests -/

/-- Sending a frame forms it behind those of its port. -/
@[simp] theorem send_eq (p : Port) (f : Frame) (s : State) : send p f s = formed p f s := rfl

/-- No two ports have one number. -/
theorem portIndex_inj {p q : Port} (h : portIndex p = portIndex q) : p = q := by
  cases p <;> cases q <;> simp [portIndex] at h ⊢ <;> omega

/-- The frames of a port after one is formed on a port. -/
theorem txOf_formed (p q : Port) (f : Frame) (s : State) : (formed p f s).txOf q = if p = q then s.txOf q ++ [f] else s.txOf q := by
  unfold State.txOf
  rw [formed_ports]
  by_cases h : p = q
  · subst h; simp
  · have n : (portIndex p).val ≠ (portIndex q).val := fun e => h (portIndex_inj (Fin.ext e))
    simp [n, h]

/-- The frames of a port after a port's queue is set. -/
theorem txOf_setTx (p q : Port) (l : List Frame) (s : State) : (setTx p l s).txOf q = if p = q then l else s.txOf q := by
  unfold State.txOf
  rw [setTx_ports]
  by_cases h : p = q
  · subst h; simp
  · have n : (portIndex p).val ≠ (portIndex q).val := fun e => h (portIndex_inj (Fin.ext e))
    simp [n, h]

/-- The receiver of a port after a port's receiver is set. -/
theorem rxOf_setRx (p q : Port) (r : Receiver) (s : State) : (setRx p r s).rxOf q = if p = q then r else s.rxOf q := by
  unfold State.rxOf
  rw [setRx_ports]
  by_cases h : p = q
  · subst h; simp
  · have n : (portIndex p).val ≠ (portIndex q).val := fun e => h (portIndex_inj (Fin.ext e))
    simp [n, h]

@[simp] theorem txOf_setRx (p q : Port) (r : Receiver) (s : State) : (setRx p r s).txOf q = s.txOf q := rfl
@[simp] theorem txOf_heard (p q : Port) (s : State) : (heard p s).txOf q = s.txOf q := rfl
@[simp] theorem rxOf_formed (p q : Port) (f : Frame) (s : State) : (formed p f s).rxOf q = s.rxOf q := rfl

/-- The frames of a port after a request has been answered. -/
theorem txOf_answered (code tag : Byte) (e : Status) (x : Payload) (s : State) (q : Port) :
    (answered code tag e x s).txOf q = if .service = q then s.txOf q ++ [replyFrame code tag e x true] else s.txOf q := by
  show (formed _ _ _).txOf q = _
  rw [txOf_formed]; rfl

@[simp] theorem rxOf_answered (code tag : Byte) (e : Status) (x : Payload) (s : State) (q : Port) : (answered code tag e x s).rxOf q = s.rxOf q := rfl

/-- A frame is handed on at once when no boundary work is outstanding. -/
theorem received_none {s : State} (h : s.boundary = none) (p : Port) : received p s = heard p s := by
  unfold received; rw [settle_none h]; rfl

/-- The receiver of a port that has handed a frame on. -/
theorem heard_eq (p : Port) (s : State) : heard p s = setRx p .hunting s := rfl

@[simp] theorem heard_linkFree (p : Port) (s : State) : (heard p s).linkFree = s.linkFree := rfl

/-- What `State.ready` says. -/
theorem ready_iff (s : State) : s.ready = true ↔ s.boundary = none ∧ s.slc.exchange = false ∧ s.slc.transfer = none := by
  unfold State.ready State.linkFree
  cases s.boundary <;> cases s.slc.exchange <;> cases s.slc.transfer <;> simp

theorem linkFree_iff (s : State) : s.linkFree = true ↔ s.slc.exchange = false ∧ s.slc.transfer = none := by
  unfold State.linkFree
  cases s.slc.exchange <;> cases s.slc.transfer <;> simp

/-- A reply of an exchange. -/
theorem execute_eq (code tag : Byte) (own : State → Answer × State) (s : State) :
    execute code tag own s = answered code tag (own s).1.status (own s).1.payload (own s).2 := rfl

/-- A reply formed without execution. -/
theorem sendReply_eq (code tag : Byte) (a : Answer) (s : State) : sendReply code tag a false s = turnedAway code tag a.status a.payload s := rfl

/-- Fields that are judged by their own table alone. -/
theorem judgeFields_noCross (fields : List Field) (body : List Byte) : judgeFields fields noCross body = decodeFields fields body := by
  unfold judgeFields; cases decodeFields fields body <;> rfl

/-- A request with no fields. -/
@[simp] theorem judgeFields_nil : judgeFields [] noCross [] = .ok [] := rfl

/-- A request that the link can take and whose fields suit is executed (R189, R190). -/
theorem hostRequest_ready {s : State} (h : s.ready = true) {code : Byte} {fields : List Field} {cross : Values → Option Nat}
    {own : Values → State → Answer × State} {tag : Byte} {body : List Byte} {v : Values} (d : judgeFields fields cross body = .ok v) :
    hostRequest code fields cross own tag body s =
      answered code tag (own v (heard .service s)).1.status (own v (heard .service s)).1.payload (own v (heard .service s)).2 := by
  have b := ((ready_iff s).1 h).1
  have l : s.linkFree = true := (linkFree_iff s).2 ((ready_iff s).1 h).2
  unfold hostRequest
  simp only [received_none b, heard_linkFree, l, if_true, d, execute_eq]

/-- A request whose fields do not suit is answered MALFORMED (R190 test 4). -/
theorem hostRequest_malformed {s : State} (h : s.ready = true) {code : Byte} {fields : List Field} {cross : Values → Option Nat}
    {own : Values → State → Answer × State} {tag : Byte} {body : List Byte} {i : Nat} (d : judgeFields fields cross body = .error i) :
    hostRequest code fields cross own tag body s = turnedAway code tag .malformed (.field i) (heard .service s) := by
  have b := ((ready_iff s).1 h).1
  have l : s.linkFree = true := (linkFree_iff s).2 ((ready_iff s).1 h).2
  unfold hostRequest
  simp only [received_none b, heard_linkFree, l, if_true, d, sendReply_eq]

/-- A request is answered BUSY while an exchange or a transfer is open (R190 test 3). -/
theorem hostRequest_busy {s : State} (b : s.boundary = none) (l : s.linkFree = false) {code : Byte} {fields : List Field}
    {cross : Values → Option Nat} {own : Values → State → Answer × State} {tag : Byte} {body : List Byte} :
    hostRequest code fields cross own tag body s = turnedAway code tag .busy .nothing (heard .service s) := by
  unfold hostRequest
  simp only [received_none b, heard_linkFree, l, sendReply_eq]; rfl

end Sys2Proof.Machine
end

