-- ==== Sys2Proof/Laws/Table.lean ====
section
/-! SUPPORT. What reading, writing and freeing a number of a table do, and that they keep the canonical form. -/
namespace Sys2Proof.Machine

variable {α : Type}

@[simp] theorem Table.get_nil (k : Nat) : Table.get ([] : Table α) k = none := rfl

theorem Table.get_cons (i : Nat) (a : α) (t : Table α) (k : Nat) :
    Table.get ((i, a) :: t) k = if i = k then some a else Table.get t k := rfl

@[simp] theorem Table.get_set_same (t : Table α) (k : Nat) (v : α) : (t.set k v).get k = some v := by
  induction t with
  | nil => simp [Table.set, Table.get]
  | cons e t ih =>
    simp only [Table.set]
    split
    · simp [Table.get]
    · split
      · simp [Table.get]
      · rw [Table.get_cons, if_neg (by omega), ih]

theorem Table.get_set_other (t : Table α) (k j : Nat) (v : α) (h : j ≠ k) : (t.set k v).get j = t.get j := by
  induction t with
  | nil => simp [Table.set, Table.get, Ne.symm h]
  | cons e t ih =>
    simp only [Table.set]
    split
    · rw [Table.get_cons, if_neg (Ne.symm h)]
    · split
      · subst k; rw [Table.get_cons, Table.get_cons, if_neg (Ne.symm h), if_neg (Ne.symm h)]
      · rw [Table.get_cons, Table.get_cons, ih]

theorem Table.get_set (t : Table α) (k j : Nat) (v : α) : (t.set k v).get j = if j = k then some v else t.get j := by
  split
  · subst j; exact Table.get_set_same t k v
  · exact Table.get_set_other t k j v ‹_›

@[simp] theorem Table.set_set (t : Table α) (k : Nat) (v w : α) : (t.set k v).set k w = t.set k w := by
  induction t with
  | nil => simp [Table.set]
  | cons e t ih =>
    simp only [Table.set]
    split
    · simp [Table.set]
    · split
      · simp [Table.set]
      · simp only [Table.set]; rw [if_neg ‹_›, if_neg ‹_›, ih]

@[simp] theorem Table.get_erase_same (t : Table α) (k : Nat) : (t.erase k).get k = none := by
  induction t with
  | nil => rfl
  | cons e t ih =>
    unfold Table.erase at ih ⊢
    rw [List.filter_cons]
    split
    · rename_i h; rw [Table.get_cons, if_neg (by simpa using h)]; exact ih
    · exact ih

theorem Table.get_erase_other (t : Table α) (k j : Nat) (h : j ≠ k) : (t.erase k).get j = t.get j := by
  induction t with
  | nil => rfl
  | cons e t ih =>
    unfold Table.erase at ih ⊢
    rw [List.filter_cons]
    split
    · rw [Table.get_cons, Table.get_cons, ih]
    · rename_i g
      have : e.1 = k := by simpa using g
      rw [Table.get_cons, if_neg (by omega), ih]

theorem Table.get_mapVals (f : α → α) (t : Table α) (k : Nat) : (t.mapVals f).get k = (t.get k).map f := by
  induction t with
  | nil => rfl
  | cons e t ih =>
    show Table.get ((e.1, f e.2) :: Table.mapVals f t) k = _
    rw [Table.get_cons, Table.get_cons, ih]; split <;> rfl

/-- A record that a number reads is listed under it. -/
theorem Table.mem_of_get {t : Table α} {k : Nat} {a : α} (h : t.get k = some a) : (k, a) ∈ t := by
  induction t with
  | nil => simp at h
  | cons e t ih =>
    rw [Table.get_cons] at h
    split at h
    · cases h; subst k; exact List.mem_cons_self
    · exact List.mem_cons_of_mem _ (ih h)

/-- The canonical form, written as a chain of strictly rising numbers. -/
theorem Table.wf_iff (t : Table α) : t.wf = true ↔ t.Pairwise (fun a b => a.1 < b.1) := by simp [Table.wf]

@[simp] theorem Table.wf_nil : Table.wf ([] : Table α) = true := rfl

/-- In the canonical form a listed record is the one its number reads. -/
theorem Table.get_of_mem {t : Table α} (w : t.wf = true) {k : Nat} {a : α} (h : (k, a) ∈ t) : t.get k = some a := by
  rw [Table.wf_iff] at w
  induction t with
  | nil => simp at h
  | cons e t ih =>
    rw [List.pairwise_cons] at w
    rw [Table.get_cons]
    rcases List.mem_cons.1 h with h | h
    · cases h; simp
    · have : e.1 < k := w.1 _ h
      rw [if_neg (by omega)]; exact ih w.2 h

/-- The numbers of a table after a write. -/
theorem Table.mem_set {t : Table α} {k : Nat} {v : α} {e : Nat × α} (h : e ∈ t.set k v) : e = (k, v) ∨ e ∈ t := by
  induction t with
  | nil => simp [Table.set] at h; exact .inl h
  | cons x t ih =>
    simp only [Table.set] at h
    split at h
    · simpa using h
    · split at h
      · rcases List.mem_cons.1 h with h | h
        · exact .inl h
        · exact .inr (List.mem_cons_of_mem _ h)
      · rcases List.mem_cons.1 h with h | h
        · exact .inr (by rw [h]; exact List.mem_cons_self)
        · exact (ih h).imp id (List.mem_cons_of_mem _)

theorem Table.wf_set {t : Table α} (w : t.wf = true) (k : Nat) (v : α) : (t.set k v).wf = true := by
  rw [Table.wf_iff] at *
  induction t with
  | nil => simp [Table.set]
  | cons x t ih =>
    rw [List.pairwise_cons] at w
    simp only [Table.set]
    split
    · rename_i h
      refine List.pairwise_cons.2 ⟨fun b hb => ?_, List.pairwise_cons.2 w⟩
      rcases List.mem_cons.1 hb with hb | hb
      · rw [hb]; exact h
      · exact Nat.lt_trans h (w.1 _ hb)
    · split
      · rename_i h; subst h; exact List.pairwise_cons.2 ⟨w.1, w.2⟩
      · refine List.pairwise_cons.2 ⟨fun b hb => ?_, ih w.2⟩
        rcases Table.mem_set hb with hb | hb
        · rw [hb]; simp only; omega
        · exact w.1 _ hb

theorem Table.wf_filter {t : Table α} (w : t.wf = true) (p : Nat × α → Bool) : Table.wf (t.filter p) = true := by
  rw [Table.wf_iff] at *; exact w.filter p

theorem Table.wf_erase {t : Table α} (w : t.wf = true) (k : Nat) : (t.erase k).wf = true := Table.wf_filter w _

theorem Table.wf_mapVals {t : Table α} (w : t.wf = true) (f : α → α) : (t.mapVals f).wf = true := by
  rw [Table.wf_iff] at *
  unfold Table.mapVals
  exact List.pairwise_map.2 w

/-! ### Vectors -/

theorem mapVec_eq {β γ : Type} {n : Nat} (f : β → γ) (v : Vector β n) : mapVec f v = v.map f := by
  apply Vector.toArray_inj.1
  rcases v with ⟨⟨l⟩, _⟩
  simp [mapVec]

@[simp] theorem mapVec_getElem {β γ : Type} {n : Nat} (f : β → γ) (v : Vector β n) (i : Nat) (h : i < n) : (mapVec f v)[i] = f v[i] := by
  rw [mapVec_eq, Vector.getElem_map]

end Sys2Proof.Machine
end

