-- ==== Sys2Proof/Laws/Operations.lean ====
section
/-! SUPPORT. What the shared operations over attention and the journal can do, said once for each. -/
namespace Sys2Proof.Machine

/-! ### Attention -/

/-- No two causes have one place. -/
theorem Cause.place_inj {x y : Cause} (h : x.place = y.place) : x = y := by
  have e : x.number = y.number := by
    have p := congrArg Fin.val h
    have a : 1 ≤ x.number := by cases x <;> decide
    have b : 1 ≤ y.number := by cases y <;> decide
    simp only [Cause.place] at p
    omega
  revert e
  cases x <;> (intro e; cases y <;> first | rfl | exact absurd e (by decide))

/-- A raise changes the ATU alone. -/
theorem raise_eq (c : Cause) (x : Word32) (d : Detail) (s : State) : raise c x d s = { s with atu := (raise c x d s).atu } := by
  unfold raise; split <;> rfl

/-- What a raise makes of the ATU depends on the ATU and the voyage time alone. -/
theorem raise_atu_congr {s t : State} (a : s.atu = t.atu) (v : s.scl.voyage = t.scl.voyage) (c : Cause) (x : Word32) (d : Detail) :
    (raise c x d s).atu = (raise c x d t).atu := by
  unfold raise State.cause; rw [a, v]; split
  · exact a
  · rfl

/-- A raise of a cause of priority 0 does nothing (R195). -/
theorem raise_silenced {c : Cause} {s : State} (h : (s.cause c).priority = 0) (x : Word32) (d : Detail) : raise c x d s = s := by
  unfold raise; rw [if_pos h]

/-- A raise leaves every other cause as it was. -/
theorem cause_raise_other {c e : Cause} (h : e ≠ c) (x : Word32) (d : Detail) (s : State) : (raise c x d s).cause e = s.cause e := by
  unfold raise; split
  · rfl
  · have n : c.place.val ≠ e.place.val := fun p => h (Cause.place_inj (Fin.ext p)).symm
    simp [State.cause, Atu.withCauses, n]

/-- The entry of the cause raised (R195). -/
theorem cause_raise_same {c : Cause} {s : State} (h : (s.cause c).priority ≠ 0) (x : Word32) (d : Detail) :
    (raise c x d s).cause c = (s.cause c).raised x d s.scl.voyage := by
  unfold raise; rw [if_neg h]
  simp [State.cause, Atu.withCauses]

/-! ### The journal -/

/-- The free count of a journal. -/
theorem freeSlots_eq (j : Jnl) : j.freeSlots = 16384 - j.used := rfl

/-- A record written while a slot is free raises the used count by one (R171). -/
theorem push_used {j : Jnl} (h : j.used < 16384) (r : Record) (now : Nat) : (j.push r now).used = j.used + 1 := by
  unfold Jnl.used Jnl.ahead Jnl.push at *
  simp only [BitVec.toNat_sub, BitVec.toNat_add, BitVec.ofNat_eq_ofNat, BitVec.toNat_ofNat] at *
  omega

/-- Taking a record in writes it, and changes the journal and the causes alone. -/
theorem takeIn_eq (r : Record) (s : State) :
    takeIn r s = { s with jnl := s.jnl.push r s.scl.voyage, atu := (takeIn r s).atu } := by
  unfold takeIn; dsimp only; split
  · rw [raise_eq]
  · rfl

@[simp] theorem takeIn_jnl (r : Record) (s : State) : (takeIn r s).jnl = s.jnl.push r s.scl.voyage := by
  rw [takeIn_eq]

/-- Taking a record in can raise JOURNAL HIGH and no other cause (R175). -/
theorem cause_takeIn {e : Cause} (h : e ≠ .journalHigh) (r : Record) (s : State) : (takeIn r s).cause e = s.cause e := by
  unfold takeIn; dsimp only; split
  · rw [cause_raise_other h]; rfl
  · rfl

/-- A non-money record with no drops counted and more than 1,024 slots free is taken in (R173). -/
theorem offerEvent_admitted {s : State} (d : s.jnl.drops = 0) (u : s.jnl.used < 15360) (r : Record) : offerEvent r s = takeIn r s := by
  have g : offerGap s = s := by unfold offerGap; rw [if_neg (by omega)]
  have f : Config.moneyReserve < s.jnl.freeSlots := by rw [freeSlots_eq]; simp; omega
  unfold offerEvent; dsimp only; rw [g, if_pos f]

/-- A non-money record with at most 1,024 slots free is dropped and counted (R173, R174). -/
theorem offerEvent_dropped {s : State} (u : 15360 ≤ s.jnl.used) (r : Record) : offerEvent r s = { s with jnl := s.jnl.dropped } := by
  have f : ¬ Config.moneyReserve < s.jnl.freeSlots := by rw [freeSlots_eq]; simp; omega
  have g : offerGap s = s := by unfold offerGap; rw [if_neg (fun h => f h.2)]
  unfold offerEvent; dsimp only; rw [g, if_neg f]

/-! ### Pending modes -/

/-- What a request that sets a node's pending mode does: the nodes and the turn of one segment change, and nothing else (R124, R141). -/
theorem replaceMode_eq (i : Fin 8) (a : Nat) (m : LockMode) (s : State) :
    replaceMode i a m s =
      putLsc i { s.lsc i with
                 nodes := (match (s.lsc i).nodes.get a with
                   | some n => (s.lsc i).nodes.set a { n with pendingMode := m }
                   | none => (s.lsc i).nodes),
                 turn := (s.lsc i).turn.map (·.replacedAt a) } s := by
  unfold replaceMode changeNode
  cases h : (s.lsc i).nodes.get a <;> simp_all [putLsc, State.lsc]

/-! ### The parts of a reply -/

/-- A money field takes three bytes (R54). -/
@[simp] theorem moneyBytes_length (x : Int) : (moneyBytes x).length = 3 := rfl

/-- A split form takes four bytes (R55, R188). -/
@[simp] theorem splitBytes_length (p : Split) : p.bytes.length = 4 := rfl

/-- A part that the spec lays out nowhere leaves the other parts their place in the frame (log 15). -/
theorem othersBytes_length (p : Payload) (k : Nat) : (ReplyPart.others.bytes p k).length ≤ 160 := by
  simp only [ReplyPart.bytes, List.length_take]; omega

end Sys2Proof.Machine
end

