-- ==== Sys2Proof/Tests/Slice0.lean ====
section
/-! SUPPORT. The model's own tests: the checks of WellFormed, one step at a time on small states with results taken from the spec's tables and worked
sequences, and for each statement of Certificates/Slice0/Obligations.lean states and operands that meet the hypotheses of its clauses. -/
namespace Sys2Proof.Tests
open Sys2Proof Sys2Proof.Machine

/-! ### Helpers -/

/-- The command answers a next state of which the test holds. -/
def runs (c : Instr) (s : State) (p : State → Bool) : Bool :=
  match exec c s with
  | .next t => p t
  | .fault _ => false
  | .refused _ => false

/-- The last reply formed on the service link. -/
def lastReply (t : State) : Option (Status × Payload) :=
  match (t.txOf .service).getLast? with
  | some (.reply r) => some (r.status, r.payload)
  | _ => none

/-- The command is answered with this status and these fields. -/
def answers (c : Instr) (s : State) (status : Status) (payload : Payload) : Bool :=
  runs c s (fun t => decide (lastReply t = some (status, payload)))

/-- The verdict, reason and detail 2 of the last till answer. -/
def lastVerdict (t : State) : Option (Verdict × Option Reason × Nat) :=
  match (t.txOf .till).getLast? with
  | some (.tillAnswer a) => some (a.body.verdict, a.body.reason, a.body.detail2)
  | _ => none

/-- The controller in LOADING. -/
def loading : State := State.reset
/-- The controller in SERVING. -/
def serving : State := { State.reset with slc := { Slc.reset with service := .serving } }
/-- The controller at a voyage time. -/
def atTime (voyage : Nat) (s : State) : State := { s with scl := { s.scl with voyage := voyage } }
/-- The controller with the transfer open. -/
def withTransfer (tr : Transfer) (s : State) : State := { s with slc := { s.slc with transfer := some tr, windowMs := some 2000 } }
/-- The controller with an exchange open. -/
def withExchange (s : State) : State := { s with slc := { s.slc with exchange := true } }
/-- A journal with so many records used and as many delivered, its next sequence given, without the records. -/
def withUsed (used : Nat) (next : Word32) (drops : Nat) (s : State) : State :=
  { s with jnl := { Jnl.reset with next := next, delivered := next, released := next - BitVec.ofNat 32 used, drops := drops } }
/-- A card of a person, ACTIVE or in the state given. -/
def cardOn (serial : Word32) (person : Nat) (state : CardState) : Card :=
  { serial := serial, person := person, state := state, keyLevel := .noKey, mask := 0, failStreak := 0, issuedAt := 0, lastUse := none }
/-- The controller with the card in its home slot. -/
def withCard (serial : Word32) (person : Nat) (state : CardState) (s : State) : State :=
  putCard (homeSlot serial) (cardOn serial person state) s
/-- A person of a class, folio and presence. -/
def personOf (cls : PersonClass) (folio : Nat) (presence : Presence) : Person := newPerson cls folio presence 0
/-- The controller with the person in use and counted. -/
def withPerson (n : Nat) (p : Person) (s : State) : State :=
  let t := putPerson n p s
  { t with pru := t.pru.setCount p.ident.cls p.att.presence (t.pru.count p.ident.cls p.att.presence + 1) }
/-- A folio without holds. -/
def folioOf (state : FolioState) (balance limit : Int) : Folio :=
  { state := state, balance := balance, limit := limit, holds := [], personCount := 0, near := false, limited := false }
/-- A hold of a number and amount. -/
def holdOf (number : Nat) (amount : Int) (openedAt : Nat) : Hold :=
  { number := number, venue := 9, till := 31, person := 2650, amount := amount, openedAt := openedAt, fallenDue := false }
/-- The controller with the purge in a phase. -/
def inPhase (phase : Phase) (s : State) : State := setPurge { Purge.reset with phase := phase } s

/-! ### WellFormed: a term that each check refuses -/

theorem test_wf_body : (Instr.status 0 (List.replicate 1023 0)).wellFormed = false ∧ (Instr.status 0 []).wellFormed = true := by decide +kernel
theorem test_wf_known_kind : (Instr.invalid 0x07 0 []).wellFormed = false ∧ (Instr.invalid 0x08 0 []).wellFormed = true := by decide
theorem test_wf_till_kind : (Instr.malformed 0x04 0 []).wellFormed = false ∧ (Instr.malformed 0x05 0 []).wellFormed = true := by decide
theorem test_wf_length : (Instr.discardedFrame .till (.badLength 2)).wellFormed = false
    ∧ (Instr.discardedFrame .till (.badLength 1025)).wellFormed = true := by decide
theorem test_wf_crc : (Instr.discardedFrame .till (.badCrc (envelope 1 0 [9]))).wellFormed = false
    ∧ (Instr.discardedFrame .till (.badCrc [0xB5, 2, 0, 1, 0, 0, 0])).wellFormed = true := by decide +kernel
theorem test_wf_unsuited : (Instr.discardedFrame (.segment 0) (.unsuited 0x14)).wellFormed = false
    ∧ (Instr.discardedFrame (.station 0) (.unsuited 0x14)).wellFormed = true
    ∧ (Instr.discardedFrame .service (.unsuited 0x14)).wellFormed = false := by decide
theorem test_wf_pulses : (Instr.requestPulse 0 40).wellFormed = false ∧ (Instr.requestPulse 0 39).wellFormed = true
    ∧ (Instr.restartPulse 0 0).wellFormed = false ∧ (Instr.restartPulse 0 1000).wellFormed = false
    ∧ (Instr.restartPulse 0 1).wellFormed = true := by decide

/-! ### Decode and step -/

/-- The table gives no row any bits: no word spells a command, and withFetchWord leaves the state as it is. -/
theorem test_no_word_spells_a_command : decodeTableWord 16 7 = none ∧ State.reset.withFetchWord 16 7 = State.reset := by
  constructor <;> rfl
/-- R26: the tick at the front of the queue is executed and leaves the queue. -/
theorem test_step_takes_the_front : (match step { State.reset with pending := [.tick, .status 1 []] } with
    | .next t => decide (t.scl.voyage = 1 ∧ t.pending = [.status 1 []])
    | _ => false) = true := by decide
theorem witness_StepRunsTheFrontCommand : State.reset.pending = [] ∧ State.reset.lines = [] := by decide

/-! ### Power-on, RESTART and the judging of requests (chapter 10) -/

/-- R202, R109: from a controller in SERVING with till 5 configured. -/
theorem test_power_on : runs .powerOn (putTill 5 { Till.reset with venue := some 3 } (atTime 99 serving)) (fun t =>
    decide (t.slc.service = .loading ∧ t.chu.tills[(5 : Fin 128)].venue = none ∧ t.scl.voyage = 0)) = true := by decide
/-- R201, R94, R40: a WORKING till is answered NOT SERVING; the clock and the journal stand. -/
theorem test_restart : runs (.restart 9 []) (putTill 5 { Till.reset with venue := some 3, working := some ⟨17, 1, 1, 1, 3, false, .openTab 5⟩ }
    (withUsed 4 100 2 (atTime 99 serving))) (fun t =>
    decide (lastVerdict t = some (.notServing, none, 0) ∧ lastReply t = some (.done, .nothing) ∧ t.scl.voyage = 99 ∧ t.jnl.next = 100
      ∧ t.slc.service = .loading)) = true := by decide +kernel
theorem witness_RestartKeepsJournalAndClock : loading.boundary = none ∧ loading.slc.exchange = false := by decide
/-- R190 test 2, R187: code 08 is no request. -/
theorem test_invalid : answers (.invalid 0x08 1 []) serving .invalid .nothing = true := by decide
/-- R185: a discarded frame leaves the receiver hunting. -/
theorem test_discarded_frame : runs (.discardedFrame .till .gap) (setRx .till (.collecting false [0xB5]) serving)
    (fun t => decide (t.rxOf .till = .hunting ∧ t.txOf .till = [])) = true := by decide
/-- R185: a length of 2 is no fault, and nothing is discarded. -/
theorem test_discard_without_fault : runs (.discardedFrame .till (.badLength 2)) (setRx .till (.collecting false [0xB5]) serving)
    (fun t => decide (t.rxOf .till = .collecting false [0xB5])) = true := by decide


theorem witness_RequestsAreTurnedAway_busy :
    (withExchange serving).boundary = none ∧ (withExchange serving).linkFree = false ∧ (∃ r, requestOf (.status 1 []) = some r)
    ∧ (withExchange serving).slc.exchange = true
    ∧ (withExchange (withTransfer (.load .persons 3 1 none) serving)).slc.exchange = true
    ∧ (withExchange (withTransfer (.missing 5 4) serving)).slc.transfer = some (.missing 5 4) := by
  refine ⟨by decide, by decide, ⟨_, rfl⟩, by decide, by decide, by decide⟩
theorem witness_RequestsAreTurnedAway_malformed :
    (∃ r, requestOf (.trim 1 [61]) = some r ∧ judgeFields r.fields r.cross r.body = .error 1)
    ∧ (∃ r, requestOf (.trim 1 []) = some r ∧ judgeFields r.fields r.cross r.body = .error 0)
    ∧ serving.boundary = none ∧ serving.slc.exchange = false ∧ serving.slc.transfer = none
    ∧ (withTransfer (.missing 5 4) serving).slc.exchange = false
    ∧ (withTransfer (.missing 5 4) serving).slc.transfer = some (.missing 5 4) ∧ ([9] : List Byte) ≠ []
    ∧ judgeItem .persons [0, 0] = .error 0 ∧ judgeItem .persons (leBytes 2 0 ++ leBytes 2 1 ++ [0] ++ leBytes 2 0 ++ [0, 0]) = .error 1 := by
  refine ⟨⟨_, rfl, by decide⟩, ⟨_, rfl, by decide⟩, by decide, by decide, by decide, by decide, by decide, by decide, by decide, by decide⟩
theorem witness_RequestsAreTurnedAway_invalid : serving.slc.transfer = none
    ∧ (withTransfer (.load .persons 3 1 none) serving).slc.transfer = some (.load .persons 3 1 none)
    ∧ (withTransfer (.drain 1 5 0) serving).slc.transfer = some (.drain 1 5 0) ∧ knownRequest 0x08 = false ∧ knownRequest 0x7A = false := by decide
theorem witness_AcceptedRequestOpensAnExchange : serving.ready = true
    ∧ ∃ r, requestOf (.trim 1 [60]) = some r ∧ judgeFields r.fields r.cross r.body = .ok [some 60] := by
  refine ⟨by decide, ⟨_, rfl, by decide⟩⟩
theorem witness_RequestFieldsDecodeIffEncoded : (∃ r, requestOf (.trim 1 [0xC4]) = some r ∧ decodeFields r.fields r.body = .ok [some (-60)])
    ∧ (leBytes 2 8000 ++ [3] ++ leBytes 2 4000 ++ [1, 2]).length = fieldsWidth (itemFields .persons) := by
  refine ⟨⟨_, rfl, by decide⟩, by decide⟩

/-! ### Frames -/

/-- R184 with R187: the header of a STATUS request is start byte, length 2, kind 78 and tag. -/
theorem test_envelope : (envelope 0x78 5 []).take 5 = [0xB5, 2, 0, 0x78, 5] ∧ envelopeOk (envelope 0x78 5 []) = true := by decide +kernel
theorem witness_TransmittedFramesPassTheEnvelope : ([] : List Byte).length ≤ 1022 ∧ (List.replicate 1022 (7 : Byte)).length ≤ 1022
    ∧ [((510 : Word16), PassageVerdict.duplicate)].length ≤ 16 ∧ ([] : List HoldReading).length ≤ 4 ∧ (List.replicate 8 (none : Option Record)).length ≤ 8
    ∧ (Reply.mk 0xF8 5 .busy .nothing false).payload = .nothing := by decide +kernel
/-- Chapter 9.3, R176: kind 20 at byte 4, and amounts of -60 and 120 minutes in two's complement. -/
theorem test_record_bytes : (Record.bytes { sequence := 1, kind := .zoneShift, voyage := 1827000, a := -60, b := 120 }).take 5 = [1, 0, 0, 0, 20]
    ∧ slice (Record.bytes { sequence := 1, kind := .zoneShift, voyage := 1827000, a := -60, b := 120 }) 20 6 = [0xC4, 0xFF, 0xFF, 120, 0, 0] := by decide
/-- R55: -1 in split form is low FFFFFF and high FF. -/
theorem test_split_bytes : (splitOf (-1)).bytes = [0xFF, 0xFF, 0xFF, 0xFF] ∧ (splitOf 16777217).bytes = [1, 0, 0, 1] := by decide
/-- R184, R187, R188: a BUSY reply to STATUS with tag 5 is start byte, length 3, kind F8, tag and status 1. -/
theorem test_reply_bytes : (Frame.bytes (.reply ⟨0xF8, 5, .busy, .nothing, false⟩)).take 6 = [0xB5, 3, 0, 0xF8, 5, 1]
    ∧ envelopeOk (Frame.bytes (.reply ⟨0xF8, 5, .busy, .nothing, false⟩)) = true := by decide +kernel

/-! ### Receiving (R185, R187) -/

/-- The controller with these line events to come. -/
def withLines (lines : List (Port × LineEvent)) (s : State) : State := { s with lines := lines }
/-- The bytes on a port. -/
def onPort (p : Port) (bytes : List Byte) : List (Port × LineEvent) := bytes.map (fun b => (p, .byte b))
/-- The step answers a next state of which the test holds. -/
def steps (s : State) (p : State → Bool) : Bool :=
  match step s with
  | .next t => p t
  | _ => false
/-- R185: a hunting receiver takes 0xB5 as a start byte, and discards any other. -/
theorem test_hunt : steps (withLines (onPort .till [0xB5, 1]) serving) (fun t =>
      decide (t.pending = [.startByte .till] ∧ t.lines = onPort .till [1])) = true
    ∧ steps (withLines (onPort .till [0xB4]) serving) (fun t =>
      decide (t.pending = [] ∧ t.lines = [] ∧ t.rxOf .till = .hunting)) = true := by decide
/-- R185, R187: the last byte of a STATUS request brings its command. -/
theorem test_received_frame : (let frame := envelope 0x78 5 []
    steps (withLines (onPort .service [frame.getD 6 0]) (setRx .service (.collecting false (frame.take 6)) serving))
      (fun t => decide (t.pending = [.status 5 []]))) = true := by decide +kernel
/-- R185: a length of 1 ends the frame, and the bytes after the start byte come again. -/
theorem test_bad_length : steps (withLines (onPort .till [0]) (setRx .till (.collecting false [0xB5, 1]) serving)) (fun t =>
    decide (t.pending = [.discardedFrame .till (.badLength 1)] ∧ t.lines = onPort .till [1, 0])) = true := by decide
/-- R187: code 11 is QUIET on a lock segment, PASSAGES on a station link, TRIM on the service link and malformed on the till link. -/
theorem test_frame_commands : frameCommand (.segment 5) 0x11 0 [20, 0] = .quiet 5 [20, 0] ∧ frameCommand (.station 2) 0x11 0 [0] = .passages 2 [0]
    ∧ frameCommand .service 0x11 7 [4] = .trim 7 [4] ∧ frameCommand .till 0x11 7 [4] = .malformed 0x11 7 [4]
    ∧ frameCommand (.segment 5) 0x12 0 [1] = .card 5 [1] ∧ frameCommand (.segment 5) 0x13 0 [1] = .entry 5 [1]
    ∧ frameCommand (.segment 5) 0x14 0 [1] = .restarted 5 [1] ∧ frameCommand (.segment 5) 0x15 0 [1] = .discardedFrame (.segment 5) (.unsuited 0x15) := by
  decide
theorem witness_LineEvents : (let s := withLines ((.till, .gap) :: onPort .till [0xB5]) serving
      s.pending = [] ∧ s.lines = (.till, .gap) :: onPort .till [0xB5] ∧ s.rxOf .till = .hunting)
    ∧ (setRx .till (.collecting false [0xB5, 1]) serving).rxOf .till = .collecting false [0xB5, 1]
    ∧ leNat (slice ([0xB5, 1] ++ [(4 : Byte)]) 1 2) = 1025 ∧ leNat (slice ([0xB5, 0] ++ [(4 : Byte)]) 1 2) = 1024
    ∧ leNat (slice ([0xB5, 2] ++ [(0 : Byte)]) 1 2) = 2
    ∧ (let frame := envelope 0x05 0 []
       frame.length = leNat (slice frame 1 2) + 5
       ∧ leNat (frame.drop (frame.length - 2)) = (crc16 (slice frame 1 (frame.length - 3))).toNat)
    ∧ ¬ leNat (([0xB5, 2, 0, 1, 0, 0, 0] : List Byte).drop 5) = (crc16 (slice [0xB5, 2, 0, 1, 0, 0, 0] 1 4)).toNat := by decide +kernel
theorem witness_FramesAreReceived : (List.replicate 1022 (7 : Byte)).length ≤ 1022 ∧ (Instr.quiet 5 [20, 0]).wellFormed = true
    ∧ frameOf (.quiet 5 [20, 0]) = some (.segment 5, 0x11, 0, [20, 0]) ∧ (Instr.malformed 0x05 3 [40]).wellFormed = true
    ∧ frameOf (.malformed 0x05 3 [40]) = some (.till, 0x05, 3, [40]) ∧ knownRequest 0x7A = false ∧ knownTillRequest 0 = false
    ∧ knownNodeFrame 0x14 = true ∧ knownNodeFrame 0x15 = false ∧ (0x10 : Byte) ≠ 0x11 := by decide +kernel

/-- A segment with node 20 in its turn. -/
def polled (w : Window) (sent : LockMode) (n : Node) (s : State) : State :=
  putLsc 5 { Lsc.reset with nodes := [(20, n), (21, { n with pendingMode := .noMode, missCount := 0, state := .online })], running := true, cycle := 4,
                            turn := some { address := 20, sent := sent, replaced := false, windowMs := 6, window := w, removed := false, heldCard := none },
                            lastTurn := some 20 } s
/-- A node ONLINE with nothing pending. -/
def onlineNode : Node := { state := .online, missCount := 0, pendingMode := .noMode, isNew := false }
/-- A station with a fetch in its window. -/
def fetching (w : Window) (s : State) : State :=
  putStation 2 { Station.reset true with fetch := .waiting w, mode := .twoWay, expected := some 512 } s
/-- A reply of an exchange. -/
def aReply (ofExchange : Bool) : Frame := replyFrame 0x72 1 .ready (.nextIndex 1) ofExchange

/-- R189, R191: the end of a transfer's reply ends its exchange and starts the 2 s window. -/
theorem test_end_of_reply : runs (.endOfTransmission .service) (setTx .service [aReply true] (withExchange { serving with
      slc := { serving.slc with transfer := some (.load .persons 3 1 none) } })) (fun t =>
    decide (t.slc.exchange = false ∧ t.slc.windowMs = some 2000)) = true := by decide
/-- R136: a start byte inside the window begins a frame within it. -/
theorem test_start_byte : runs (.startByte (.segment 5)) (polled .running .noMode onlineNode serving)
    (fun t => decide (t.rxOf (.segment 5) = .collecting true [0xB5])) = true := by decide
theorem witness_FramingEvents_end :
    serving.boundary = none ∧ serving.txOf .till = [] ∧ (setTx .service [aReply true] serving).txOf .service = [aReply true]
    ∧ (setTx .service [aReply false] serving).txOf .service = [aReply false]
    ∧ (setTx .till [.tillAnswer ⟨0x81, 1, 2, false, bareAnswer .busy⟩] serving).txOf .till = [.tillAnswer ⟨0x81, 1, 2, false, bareAnswer .busy⟩]
    ∧ (let s := setTx (.segment 5) [.poll 20, .decision 20 1 .defer] (polled .toBegin .noMode onlineNode serving)
       s.txOf (.segment 5) = [.poll 20, .decision 20 1 .defer] ∧ s.lscs[(5 : Fin 8)].turn.map (·.window) = some .toBegin)
    ∧ (setTx (.segment 5) [.decision 20 1 .grant] serving).txOf (.segment 5) = [.decision 20 1 .grant]
    ∧ (setTx (.segment 5) [.mode 20 .lockdown, .poll 21] serving).txOf (.segment 5) = [.mode 20 .lockdown, .poll 21]
    ∧ (serving.lscs[(5 : Fin 8)].turn = none) ∧ (setTx (.station 2) [.fetch, .fetch] serving).txOf (.station 2) = [.fetch, .fetch]
    ∧ (let s := setTx (.station 2) [.fetch, .verdicts []] (fetching .toBegin serving)
       s.txOf (.station 2) = [.fetch, .verdicts []] ∧ .fetch ∉ [Frame.verdicts []] ∧ s.pru.stations[(2 : Fin 4)].fetch = .waiting .toBegin) := by decide
theorem witness_FramingEvents_start :
    serving.rxOf .service = .hunting ∧ (setRx .till (.collecting false [0xB5]) serving).rxOf .till = .collecting false [0xB5]
    ∧ (polled .running .noMode onlineNode serving).lscs[(5 : Fin 8)].turn.map (·.window) ≠ some .over
    ∧ (fetching .running serving).pru.stations[(2 : Fin 4)].fetch ≠ .waiting .over
    ∧ Discard.fits .till (.badLength 2) = false ∧ Discard.fits .till (.badLength 1025) = true ∧ Discard.fits (.segment 5) (.unsuited 0x15) = true
    ∧ Discard.fits (.station 2) .gap = true ∧ Discard.fits .service (.badCrc [0xB5, 2, 0, 1, 0, 0, 0]) = true := by decide +kernel

/-! ### Cards and persons (chapter 1) -/

/-- R2: the home slots that the rule works out for serials 1 and 2. -/
theorem test_home_slots : homeSlot 1 = 10125 ∧ homeSlot 2 = 3867 := by decide

/-- The cluster of the worked sequence "a removal and its shift", the purge at slot 201. -/
def cluster : State :=
  { withPerson 1 (personOf .guest 0 .aboard) serving with crg := {
      ring := [(200, cardOn 3709861888 1 .active), (201, cardOn 634907797 1 .withdrawn), (202, cardOn 2590244864 1 .active),
               (203, cardOn 351010816 1 .active), (204, cardOn 3296055 1 .active)],
      purge := { Purge.reset with phase := .cards 201 } } }
/-- The cluster after step 2 of the worked sequence: card C has moved into slot 201, and slot 202 is the HOLE. -/
def clusterShifting : State :=
  { cluster with crg := {
      ring := [(200, cardOn 3709861888 1 .active), (201, cardOn 2590244864 1 .active),
               (203, cardOn 351010816 1 .active), (204, cardOn 3296055 1 .active)],
      purge := { Purge.reset with phase := .cards 201, shift := some ⟨202, 203⟩, counts := ⟨1, 0, 0⟩ } } }

/-- Worked sequence: the home slots of cards A to F. -/
theorem test_cluster_homes : [3709861888, 634907797, 2590244864, 351010816, 3296055, 1470627840].map homeSlot = [200, 200, 201, 203, 201, 202] := by
  decide
/-- Worked sequence, step 1: card B is removed and slot 201 becomes the HOLE. -/
theorem test_purge_cards_step : runs .purgeCardsStep cluster (fun t =>
    decide (t.crg.purge.shift = some ⟨201, 202⟩ ∧ t.crg.live = 4 ∧ t.crg.purge.counts = ⟨1, 0, 0⟩)) = true := by decide
/-- Worked sequence, step 7: an ACTIVE card is passed and the walk advances. -/
theorem test_purge_cards_step_on : runs .purgeCardsStep (setPurge { Purge.reset with phase := .cards 200 } cluster) (fun t =>
    decide (t.crg.purge.phase = .cards 201 ∧ t.crg.live = 5)) = true := by decide
/-- Worked sequence: between steps 2 and 3 card E is found at slot 204, past the HOLE. -/
theorem test_search_past_the_hole : clusterShifting.crg.search 3296055 = .found 204 (cardOn 3296055 1 .active)
    ∧ clusterShifting.crg.search 1470627840 = .freeAt 205 := by decide
/-- Worked sequence, step 3: card D may not fill the HOLE. -/
theorem test_shift_step_passes : runs .shiftStep clusterShifting (fun t => decide (t.crg.purge.shift = some ⟨202, 204⟩)) = true := by decide
/-- Worked sequence, step 4: card E moves into slot 202. -/
theorem test_shift_step_moves : runs .shiftStep (setPurge { clusterShifting.crg.purge with shift := some ⟨202, 204⟩ } clusterShifting) (fun t =>
    decide (t.crg.ring.get 202 = some (cardOn 3296055 1 .active) ∧ t.crg.ring.get 204 = none ∧ t.crg.purge.shift = some ⟨204, 205⟩)) = true := by
  decide

/-- R9, R4: serial 1 goes to its home slot, at distance 0. -/
theorem test_issue_card : answers (.issueCard 7 (leBytes 4 1 ++ leBytes 2 5 ++ [0, 3])) (withPerson 5 (personOf .guest 0 .aboard) loading)
    .done (.slot 10125 0) = true := by decide
/-- R9 check 5: a WITHDRAWN card of the serial is a conflict. -/
theorem test_issue_card_conflict : answers (.issueCard 7 (leBytes 4 1 ++ leBytes 2 5 ++ [0, 3]))
    (withCard 1 5 .withdrawn (withPerson 5 (personOf .guest 0 .aboard) loading)) .conflict .nothing = true := by decide
/-- R10 (a): RESUME of a LOST card whose person is DEPARTED. -/
theorem test_resume_departed : answers (.setCardState 1 (leBytes 4 1 ++ [1])) (withCard 1 5 .lost (withPerson 5 (personOf .guest 0 .departed) serving))
    .departed .nothing = true := by decide
/-- R10: SUSPEND of an ACTIVE card keeps its fail streak. -/
theorem test_suspend : runs (.setCardState 1 (leBytes 4 1 ++ [0])) (putCard (homeSlot 1) { cardOn 1 5 .active with failStreak := 3 } serving)
    (fun t => decide ((t.crg.ring.get 10125).map (fun c => (c.state, c.failStreak)) = some (.suspended, 3))) = true := by decide
/-- R11: a WITHDRAWN card is reported. -/
theorem test_query_card : answers (.queryCard 1 (leBytes 4 1)) (withCard 1 5 .withdrawn serving) .done (.card (cardOn 1 5 .withdrawn) 10125 0) = true := by
  decide
/-- R13: a CHILD is a MINOR without charge privilege, EXPECTED when no presence is given. -/
theorem test_add_person : runs (.addPerson 1 (leBytes 2 201 ++ [1] ++ leBytes 2 40 ++ [0, 0])) (putFolio 40 (folioOf .closed 0 0) loading) (fun t =>
    decide ((t.persons.get 201).map (fun p => (p.spend.minor, p.spend.privilege, p.att.presence)) = some (true, .noPrivilege, .expected)
      ∧ t.pru.count .child .expected = 1 ∧ (t.fst.folios.get 40).map (·.personCount) = some 1)) = true := by decide
/-- R13 check 3: DEPARTED is refused RANGE. -/
theorem test_add_person_departed : answers (.addPerson 1 (leBytes 2 201 ++ [0] ++ leBytes 2 0 ++ [1, 3])) loading .range .nothing = true := by decide
theorem test_purge_start : runs (.purgeStart 1 []) serving (fun t => decide (t.crg.purge.phase = .cards 0)) = true := by decide
theorem test_purge_start_active : answers (.purgeStart 1 []) cluster .purgeActive .nothing = true := by decide
/-- R23: abort in a shift leaves the shift going. -/
theorem test_purge_abort : runs (.purgeAbort 1 []) clusterShifting (fun t =>
    decide (t.crg.purge.abort = true ∧ t.crg.purge.shift = some ⟨202, 203⟩)) = true := by decide
theorem test_query_purge : answers (.queryPurge 1 []) clusterShifting .done
    (.purge ⟨.cards 201, some 202, false, ⟨1, 0, 0⟩, none⟩) = true := by decide
/-- Worked sequence "a departure and the purge": phase PERSONS frees person 4,117. -/
theorem test_purge_persons_step : runs .purgePersonsStep (inPhase (.persons 4117)
    (putCabin 8214 ⟨3, 142, .inService, .closed, false, [⟨4117, .occupant, 1700000, some 2300000⟩, ⟨4118, .occupant, 1700000, some 2300000⟩]⟩
      (putFolio 912 { folioOf .opened 0 0 with personCount := 2 } (withPerson 4117
        (let p := personOf .guest 912 .departed; { p with ident := { p.ident with cabins := [8214] } }) serving)))) (fun t =>
    decide (t.persons.get 4117 = none ∧ (t.fst.folios.get 912).map (·.personCount) = some 1 ∧ t.pru.count .guest .departed = 0
      ∧ (t.cau.cabins.get 8214).map (fun c => c.bindings.map (·.person)) = some [4118] ∧ t.crg.purge.phase = .persons 4118)) = true := by decide
/-- R22: folio 4,000 is the last, and the purge ends complete. -/
theorem test_purge_folios_step : runs .purgeFoliosStep (inPhase (.folios 4000) (putFolio 4000 (folioOf .closed 0 100) serving)) (fun t =>
    decide (t.crg.purge.phase = .idle ∧ t.crg.purge.last = some (⟨0, 0, 1⟩, .complete) ∧ t.fst.folios.get 4000 = none
      ∧ (t.cause .purgeDone).pending.isSome = true)) = true := by decide
theorem test_purge_ends_aborted : runs .purgeEndsAborted (setPurge { cluster.crg.purge with abort := true } cluster) (fun t =>
    decide (t.crg.purge.last = some (⟨0, 0, 0⟩, .aborted) ∧ t.crg.purge.phase = .idle)) = true := by decide

/-- A ring without a FREE slot. -/
def fullRing (n : Nat) : Table Card := (List.range' 0 n).map (fun k => (k, cardOn 1 1 .active))
theorem fullRing_get (n i : Nat) (h : i < n) : (fullRing n).get i = some (cardOn 1 1 .active) := by
  have key : ∀ m a, a ≤ i → i < a + m → Table.get ((List.range' a m).map (fun k => (k, cardOn 1 1 .active))) i = some (cardOn 1 1 .active) := by
    intro m
    induction m with
    | zero => intro a _ _; omega
    | succ m ih =>
      intro a _ _
      simp only [List.range'_succ, List.map_cons, Table.get]
      split
      · rfl
      · exact ih (a + 1) (by omega) (by omega)
  exact key n 0 (by omega) (by omega)
theorem fullRing_search (n slot : Nat) (h : slot < 16384) : searchFrom (fullRing 16384) none 2 n slot = .noSlot := by
  induction n generalizing slot with
  | zero => rfl
  | succ n ih =>
    simp only [searchFrom, reduceCtorEq, if_false, fullRing_get _ _ h]
    rw [if_neg (by decide)]
    apply ih
    unfold nextSlot
    split
    · decide
    · simp_all; omega
theorem witness_Searches_noSlot : ({ ring := fullRing 16384, purge := Purge.reset } : Crg).search 2 = .noSlot :=
  fullRing_search _ _ (by decide)
theorem witness_Searches : cluster.crg.search 3296055 = .found 204 (cardOn 3296055 1 .active) ∧ cluster.crg.search 1470627840 = .freeAt 205
    ∧ (lookup 3296055 cluster).isSome = true ∧ (cluster.persons.get 1).isSome = true ∧ cluster.crg.search 634907797 = .found 201 (cardOn 634907797 1 .withdrawn)
    ∧ (putCard 204 { cardOn 3296055 1 .active with failStreak := 4 } cluster).crg.search 3296055
        = .found 204 { cardOn 3296055 1 .active with failStreak := 4 } := by decide
/-- R7: the streak goes from 4 to 5 and CARD FAIL STREAK is raised; 7 stays at 7. -/
theorem test_failure_update :
    (let t := failureUpdate 3296055 (putCard 204 { cardOn 3296055 1 .lost with failStreak := 4 } cluster)
     (t.crg.ring.get 204).map (·.failStreak) = some 5 ∧ (t.cause .cardFailStreak).pending.isSome = true)
    ∧ (let t := failureUpdate 3296055 (putCard 204 { cardOn 3296055 1 .lost with failStreak := 7 } cluster)
       (t.crg.ring.get 204).map (·.failStreak) = some 7 ∧ (t.cause .cardFailStreak).pending = none) := by decide

/-- The bytes of an ISSUE CARD of serial 1 for person 5, key level NONE, mask 3. -/
def issueBody : List Byte := leBytes 4 1 ++ leBytes 2 5 ++ [0, 3]
theorem witness_IssueCard : decodeFields issueCardFields issueBody = .ok [some 1, some 5, some 0, some 3]
    ∧ (let s := withPerson 5 (let p := personOf .guest 0 .ashore; { p with ident := { p.ident with cardCount := 7 } }) serving
       s.ready = true ∧ (s.persons.get 5).map (fun p => (p.att.presence, p.ident.cardCount)) = some (.ashore, 7) ∧ s.crg.ring.length < 12000
       ∧ s.crg.search 1 = .freeAt 10125)
    ∧ serving.persons.get 5 = none
    ∧ ((withPerson 5 (personOf .guest 0 .departed) serving).persons.get 5).map (·.att.presence) = some .departed
    ∧ ((withPerson 5 (let p := personOf .guest 0 .ashore; { p with ident := { p.ident with cardCount := 8 } }) serving).persons.get 5).map
        (·.ident.cardCount) = some 8
    ∧ (List.replicate 12000 ((0 : Nat), cardOn 9 9 .lost)).length = 12000
    ∧ (withCard 1 6 .withdrawn (withPerson 5 (personOf .guest 0 .ashore) serving)).crg.search 1 = .found 10125 (cardOn 1 6 .withdrawn) := by
  decide +kernel
theorem witness_SetCardState : (decodeFields setCardStateFields (leBytes 4 1 ++ [0]) = .ok [some 1, some 0])
    ∧ (decodeFields setCardStateFields (leBytes 4 1 ++ [3]) = .ok [some 1, some 3]) ∧ (∀ slot c, serving.crg.search 1 ≠ .found slot c)
    ∧ (∀ st ∈ [CardState.active, .suspended, .lost, .departed, .withdrawn], (withCard 1 5 st serving).crg.search 1 = .found 10125 (cardOn 1 5 st))
    ∧ ((withCard 1 5 .lost (withPerson 5 (personOf .guest 0 .departed) serving)).persons.get 5).map (·.att.presence) = some .departed := by
  refine ⟨by decide, by decide, ?_, by decide, by decide⟩
  intro slot c
  have h : serving.crg.search 1 = .freeAt 10125 := by decide
  rw [h]; exact nofun
theorem witness_AddPerson : decodeFields addPersonFields (leBytes 2 8000 ++ [1] ++ leBytes 2 40 ++ [1, 2]) = .ok [some 8000, some 1, some 40, some 2]
    ∧ decodeFields addPersonFields (leBytes 2 1 ++ [3] ++ leBytes 2 0 ++ [0, 0]) = .ok [some 1, some 3, some 0, none]
    ∧ decodeFields addPersonFields (leBytes 2 1 ++ [3] ++ leBytes 2 0 ++ [1, 3]) = .ok [some 1, some 3, some 0, some 3]
    ∧ serving.ready = true ∧ ((withPerson 8000 (personOf .crew 0 .aboard) serving).persons.get 8000).isSome = true
    ∧ serving.persons.get 8000 = none ∧ serving.fst.folios.get 40 = none
    ∧ (putFolio 40 (folioOf .closed 0 0) serving).fst.folios.get 40 = some (folioOf .closed 0 0) := by decide
theorem witness_Purge_ends : serving.crg.purge.phase = .idle ∧ cluster.ready = true ∧ cluster.crg.purge.phase ≠ .idle
    ∧ (let p := (setPurge { cluster.crg.purge with abort := true } cluster).crg.purge; p.phase ≠ .idle ∧ p.abort = true ∧ p.shift = none) := by decide
theorem witness_Purge_steps :
    (let s := inPhase (.persons 8000) (withPerson 8000 (personOf .guest 912 .departed) (putFolio 912 (folioOf .opened 0 0) serving))
     s.boundary = none ∧ s.crg.purge.abort = false ∧ s.crg.purge.phase = .persons 8000
     ∧ (s.persons.get 8000).map (fun q => (q.att.presence, q.ident.cardCount, q.ident.folio)) = some (.departed, 0, 912)
     ∧ (s.fst.folios.get 912).isSome = true)
    ∧ (inPhase (.persons 1) serving).persons.get 1 = none ∧ (inPhase (.persons 1) serving).crg.purge.phase = .persons 1
    ∧ (let s := inPhase (.folios 4000) (putFolio 4000 (folioOf .closed 0 9) serving)
       s.crg.purge.phase = .folios 4000 ∧ s.fst.folios.get 4000 = some (folioOf .closed 0 9))
    ∧ (let s := inPhase (.folios 1) (putFolio 1 (folioOf .opened 0 9) serving)
       s.crg.purge.phase = .folios 1 ∧ s.fst.folios.get 1 = some (folioOf .opened 0 9)) := by decide
theorem witness_CardSteps : cluster.boundary = none ∧ cluster.crg.purge.phase = .cards 201 ∧ cluster.crg.purge.shift = none
    ∧ cluster.crg.purge.abort = false ∧ cluster.crg.ring.get 201 = some (cardOn 634907797 1 .withdrawn) ∧ (cluster.persons.get 1).isSome = true
    ∧ (inPhase (.cards 16383) serving).crg.purge.phase = .cards 16383 ∧ (inPhase (.cards 16383) serving).crg.ring.get 16383 = none
    ∧ clusterShifting.crg.purge.shift = some ⟨202, 203⟩ ∧ clusterShifting.crg.purge.abort = false
    ∧ (let s := setPurge { clusterShifting.crg.purge with shift := some ⟨204, 205⟩, abort := true } clusterShifting
       s.crg.purge.shift = some ⟨204, 205⟩ ∧ s.crg.ring.get 205 = none ∧ s.crg.purge.abort = true ∧ s.crg.purge.phase ≠ .idle)
    ∧ clusterShifting.crg.ring.get 203 = some (cardOn 351010816 1 .active) ∧ clusterShifting.crg.ring.get 205 = none
    ∧ ¬ (202 + (16384 - homeSlot 351010816)) % 16384 < (203 + (16384 - homeSlot 351010816)) % 16384
    ∧ (202 + (16384 - homeSlot 3296055)) % 16384 < (204 + (16384 - homeSlot 3296055)) % 16384 := by decide

/-! ### Ship time (chapter 2) -/

/-- The clock of the worked sequence "trims about a minute boundary". -/
def trimmed (voyage hold : Nat) : State := { serving with scl := { Scl.reset with voyage := voyage, trimHold := hold } }
/-- Worked sequence: a tick against the hold. -/
theorem test_tick_held : runs .tick (trimmed 1000050 10) (fun t => decide (t.scl.voyage = 1000050 ∧ t.scl.trimHold = 9)) = true := by decide
/-- R26, R97: the minute boundary at voyage time 60 makes the staged port rate live. -/
theorem test_tick_minute : runs .tick { trimmed 59 0 with chu := { Chu.reset with rateStaged := 5, ratePending := true } } (fun t =>
    decide (t.scl.voyage = 60 ∧ t.chu.rateLive = 5 ∧ t.chu.ratePending = false)) = true := by decide
/-- Worked sequence: TRIM +4 is absorbed by a hold of 7. -/
theorem test_trim_absorbed : answers (.trim 1 [4]) (trimmed 1000050 7) .done (.trimmed 1000050 3) = true := by decide
/-- Worked sequence: TRIM +40 against a hold of 3 carries voyage time to 1,000,087 over a minute boundary. -/
theorem test_trim_forward : runs (.trim 1 [40]) { trimmed 1000050 3 with chu := { Chu.reset with rateStaged := 5, ratePending := true } } (fun t =>
    decide (lastReply t = some (.done, .trimmed 1000087 0) ∧ t.chu.rateLive = 5)) = true := by decide

/-- The clock of the worked sequence "two nights with zone shifts", a second before the first night's shift. -/
def firstNight : State :=
  { serving with scl := { Scl.reset with voyage := 1826999, offset := 60, folioDay := 33, closePoint := some 1832400,
                                         lastClose := some ⟨1742400, 1746000⟩, shift := some ⟨120, 1827000⟩ } }
/-- The boundary of 1,827,000 with the shift still to take. -/
def atZone : State := { atTime 1827000 firstNight with boundary := some ⟨1826999, .zone⟩ }
/-- The boundary of 1,827,000 after the shift. -/
def atClose : State := { atZone with scl := { atZone.scl with offset := 120, shift := none }, boundary := some ⟨1826999, .close⟩ }
/-- Worked sequence: the boundary brings the zone shift. -/
theorem test_tick_brings_the_shift : runs .tick firstNight (fun t => decide (t.boundary = some ⟨1826999, .zone⟩)) = true := by decide
/-- Worked sequence, step 1: the offset becomes +120, and the close is then due. -/
theorem test_zone_shift_taken : runs .zoneShiftTaken atZone (fun t =>
    decide (t.scl.offset = 120 ∧ t.scl.localTime = 1834200 ∧ t.boundary = some ⟨1826999, .close⟩ ∧ (t.cause .zoneShiftTaken).pending.isSome = true)) = true := by
  decide
/-- Worked sequence, step 3: folio day 34, last close and close point. -/
theorem test_day_close : runs .dayClose atClose (fun t =>
    decide (t.scl.folioDay = 34 ∧ t.scl.lastClose = some ⟨1827000, 1834200⟩ ∧ t.scl.closePoint = some 1918800)) = true := by decide
/-- Worked sequence, the end: with no free slot the close is held and folio day 33 runs on. -/
theorem test_day_close_held : runs .dayClose (withUsed 16384 20000 0 atClose) (fun t =>
    decide (t.scl.folioDay = 33 ∧ t.scl.closeHeld = true ∧ (t.cause .journalFull).pending.isSome = true)) = true := by decide
/-- R75: hold 732 expires with its record. -/
theorem test_hold_expiry : runs .holdExpiry { atTime 28800 serving with
      boundary := some ⟨28799, .holds [(2316, 732)]⟩, fst := { Fst.reset with folios := [(2316, { folioOf .frozen 501879 500000 with
        holds := [holdOf 732 30000 0] })] } } (fun t =>
    decide ((t.fst.folios.get 2316).map (fun f => (f.holds, f.state)) = some ([], .frozen) ∧ t.jnl.next = 2 ∧ t.boundary = none)) = true := by decide
/-- R161: the timer expires at the deadline with walk position 1. -/
theorem test_all_aboard_expiry : runs .allAboardExpiry (setTimer (.running 2520000) { atTime 2520000 serving with boundary := some ⟨2519999, .timer⟩ })
    (fun t => decide (t.pru.timer = .expiring 2520000 1 ∧ t.boundary = none)) = true := by decide
/-- Worked sequence "an all-aboard deadline": the walk marks person 812. -/
theorem test_walk_step : runs .walkStep (setTimer (.expiring 2520000 812) (withPerson 812 (personOf .guest 0 .ashore) serving)) (fun t =>
    decide ((t.persons.get 812).map (·.att.missing) = some true ∧ t.pru.missingCount = 1 ∧ t.pru.timer = .expiring 2520000 813)) = true := by decide
/-- Worked sequence: after step 8,000 the timer is EXPIRED and the record states A 2 and aux 2. -/
theorem test_walk_ends : runs .walkStep { serving with pru := { Pru.reset (Vector.replicate 4 true) with
      timer := .expiring 2520000 8000, newlyMarked := 2, missingCount := 2 } } (fun t =>
    decide (t.pru.timer = .expired 2520000 ∧ (t.jnl.recordAt 1).map (fun r => (r.kind, r.a, r.aux)) = some (.allAboard, 2, 2))) = true := by decide
/-- R28: SET TIME in LOADING. -/
theorem test_set_time : runs (.setTime 1 (leBytes 4 1000 ++ leInt 2 (-720))) loading (fun t =>
    decide (t.scl.voyage = 1000 ∧ t.scl.offset = -720)) = true := by decide
/-- R28: an offset that is no multiple of 15 is field 2 at fault. -/
theorem test_set_time_malformed : answers (.setTime 1 (leBytes 4 1000 ++ leInt 2 61)) loading .malformed (.field 2) = true := by decide
theorem test_zone_shift : runs (.zoneShift 1 (leInt 2 120 ++ leBytes 4 1827000)) serving
    (fun t => decide (t.scl.shift = some ⟨120, 1827000⟩)) = true := by decide
theorem test_cancel_zone_shift : answers (.cancelZoneShift 1 []) firstNight .done .nothing = true
    ∧ answers (.cancelZoneShift 1 []) serving .notFound .nothing = true := by decide
theorem test_set_day_close_hour : runs (.setDayCloseHour 1 [23]) loading (fun t => decide (t.scl.closeHour = 23)) = true
    ∧ answers (.setDayCloseHour 1 [23]) serving .notNow .nothing = true := by decide
/-- R39: local 1,834,200 is 05:30:00. -/
theorem test_query_time : answers (.queryTime 1 []) { atClose with boundary := none } .done (.clock atClose.scl 5 30 0) = true := by decide
/-- R55: a day total of -1 is high -1, low 16,777,215. -/
theorem test_query_day_total : answers (.queryDayTotal 1 []) { serving with fst := { Fst.reset with dayTotal := -1 } } .done
    (.dayTotal 0 ⟨-1, 16777215⟩ false) = true := by decide

theorem witness_BoundaryWorkComesFirst : Instr.tick ≠ .powerOn ∧ Instr.tick ≠ .zoneShiftTaken ∧ Instr.tick ≠ .dayClose ∧ Instr.tick ≠ .holdExpiry
    ∧ serving.boundary = none ∧ atZone.boundary = some ⟨1826999, .zone⟩ ∧ atClose.boundary = some ⟨1826999, .close⟩
    ∧ ({ serving with boundary := some ⟨5, .holds [(5, 1)]⟩ } : State).boundary = some ⟨5, .holds [(5, 1)]⟩
    ∧ ({ serving with boundary := some ⟨8, .timer⟩ } : State).boundary = some ⟨8, .timer⟩ := by decide
theorem witness_Tick : (trimmed 7 1).boundary = none ∧ 0 < (trimmed 7 1).scl.trimHold ∧ 4294967295 ≤ (trimmed 4294967295 0).scl.voyage
    ∧ (trimmed 59 0).scl.voyage < 4294967295 ∧ (59 < 60 * 1 ∧ 60 * 1 ≤ 59 + 1) ∧ (atTime 1827000 firstNight).zoneDue = true
    ∧ ({ atClose with boundary := none }).zoneDue = false ∧ ({ atClose with boundary := none }).closeDue = true
    ∧ (let u : State := { atTime 3600 serving with fst := { Fst.reset with lifetime := 1, folios := [(5, { folioOf .opened 0 9 with
         holds := [holdOf 1 5 0] })] } }
       u.zoneDue = false ∧ u.closeDue = false ∧ u.dueHolds = [(5, 1)])
    ∧ (atTime 60 serving).dueHolds = [] ∧ (Timer.running 60).dueAt 60 = true ∧ (Timer.armed 61).dueAt 60 = false := by decide
theorem witness_BoundaryTests : (setTimer (.running 60) (atTime 60 serving)).pru.timer = .running 60 ∧ (atTime 60 serving).scl.voyage ≤ 60
    ∧ (∀ d, serving.pru.timer ≠ .running d) := by
  refine ⟨by decide, by decide, fun d => ?_⟩
  rw [show serving.pru.timer = .clear by decide]; exact nofun
theorem witness_ClockRequests : serving.ready = true ∧ loading.ready = true ∧ serving.slc.service = .serving ∧ loading.slc.service = .loading
    ∧ decodeFields setTimeFields (leBytes 4 4294967295 ++ leInt 2 840) = .ok [some 4294967295, some 840]
    ∧ decodeFields zoneShiftFields (leInt 2 (-720) ++ leBytes 4 0) = .ok [some (-720), some 0] ∧ firstNight.scl.shift ≠ none ∧ serving.scl.shift = none
    ∧ decodeFields setDayCloseHourFields [23] = .ok [some 23]
    ∧ decodeFields trimFields [60] = .ok [some 60] ∧ decodeFields trimFields [0xC4] = .ok [some (-60)] ∧ decodeFields trimFields [1] = .ok [some 1] := by
  decide
theorem witness_Trim : ((0 : Int) ≤ 7 ∧ (7 : Int) ≤ (trimmed 50 7).scl.trimHold) ∧ ((trimmed 50 0).scl.trimHold + 60 ≤ 60)
    ∧ (60 < (trimmed 50 1).scl.trimHold + 60) ∧ ((trimmed 4294967295 0).scl.trimHold < 1 ∧ 4294967295 < (trimmed 4294967295 0).scl.voyage + (1 - 0))
    ∧ ((trimmed 4294967294 0).scl.trimHold < 1 ∧ (trimmed 4294967294 0).scl.voyage + (1 - 0) ≤ 4294967295) := by decide
theorem witness_BoundaryEvents : atZone.boundary = some ⟨1826999, .zone⟩ ∧ atZone.scl.shift = some ⟨120, 1827000⟩
    ∧ atClose.boundary = some ⟨1826999, .close⟩ ∧ (withUsed 16383 20000 0 atClose).jnl.used = 16383 ∧ (withUsed 16384 20000 0 atClose).jnl.used = 16384
    ∧ (let s : State := { serving with boundary := some ⟨5, .holds [(5, 1), (6, 2)]⟩, fst := { Fst.reset with folios := [(5, { folioOf .opened 0 9 with
         holds := [holdOf 1 5 0] })] } }
       s.boundary = some ⟨5, .holds ((5, 1) :: [(6, 2)])⟩ ∧ s.fst.folios.get 5 = some { folioOf .opened 0 9 with holds := [holdOf 1 5 0] }
       ∧ [holdOf 1 5 0].find? (fun h => h.number == 1) = some (holdOf 1 5 0) ∧ [((6 : Nat), (2 : Nat))] ≠ [] ∧ s.jnl.used < 16384)
    ∧ (withUsed 16384 20000 0 serving).jnl.used = 16384 := by decide
theorem witness_AllAboardWalk :
    (setTimer (.running 9) { serving with boundary := some ⟨8, .timer⟩ }).boundary = some ⟨8, .timer⟩
    ∧ (setTimer (.armed 9) { serving with boundary := some ⟨8, .timer⟩ }).pru.timer = .armed 9
    ∧ (let s := setTimer (.expiring 9 8000) (withPerson 8000 (personOf .crew 0 .ashore) serving)
       s.boundary = none ∧ s.pru.timer = .expiring 9 8000 ∧ (s.persons.get 8000).map (fun p => (p.att.presence, p.att.missing)) = some (.ashore, false))
    ∧ (setTimer (.expiring 9 1) serving).persons.get 1 = none := by decide

/-! ### Attention, the journal, presence and folio marks -/

/-- Worked sequence "reading attention after a busy hour": the second raise adds to the count and keeps the first place. -/
theorem test_raise_twice : ((raise .lostCardPresented 72100044 (detail 2 31) (atTime 3200090
      (raise .lostCardPresented 72100044 (detail 1 6031) (atTime 3200070 serving)))).cause .lostCardPresented).pending
    = some { subject := 72100044, detail := detail 1 6031, first := 3200070, count := 2 } := by decide
theorem witness_Raise : (serving.cause .dayClosed).priority ≠ 0 ∧ (serving.cause .dayClosed).pending = none
    ∧ ((raise .dayClosed 1 {} serving).cause .dayClosed).pending = some { subject := 1, detail := {}, first := 0, count := 1 }
    ∧ (({ serving with atu := { serving.atu with causes := serving.atu.causes.set Cause.dayClosed.place ⟨0, none⟩ } } : State).cause .dayClosed).priority
        = 0 := by decide
/-- Worked sequence "reaching the money reserve": 1,025 free admits a non-money record, 1,024 drops the next. -/
theorem test_offer_event : (offerEvent { kind := .access } (withUsed 15359 115360 0 serving)).jnl.next = 115361
    ∧ (offerEvent { kind := .passage } (withUsed 15360 115361 0 serving)).jnl.drops = 1 := by decide
/-- Worked sequence: the GAP takes 115,362 and states 2 drops, the ANOMALY takes 115,363; with 1,025 free the ANOMALY is dropped. -/
theorem test_offer_gap :
    (let t := offerEvent { kind := .anomaly } (withUsed 14961 115362 2 serving)
     t.jnl.next = 115364 ∧ t.jnl.drops = 0 ∧ (t.jnl.recordAt 115362).map (fun r => (r.kind, r.a)) = some (.gap, 2))
    ∧ (let t := offerEvent { kind := .anomaly } (withUsed 15359 115362 2 serving); t.jnl.next = 115363 ∧ t.jnl.drops = 1) := by decide
theorem witness_Offers : (withUsed 16383 7 0 serving).jnl.used = 16383 ∧ (withUsed 16384 7 0 serving).jnl.used = 16384
    ∧ (withUsed 12287 7 0 serving).jnl.used = 12287 ∧ ((withUsed 15359 7 0 serving).jnl.drops = 0 ∧ (withUsed 15359 7 0 serving).jnl.used < 15360)
    ∧ (withUsed 15360 7 65535 serving).jnl.used = 15360 ∧ (0 < (withUsed 15359 7 3 serving).jnl.drops ∧ (withUsed 15359 7 3 serving).jnl.used < 15360)
    ∧ (7 : Word32).toNat % 16384 ≠ (8 : Word32).toNat % 16384 := by decide
/-- R159: a sighting brings a person ASHORE aboard, IRREGULAR set, and offers the ANOMALY record. -/
theorem test_sighting : (let t := sighting 4118 (personOf .guest 9 .ashore) 71000004 (.atLock 3 8214) (withPerson 4118 (personOf .guest 9 .ashore) serving)
    (t.persons.get 4118).map (fun p => (p.att.presence, p.att.irregular)) = some (.aboard, true) ∧ t.pru.count .guest .aboard = 1
      ∧ t.pru.count .guest .ashore = 0 ∧ (t.jnl.recordAt 1).map (fun r => (r.kind, r.reason, r.b)) = some (.anomaly, 4, 2)) := by decide
theorem witness_Presence : (withPerson 3 (personOf .crew 0 .ashore) serving).persons.get 3 = some (personOf .crew 0 .ashore)
    ∧ Presence.departed ≠ (personOf .crew 0 .ashore).att.presence ∧ (personOf .crew 0 .ashore).att.presence = .ashore
    ∧ (personOf .crew 0 .aboard).att.presence = .aboard := by decide
/-- R156, R163: a departure with a hold raises OPEN TAB AT DEPARTURE, and the last MISSING mark cleared raises ALL ABOARD COMPLETE. -/
theorem test_presence_raises :
    (let p := { personOf .guest 9 .ashore with att := { (personOf .guest 9 .ashore).att with missing := true } }
     let s := putFolio 9 { folioOf .opened 5 50 with holds := [{ holdOf 1 5 0 with person := 3 }] }
       { withPerson 3 p serving with pru := { (withPerson 3 p serving).pru with missingCount := 1 } }
     let t := changePresence 3 p .departed 0 none false s
     ((t.cause .openTabAtDeparture).pending).map (·.subject) = some 3 ∧ (t.cause .allAboardComplete).pending.isSome = true
     ∧ t.pru.missingCount = 0) := by decide
theorem witness_FolioMarks :
    (let f := folioOf .opened 450000 500000
     (putFolio 1 f serving).fst.folios.get 1 = some f ∧ 0 < f.limit ∧ f.near = false ∧ (90 : Int) * f.limit ≤ 100 * (f.balance + 0))
    ∧ ¬ (90 : Int) * 500000 ≤ 100 * 449999 ∧ (8388607 : Int) < 8388608 ∧ (folioOf .opened 8388608 0).limited = false
    ∧ (folioOf .opened 10 9).state = .opened ∧ (9 : Int) < 10 ∧ (folioOf .frozen 10 9).state ≠ .opened
    ∧ (2147483647 < ({ Fst.reset with dayTotal := 2147483647 } : Fst).dayTotal + 1)
    ∧ (({ Fst.reset with dayTotal := -2147483647 } : Fst).dayTotal + -1 < -2147483647)
    ∧ (-2147483647 ≤ Fst.reset.dayTotal + 5 ∧ Fst.reset.dayTotal + 5 ≤ 2147483647) := by decide

/-! ### Folios (chapter 4) -/

/-- R78: an opening balance over the limit makes the folio FROZEN, with a CREDIT record. -/
theorem test_open_folio : runs (.openFolio 1 (leBytes 2 912 ++ leInt 4 500 ++ leInt 4 501)) loading (fun t =>
    decide (lastReply t = some (.done, .folioState .frozen) ∧ (t.jnl.recordAt 1).map (fun r => (r.kind, r.a, r.b)) = some (.credit, 501, 501))) = true := by
  decide
theorem test_open_folio_conflict : answers (.openFolio 1 (leBytes 2 912 ++ leInt 4 500 ++ leInt 4 0)) (putFolio 912 (folioOf .closed 0 0) loading)
    .conflict .nothing = true := by decide
/-- R79: a limit below the balance freezes an OPEN folio. -/
theorem test_set_limit : answers (.setLimit 1 (leBytes 2 912 ++ leInt 4 99)) (putFolio 912 (folioOf .opened 100 500) serving) .done (.folioState .frozen) = true := by
  decide
/-- Worked sequence "a folio through a busy evening": POST CREDIT -60,000 shows 441,879. -/
theorem test_post_credit : answers (.postCredit 1 (leBytes 2 2316 ++ leInt 3 (-60000))) (putFolio 2316 (folioOf .frozen 501879 500000) serving) .done
    (.credit 441879 .frozen) = true := by decide
/-- R71: a credit that would carry the balance below -2^30. -/
theorem test_post_credit_range : answers (.postCredit 1 (leBytes 2 5 ++ leInt 3 (-1))) (putFolio 5 (folioOf .opened (-1073741824) 0) serving)
    .amountRange .nothing = true := by decide
theorem test_freeze : runs (.freeze 1 (leBytes 2 5)) (putFolio 5 (folioOf .opened 1 9) serving) (fun t =>
    decide ((t.fst.folios.get 5).map (·.state) = some .frozen)) = true
    ∧ answers (.freeze 1 (leBytes 2 5)) (putFolio 5 (folioOf .closed 1 9) serving) .notNow .nothing = true := by decide
/-- Worked sequence: THAW at 531,879 is refused, at 441,879 it opens the folio. -/
theorem test_thaw : answers (.thaw 1 (leBytes 2 5)) (putFolio 5 { folioOf .frozen 501879 500000 with holds := [holdOf 732 30000 0] } serving) .overLimit
    .nothing = true ∧ runs (.thaw 1 (leBytes 2 5)) (putFolio 5 (folioOf .frozen 441879 500000) serving) (fun t =>
    decide ((t.fst.folios.get 5).map (·.state) = some .opened)) = true := by decide
theorem test_close_folio : answers (.closeFolio 1 (leBytes 2 5)) (putFolio 5 { folioOf .opened 1 9 with holds := [holdOf 1 1 0] } serving)
    .holdsOutstanding .nothing = true ∧ runs (.closeFolio 1 (leBytes 2 5)) (putFolio 5 (folioOf .frozen 10 9) serving) (fun t =>
    decide ((t.fst.folios.get 5).map (·.state) = some .closed)) = true := by decide
theorem test_reopen : answers (.reopen 1 (leBytes 2 5)) (putFolio 5 (folioOf .closed 10 9) serving) .done (.folioState .frozen) = true
    ∧ answers (.reopen 1 (leBytes 2 5)) (putFolio 5 (folioOf .frozen 10 9) serving) .notNow .nothing = true := by decide
/-- Worked sequence "a balance beyond the money field": the field shows 8,388,607, LIMITED is set and the cause raised. -/
theorem test_query_folio : runs (.queryFolio 1 (leBytes 2 1204)) (putFolio 1204 (folioOf .opened 8600000 20000000) serving) (fun t =>
    decide (lastReply t = some (.done, .folio .opened 8388607 ⟨1, 3222784⟩ ⟨0, 0⟩ ⟨0, 11400000⟩ 0 false true [])
      ∧ (t.cause .balanceLimited).pending.isSome = true)) = true := by decide
theorem test_query_folio_split : answers (.queryFolioSplit 1 (leBytes 2 1204)) (putFolio 1204 (folioOf .opened 8600000 20000000) serving) .done
    (.folioSplit .opened ⟨0, 8600000⟩) = true := by decide
theorem test_clear_flags : answers (.clearFlags 1 (leBytes 2 5)) (putFolio 5 { folioOf .opened 441879 500000 with near := true } serving) .done
    (.flags true false) = true := by decide
theorem test_set_folio_policy : runs (.setFolioPolicy 1 [50, 24]) serving (fun t => decide (t.fst.band = 50 ∧ t.fst.lifetime = 24)) = true := by decide
theorem test_query_folio_policy : answers (.queryFolioPolicy 1 []) serving .done (.folioPolicy 90 8) = true := by decide
/-- R85: AVAILABLE AT MOST 10,000 over OPEN and FROZEN folios. -/
theorem test_scan_folios : answers (.scanFolios 1 ([3] ++ leInt 4 10000 ++ [3] ++ leBytes 2 1)) { serving with fst := { Fst.reset with
      folios := [(12, folioOf .opened 90000 100000), (13, folioOf .opened 89999 100000), (15, folioOf .frozen 5 0), (18, folioOf .closed 5 0)] } } .done
    (.numbers [12, 15] 4000 true) = true := by decide

theorem witness_OpenFolio : decodeFields openFolioFields (leBytes 2 4000 ++ leInt 4 1073741824 ++ leInt 4 0) = .ok [some 4000, some 1073741824, some 0]
    ∧ decodeFields openFolioFields (leBytes 2 1 ++ leInt 4 0 ++ leInt 4 (-1073741824)) = .ok [some 1, some 0, some (-1073741824)]
    ∧ ((putFolio 1 (folioOf .closed 0 0) serving).fst.folios.get 1).isSome = true ∧ serving.fst.folios.get 4000 = none
    ∧ 16384 ≤ (withUsed 16384 9 0 serving).jnl.used ∧ (withUsed 16383 9 0 serving).jnl.used < 16384 := by decide
theorem witness_SetLimitPostCredit : decodeFields setLimitFields (leBytes 2 1 ++ leInt 4 0) = .ok [some 1, some 0]
    ∧ decodeFields postCreditFields (leBytes 2 1 ++ leInt 3 8388607) = .ok [some 1, some 8388607]
    ∧ decodeFields postCreditFields (leBytes 2 1 ++ leInt 3 (-8388608)) = .ok [some 1, some (-8388608)] ∧ serving.fst.folios.get 1 = none
    ∧ (putFolio 1 (folioOf .opened 1073741824 9) serving).fst.folios.get 1 = some (folioOf .opened 1073741824 9)
    ∧ ((0 : Int) < 8388607 ∧ (1073741824 : Int) < 1073741824 + 8388607) ∧ ((-8388608 : Int) < 0 ∧ ¬ (0 + -8388608 : Int) < -1073741824) := by decide
theorem witness_FolioStates : decodeFields oneFolioFields (leBytes 2 4000) = .ok [some 4000] ∧ serving.fst.folios.get 4000 = none
    ∧ (∀ st ∈ [FolioState.opened, .frozen, .closed], (putFolio 4000 (folioOf st 9 9) serving).fst.folios.get 4000 = some (folioOf st 9 9))
    ∧ ¬ (9 : Int) < 9 ∧ (9 : Int) < 10 ∧ (folioOf .opened 1 1).holds = [] ∧ [holdOf 1 1 1] ≠ [] := by decide
/-- R55, log 48: an available credit of 2^31 shows a free high field and the low field 0. -/
theorem test_query_folio_too_wide : runs (.queryFolio 1 (leBytes 2 1204)) (putFolio 1204 (folioOf .opened (-1073741824) 1073741824) serving) (fun t =>
    match lastReply t with
    | some (.done, .folio _ _ limit _ available _ _ _ _) => decide (limit = ⟨64, 0⟩ ∧ available.low = 0 ∧ t.free = 1)
    | _ => false) = true := by decide
theorem witness_FolioQueries_tooWide : (1073741824 - -1073741824 - 0 : Int) = 2147483648 ∧ (1073741823 - -1073741824 - 0 : Int) ≤ 2147483647 := by decide
theorem witness_FolioSettings : decodeFields setFolioPolicyFields [100, 1] = .ok [some 100, some 1] ∧ decodeFields setTillPolicyFields [0] = .ok [some 0]
    ∧ decodeFields setAccessPolicyFields [1, 2] = .ok [some 1, some 2]
    ∧ judgeFields setPollWindowFields setPollWindowCross [0, 1, 7, 20] = .ok [some 0, some 7, some 20]
    ∧ judgeFields setPollWindowFields setPollWindowCross [1, 0, 0, 2] = .ok [some 1, none, some 2] := by decide
theorem witness_Queries : serving.ready = true ∧ decodeFields queryCardFields (leBytes 4 1) = .ok [some 1]
    ∧ (withCard 1 5 .lost serving).crg.search 1 = .found 10125 (cardOn 1 5 .lost) ∧ serving.crg.search 1 = .freeAt 10125
    ∧ decodeFields queryVenueFields [63] = .ok [some 63] ∧ decodeFields queryTillFields [127] = .ok [some 127]
    ∧ decodeFields oneCabinFields (leBytes 2 65535) = .ok [some 65535] ∧ serving.cau.cabins.get 65535 = none
    ∧ decodeFields querySegmentFields [7] = .ok [some 7] ∧ decodeFields queryPersonFields (leBytes 2 8000) = .ok [some 8000]
    ∧ serving.persons.get 8000 = none ∧ decodeFields queryStationFields [3] = .ok [some 3]
    ∧ (setTimer (.running 0) serving).pru.timer = .running 0 ∧ serving.scl.voyage ≤ 0 := by decide

/-! ### Pricing (chapter 3) -/

/-- The venue of case 1, under a rounding. -/
def barPricing (taxOnGratuity : Bool) (rounding : Rounding) : Pricing :=
  { currency := .base, gratuity := 1800, tax := 825, taxOnGratuity := taxOnGratuity, rounding := rounding }
/-- A line with no flags. -/
def lineOfCase (price quantity : Int) : Line := { price := price, quantity := quantity, age := false, noGrat := false, noTax := false }

/-- The table of R44, X / D at D 10,000. -/
theorem test_rounding_table : [23000, 25000, 35000, -23000, -25000, -27000, -35000].map (fun x => roundBy .halfEven x 10000) = [2, 2, 4, -2, -2, -3, -4]
    ∧ [23000, 25000, 35000, -23000, -25000, -27000, -35000].map (fun x => roundBy .tiesUp x 10000) = [2, 3, 4, -2, -2, -3, -3] := by decide
/-- Cases 1 and 1a. -/
theorem test_price_base : priceCharge (barPricing false .halfEven) 16777216 [lineOfCase 1375 2, lineOfCase 125 1] = .ok ⟨3629, 517, 237⟩
    ∧ priceCharge (barPricing false .tiesUp) 16777216 [lineOfCase 1375 2, lineOfCase 125 1] = .ok ⟨3630, 518, 237⟩
    ∧ priceCharge (barPricing true .halfEven) 16777216 [lineOfCase 1375 2, lineOfCase 125 1] = .ok ⟨3672, 517, 280⟩
    ∧ priceCharge (barPricing false .tiesUp) 16777216 [lineOfCase 1375 (-2), lineOfCase 125 (-1)] = .ok ⟨-3629, -517, -237⟩ := by decide
/-- Cases 2 and 3. -/
theorem test_price_port :
    (Line.amounts (lineOfCase 1001 1) { Pricing.reset with currency := .port } 8388608).b = 500
    ∧ (Line.amounts (lineOfCase 1001 1) { Pricing.reset with currency := .port, rounding := .tiesUp } 8388608).b = 501
    ∧ (Line.amounts (lineOfCase 1001 (-1)) { Pricing.reset with currency := .port, rounding := .tiesUp } 8388608).b = -500
    ∧ priceCharge { currency := .port, gratuity := 1500, tax := 700, taxOnGratuity := true, rounding := .halfEven } 15456789 [lineOfCase 2450 3]
        = .ok ⟨8333, 1016, 545⟩ := by decide
/-- Case 5. -/
theorem test_price_declines :
    priceCharge (barPricing false .halfEven) 1 [lineOfCase 9999999 1] = .error ⟨1, .b⟩
    ∧ priceCharge (barPricing false .halfEven) 1 [lineOfCase 7000000 1] = .error ⟨1, .l⟩
    ∧ priceCharge (barPricing false .halfEven) 1 [⟨5000000, 1, false, true, true⟩, ⟨5000000, 1, false, true, true⟩] = .error ⟨0, .s⟩
    ∧ priceCharge { barPricing false .halfEven with gratuity := 5000, tax := 0 } 1
        (List.replicate 4 (lineOfCase 5000000 1) ++ List.replicate 4 ⟨7500000, -1, false, true, false⟩) = .error ⟨0, .sumB⟩ := by decide
theorem witness_Pricing : 2 * ((2300 : Int) % 10000) < 10000 ∧ (10000 : Int) < 2 * (27000 % 10000) ∧ 2 * ((25000 : Int) % 10000) = 10000
    ∧ 2 * ((8388608 : Int) % 16777216) = 16777216 ∧ (0 : Int) ≤ 8388607
    ∧ [lineOfCase 9999999 1][0]? = some (lineOfCase 9999999 1)
    ∧ ¬ (Line.amounts (lineOfCase 9999999 1) (barPricing false .halfEven) 1).b ≤ 8388607
    ∧ ((Line.amounts (lineOfCase 7000000 1) (barPricing false .halfEven) 1).b ≤ 8388607
       ∧ ¬ (Line.amounts (lineOfCase 7000000 1) (barPricing false .halfEven) 1).l ≤ 8388607) := by decide

/-! ### Tills (chapter 5) -/

/-- A till with its venue. -/
def tillAt (venue : Fin 64) : Till := { Till.reset with venue := some venue }
/-- Venue 9, OPEN, with the pricing of the bar. -/
def bar : Venue := { Venue.reset with isOpen := true, live := barPricing false .halfEven, staged := barPricing false .halfEven }
/-- The controller of "a void, and two voids refused" at a voyage time: till 40 at venue 12, person 5,301, folio 3,020 with a balance. -/
def pier (voyage : Nat) (balance spent : Int) : State :=
  putFolio 3020 (folioOf .opened balance 400000) (withPerson 5301
    { personOf .guest 3020 .aboard with spend := { privilege := .allowance, allowance := 20000, spentToday := spent, spendDay := some 61, minor := false } }
    (withCard 7 5301 .active (putVenue 12 bar (putTill 40 (tillAt 12)
      { serving with scl := { Scl.reset with voyage := voyage, folioDay := 61 }, jnl := { Jnl.reset with next := 88410, delivered := 88410, released := 88410 } }))))
/-- The lines 1,375 × 2 and 125 × 1 as bytes. -/
def twoLines : List Byte := leBytes 3 1375 ++ [2, 0] ++ leBytes 3 125 ++ [1, 0]
/-- The waiting request of charge 17. -/
def charge17 : Waiting := { sequence := 17, folio := 3020, person := 5301, serial := 7, venue := 12, lenient := false, work := .charge ⟨3629, 517, 237⟩ 2 }
/-- Till 40's last approved charge after charge 17. -/
def approved17 : Approved := { kind := .charge, charge := 88410, voyage := 3100000, folio := 3020, person := 5301, total := 3629 }
/-- A till WORKING on a request. -/
def working (n : Fin 128) (w : Waiting) (s : State) : State := putTill n { s.till n with working := some w } s

/-- Charge 17 passes its take. -/
theorem test_charge : runs (.charge 17 ([40] ++ leBytes 4 7 ++ [2] ++ twoLines)) (pier 3100000 55000 12000) (fun t =>
    decide (t.chu.tills[(40 : Fin 128)].working = some charge17)) = true := by decide
/-- Charge 17 settles: balance 58,629, spent today 15,629, charge number 88,410. -/
theorem test_charge_settlement : runs (.chargeSettlement 40) (working 40 charge17 (pier 3100000 55000 12000)) (fun t =>
    decide ((t.fst.folios.get 3020).map (·.balance) = some 58629 ∧ (t.persons.get 5301).map (·.spend.spentToday) = some 15629
      ∧ t.chu.tills[(40 : Fin 128)].lastApproved = some approved17 ∧ lastVerdict t = some (.approved, none, 0))) = true := by decide
/-- Charge 21: 15,472 + 7,575 is over the allowance. -/
theorem test_charge_over_allowance : runs (.chargeSettlement 40) (working 40 { charge17 with work := .charge ⟨7575, 1080, 495⟩ 1 } (pier 3100260 58472 15472))
    (fun t => decide (lastVerdict t = some (.declined, some .overAllowance, 0))) = true := by decide
/-- Void 18, 45 s after the charge. -/
theorem test_void : runs (.void 18 ([40] ++ leBytes 4 7 ++ leBytes 4 88410)) (putTill 40 { tillAt 12 with lastApproved := some approved17 }
    (pier 3100045 58629 15629)) (fun t => decide ((t.chu.tills[(40 : Fin 128)].working).map (·.work) = some (.void approved17))) = true := by decide
/-- Void 22: 120 s are not less than 120. -/
theorem test_void_late : runs (.void 22 ([40] ++ leBytes 4 7 ++ leBytes 4 88410)) (putTill 40 { tillAt 12 with lastApproved := some approved17 }
    (pier 3100120 58629 15629)) (fun t => decide (lastVerdict t = some (.declined, some .voidRefused, 0))) = true := by decide
/-- The void settles: balance 55,000, spent today 12,000, no approved charge. -/
theorem test_void_settlement : runs (.voidSettlement 40) (working 40 { charge17 with work := .void approved17 } (pier 3100045 58629 15629)) (fun t =>
    decide ((t.fst.folios.get 3020).map (·.balance) = some 55000 ∧ (t.persons.get 5301).map (·.spend.spentToday) = some 12000
      ∧ t.chu.tills[(40 : Fin 128)].lastApproved = none)) = true := by decide

/-- The controller of "a tab across its expiry". -/
def tabBar (voyage : Nat) (holds : List Hold) : State :=
  { putFolio 1877 { folioOf .opened 120000 300000 with holds := holds } (withPerson 2650 (personOf .guest 1877 .aboard)
      (withCard 7 2650 .active (putVenue 9 bar (putTill 31 (tillAt 9) (atTime voyage serving))))) with
    jnl := { Jnl.reset with next := 501338, delivered := 501338, released := 501338 } }
/-- The waiting request of the tab's opening. -/
def tab40 : Waiting := { sequence := 40, folio := 1877, person := 2650, serial := 7, venue := 9, lenient := false, work := .openTab 40000 }
/-- The waiting request of the tab's closing, priced at 7,070. -/
def tab41 : Waiting := { tab40 with sequence := 41, work := .closeTab 1212 ⟨7070, 1008, 462⟩ 2 }
theorem test_open_tab : runs (.openTab 40 ([31] ++ leBytes 4 7 ++ leBytes 3 40000)) (tabBar 2400000 []) (fun t =>
    decide (t.chu.tills[(31 : Fin 128)].working = some tab40)) = true := by decide
theorem test_open_tab_settlement : runs (.openTabSettlement 31) (working 31 tab40 (let s := tabBar 2400000 []; { s with fst := { s.fst with nextHold := 1212 } }))
    (fun t => decide ((t.fst.folios.get 1877).map (·.holds) = some [holdOf 1212 40000 2400000] ∧ t.fst.nextHold = 1213)) = true := by decide
theorem test_close_tab : runs (.closeTab 41 ([31] ++ leBytes 4 7 ++ leBytes 2 1212 ++ [2] ++ leBytes 3 1375 ++ [2, 0] ++ leBytes 3 950 ++ [3, 0]))
    (tabBar 2428801 [holdOf 1212 40000 2400000]) (fun t => decide (t.chu.tills[(31 : Fin 128)].working = some tab41)) = true := by decide
/-- Case A: balance 127,070, no hold, the last approved charge of kind TAB CLOSE. -/
theorem test_close_tab_settlement : runs (.closeTabSettlement 31) (working 31 tab41 (tabBar 2428801 [holdOf 1212 40000 2400000])) (fun t =>
    decide ((t.fst.folios.get 1877).map (fun f => (f.balance, f.holds)) = some (127070, []) ∧ t.fst.dayTotal = 7070
      ∧ t.chu.tills[(31 : Fin 128)].lastApproved = some ⟨.tabClose, 501338, 2428801, 1877, 2650, 7070⟩)) = true := by decide
/-- Case B: the hold has expired. -/
theorem test_close_tab_settlement_unknown : runs (.closeTabSettlement 31) (working 31 tab41 (tabBar 2430000 [])) (fun t =>
    decide (lastVerdict t = some (.declined, some .holdUnknown, 0))) = true := by decide
/-- R187, R89: code 5 is no till request. -/
theorem test_malformed : runs (.malformed 0x05 3 [40]) serving (fun t => decide (lastVerdict t = some (.malformed, none, 0))) = true := by decide

theorem test_set_till : runs (.setTill 1 [5, 1, 1, 63]) serving (fun t => decide (t.chu.tills[(5 : Fin 128)].venue = some 63)) = true
    ∧ answers (.setTill 1 [5, 0, 1, 63]) serving .malformed (.field 3) = true := by decide
/-- R95: a SHORE DESK is presence-exempt when the field is absent. -/
theorem test_set_venue : runs (.setVenue 1 [12, 0, 4, 0, 0, 1]) serving (fun t => decide (t.chu.venues[(12 : Fin 64)].exempt = true
    ∧ t.chu.venues[(12 : Fin 64)].isOpen = true ∧ t.chu.venues[(12 : Fin 64)].returns = true)) = true := by decide
theorem test_stage_venue_pricing : runs (.stageVenuePricing 1 ([12, 1] ++ leBytes 2 5000 ++ leBytes 2 825 ++ [1, 1, 0])) serving (fun t =>
    decide (t.chu.venues[(12 : Fin 64)].staged = ⟨.port, 5000, 825, true, .tiesUp⟩ ∧ t.chu.venues[(12 : Fin 64)].stagedPending = true)) = true
    ∧ answers (.stageVenuePricing 1 ([12, 1] ++ leBytes 2 5000 ++ leBytes 2 825 ++ [1, 1, 1])) serving .notNow .nothing = true := by decide
theorem test_stage_port_rate : runs (.stagePortRate 1 (leBytes 4 8388608 ++ [1])) loading (fun t =>
    decide (t.chu.rateLive = 8388608 ∧ t.chu.ratePending = false)) = true ∧ answers (.stagePortRate 1 (leBytes 4 0 ++ [1])) loading .malformed (.field 1) = true := by
  decide
theorem test_query_venue : answers (.queryVenue 1 [12]) (pier 1 0 0) .done (.venue bar) = true := by decide
theorem test_query_port_rate : answers (.queryPortRate 1 []) serving .done (.portRate 16777216 16777216 false .lenient) = true := by decide
theorem test_query_till : answers (.queryTill 1 [40]) (pier 1 0 0) .done (.till ⟨some 12, false, none, none, none⟩) = true := by decide
theorem test_set_till_policy : runs (.setTillPolicy 1 [0]) serving (fun t => decide (t.chu.policy = .strict)) = true := by decide

theorem witness_TillSettings : judgeFields setTillFields setTillCross [127, 1, 1, 63] = .ok [some 127, some 1, some 63]
    ∧ judgeFields setTillFields setTillCross [0, 0, 0, 0] = .ok [some 0, some 0, none]
    ∧ (working 40 charge17 (pier 1 0 0)).chu.tills[(40 : Fin 128)].working ≠ none ∧ (pier 1 0 0).chu.tills[(40 : Fin 128)].working = none
    ∧ decodeFields setVenueFields [63, 1, 4, 0, 0, 0] = .ok [some 63, some 1, some 4, none, some 0]
    ∧ decodeFields stageVenuePricingFields ([63, 0] ++ leBytes 2 5000 ++ leBytes 2 0 ++ [0, 0, 1]) = .ok [some 63, some 0, some 5000, some 0, some 0, some 0, some 1]
    ∧ decodeFields stagePortRateFields (leBytes 4 4294967295 ++ [0]) = .ok [some 4294967295, some 0] := by decide
theorem witness_TillFrames_malformed : tillRequestOf .charge [40, 7, 0, 0, 0, 1] = .error ⟨0, 0⟩ ∧ knownTillRequest 5 = false
    ∧ tillLengthOk .charge [40, 7, 0, 0, 0, 1] = false ∧ tillLengthOk .void ([128] ++ leBytes 4 7 ++ leBytes 4 9) = true
    ∧ 128 ≤ leNat (slice ([128] ++ leBytes 4 7 ++ leBytes 4 9) 0 1) ∧ leNat (slice ([127] ++ leBytes 4 0 ++ leBytes 4 9) 0 1) < 128
    ∧ leNat (slice ([127] ++ leBytes 4 0 ++ leBytes 4 9) 1 4) = 0
    ∧ leNat (slice ([127] ++ leBytes 4 4294967295 ++ leBytes 4 9) 1 4) = 4294967295 := by decide
/-- The body of an OPEN TAB at till 31. -/
def tabBody : List Byte := [31] ++ leBytes 4 7 ++ leBytes 3 40000
theorem witness_TillGate : tillRequestOf .openTab tabBody = .ok ⟨31, 7, .openTab 40000⟩ ∧ serving.chu.tills[(31 : Fin 128)].venue = none
    ∧ (tabBar 0 []).chu.tills[(31 : Fin 128)].venue ≠ none
    ∧ (let t := (putTill 31 { tillAt 9 with lastSequence := some 40, lastDecision := some ⟨.charge, bareAnswer .busy⟩ } serving).chu.tills[(31 : Fin 128)]
       t.lastSequence = some 40 ∧ t.lastDecision = some ⟨.charge, bareAnswer .busy⟩)
    ∧ (working 31 tab40 (tabBar 0 [])).chu.tills[(31 : Fin 128)].working ≠ none
    ∧ (tabBar 0 []).chu.tills[(31 : Fin 128)].lastSequence = none ∧ loading.slc.service = .loading := by decide
theorem gate_tabBar (voyage : Nat) : (tabBar voyage []).gateOpen 31 9 40 := by
  refine ⟨rfl, ?_, ?_, ?_, rfl⟩ <;> simp [tabBar, putFolio, withPerson, putPerson, withCard, putCard, putVenue, putTill, tillAt, Till.reset, atTime, serving]
theorem witness_Takes_pass : (tabBar 5 []).gateOpen 31 9 40 ∧ (tabBar 5 []).chu.venues[(9 : Fin 64)].isOpen = true
    ∧ lookup 7 (tabBar 5 []) = some ⟨homeSlot 7, cardOn 7 2650 .active, personOf .guest 1877 .aboard⟩
    ∧ tillRequestOf .openTab tabBody = .ok ⟨31, 7, .openTab 40000⟩
    ∧ tillRequestOf .charge ([31] ++ leBytes 4 7 ++ [2] ++ twoLines) = .ok ⟨31, 7, .charge [lineOfCase 1375 2, lineOfCase 125 1]⟩
    ∧ tillRequestOf .closeTab ([31] ++ leBytes 4 7 ++ leBytes 2 1 ++ [2] ++ twoLines) = .ok ⟨31, 7, .closeTab 1 [lineOfCase 1375 2, lineOfCase 125 1]⟩
    ∧ priceCharge (tabBar 5 []).chu.venues[(9 : Fin 64)].live (tabBar 5 []).chu.rateLive [lineOfCase 1375 2, lineOfCase 125 1] = .ok ⟨3629, 517, 237⟩
    ∧ priceTab (tabBar 5 []).chu.venues[(9 : Fin 64)].live (tabBar 5 []).chu.rateLive [lineOfCase 1375 2, lineOfCase 125 1] = .ok ⟨3629, 517, 237⟩
    ∧ (personOf .guest 1877 .aboard).spend.privilege = .full ∧ (personOf .guest 1877 .aboard).spend.minor = false
    ∧ (tabBar 5 []).chu.venues[(9 : Fin 64)].exempt = false ∧ (tabBar 5 []).chu.policy = .lenient
    ∧ tillRequestOf .void ([40] ++ leBytes 4 7 ++ leBytes 4 88410) = .ok ⟨40, 7, .void 88410⟩
    ∧ approved17.kind = .charge ∧ 3100119 < approved17.voyage + 120 ∧ ¬ 3100120 < approved17.voyage + 120 := by
  refine ⟨gate_tabBar 5, ?_⟩
  decide
theorem witness_Takes_decline : tillRequestOf .openTab tabBody = .ok ⟨31, 7, .openTab 40000⟩ ∧ (tabBar 5 []).gateOpen 31 9 40
    ∧ (putVenue 9 Venue.reset (tabBar 5 [])).chu.venues[(9 : Fin 64)].isOpen = false
    ∧ lookup 8 (tabBar 5 []) = none
    ∧ (∀ st ∈ [CardState.lost, .suspended, .departed, .active], (lookup 7 (withCard 7 2650 st (tabBar 5 []))).map (·.card.state) = some st)
    ∧ (personOf .child 0 .aboard).spend.privilege = .noPrivilege ∧ (personOf .crew 0 .aboard).ident.folio = 0 ∧ (personOf .child 1 .aboard).spend.minor = true
    ∧ ([{ lineOfCase 1 1 with age := true }].any (·.age)) = true
    ∧ priceTab (barPricing false .halfEven) 1 [lineOfCase 1375 (-2)] = .error ⟨0, .s⟩
    ∧ (tabBar 5 []).chu.policy = .lenient ∧ bar.exempt = false ∧ (personOf .guest 1877 .ashore).att.presence = .ashore := by
  refine ⟨by decide, gate_tabBar 5, ?_⟩
  decide
theorem witness_ChargeSettlement :
    (let s := working 40 charge17 (pier 3100000 55000 12000)
     s.boundary = none ∧ s.chu.tills[(40 : Fin 128)].working = some charge17 ∧ charge17.work = .charge ⟨3629, 517, 237⟩ 2
     ∧ s.fst.folios.get 3020 = some (folioOf .opened 55000 400000) ∧ s.jnl.used < 16384 ∧ (55000 + 0 + 3629 : Int) ≤ 400000 ∧ (12000 + 3629 : Int) ≤ 20000)
    ∧ (pier 3100260 58472 15472).persons.get 5301 = some { personOf .guest 3020 .aboard with spend := ⟨.allowance, 20000, 15472, some 61, false⟩ }
    ∧ ((20000 : Int) < 15472 + 7575) ∧ (serving.fst.folios.get 3020 = none) ∧ (pier 1 0 0).chu.venues[(12 : Fin 64)].returns = false
    ∧ ((0 : Int) < 3629 ∧ (400000 : Int) < 396372 + 0 + 3629)
    ∧ (putVenue 12 { bar with returns := true } serving).chu.venues[(12 : Fin 64)].returns = true ∧ (-1073741824 + -1 : Int) < -1073741824
    ∧ (withUsed 16384 9 0 serving).jnl.used = 16384 := by decide
theorem witness_OpenTabSettlement : (working 31 tab40 (tabBar 5 [])).boundary = none
    ∧ (working 31 tab40 (tabBar 5 [])).chu.tills[(31 : Fin 128)].working = some tab40 ∧ tab40.work = .openTab 40000
    ∧ (working 31 tab40 (tabBar 5 [])).fst.folios.get 1877 = some (folioOf .opened 120000 300000)
    ∧ (120000 + 0 + 40000 : Int) ≤ 300000 ∧ (300000 : Int) < 270000 + 0 + 40000 ∧ 4 ≤ (List.replicate 4 (holdOf 1 1 1)).length
    ∧ (working 31 tab40 (tabBar 5 [])).jnl.used < 16384 ∧ (tabBar 5 []).fst.outstanding.length < 65535 ∧ 1 ≤ (tabBar 5 []).fst.nextHold
    ∧ (tabBar 5 []).fst.nextHold ≤ 65535 ∧ (∀ h ∈ (tabBar 5 []).fst.outstanding, h.number ≠ (tabBar 5 []).fst.nextHold)
    ∧ serving.fst.folios.get 1877 = none := by decide
theorem witness_CloseTabSettlement : (working 31 tab41 (tabBar 5 [holdOf 1212 40000 0])).chu.tills[(31 : Fin 128)].working = some tab41
    ∧ tab41.work = .closeTab 1212 ⟨7070, 1008, 462⟩ 2
    ∧ (tabBar 5 [holdOf 1212 40000 0]).fst.folios.get 1877 = some { folioOf .opened 120000 300000 with holds := [holdOf 1212 40000 0] }
    ∧ [holdOf 1212 40000 0].find? (fun h => h.number == 1212) = some (holdOf 1212 40000 0)
    ∧ ([] : List Hold).find? (fun h => h.number == 1212) = none ∧ (tabBar 5 []).jnl.used < 16384
    ∧ (personOf .guest 1877 .aboard).spend.privilege ≠ .allowance ∧ (tabBar 5 []).boundary = none := by decide
theorem witness_VoidSettlement : (working 40 { charge17 with work := .void approved17 } (pier 3100045 58629 15629)).chu.tills[(40 : Fin 128)].working
      = some { charge17 with work := .void approved17 }
    ∧ (pier 3100045 58629 15629).fst.folios.get 3020 = some (folioOf .opened 58629 400000)
    ∧ (0 < approved17.total ∧ (-1073741824 : Int) - 0 + 3628 - approved17.total < -1073741824)
    ∧ ((pier 3100045 58629 15629).persons.get 5301).map (·.spend.spendDay) = some (some 61) ∧ (pier 3100045 58629 15629).scl.folioDay = 61
    ∧ (pier 3100045 58629 15629).jnl.used < 16384 ∧ (pier 3100045 58629 15629).boundary = none := by decide

/-! ### Cabins (chapter 6) -/

/-- Cabin 8,214 of the worked sequence "one cabin through a day", with privacy and state given. -/
def cabin8214 (state : CabinState) (privacy : Bool) : Cabin :=
  { segment := 3, node := 142, state := state, entry := .closed, privacy := privacy,
    bindings := [⟨4117, .occupant, 1700000, some 2300000⟩, ⟨4118, .occupant, 1700000, some 2300000⟩, ⟨6002, .service, 1700000, none⟩] }
/-- The controller of that sequence at a voyage time. -/
def oneDay (voyage : Nat) (state : CabinState) (privacy : Bool) : State :=
  let s := [(4117, Presence.aboard), (4118, .ashore), (6002, .aboard), (6100, .aboard), (6200, .aboard)].foldl
    (fun s e => withPerson e.1 (personOf .guest 0 e.2) s) (atTime voyage serving)
  putCabin 8214 (cabin8214 state privacy) (withCard 71000003 4117 .active (withCard 71000004 4118 .active (withCard 72400010 6002 .active
    (putCard (homeSlot 72400555) { cardOn 72400555 6100 .active with keyLevel := .officer, mask := 8 }
      (putCard (homeSlot 72400777) { cardOn 72400777 6200 .active with keyLevel := .housekeeping, mask := 12 } s)))))
/-- The decision on a card at the cabin's lock. -/
def decision (serial : Word32) (s : State) : AccessDecision := (present 3 142 serial s).1

/-- The worked sequence, decision by decision. -/
theorem test_one_cabin_through_a_day :
    decision 71000003 (oneDay 1800000 .inService false) = .grant ∧ decision 72400010 (oneDay 1801000 .inService true) = .denyPrivacy
    ∧ decision 72400777 (oneDay 1801200 .inService true) = .denyPrivacy ∧ decision 72400555 (oneDay 1801500 .inService true) = .grantMaster
    ∧ decision 71000004 (oneDay 1900000 .inService true) = .grant ∧ decision 71000003 (oneDay 2000100 .outOfOrder false) = .denyCabinClosed
    ∧ decision 72400777 (oneDay 2000200 .outOfOrder false) = .grantMaster ∧ decision 71000003 (oneDay 2300000 .inService false) = .denyExpired := by
  decide +kernel
/-- The steward's refusal leaves one ACCESS record and a fail streak of 1; the officer's grant leaves none. -/
theorem test_denial_is_recorded :
    (let t := (present 3 142 72400010 (oneDay 1801000 .inService true)).2
     (t.jnl.recordAt 1).map (fun r => (r.kind, r.reason, r.index)) = some (.access, 11, 8214)
     ∧ (t.crg.ring.get (homeSlot 72400010)).map (·.failStreak) = some 1)
    ∧ (present 3 142 72400555 (oneDay 1801500 .inService true)).2.jnl.next = 1 := by decide +kernel

/-- Suite 5,120 of "binding into a full suite". -/
def suite : Cabin :=
  { segment := 1, node := 9, state := .inService, entry := .unknown, privacy := false,
    bindings := [⟨301, .occupant, 1000000, none⟩, ⟨302, .occupant, 1000000, some 1900000⟩, ⟨303, .shared, 1200000, some 2100000⟩,
                 ⟨950, .service, 1000000, some 1950000⟩, ⟨951, .service, 1950000, some 2600000⟩, ⟨304, .shared, 2050000, some 2600000⟩] }
/-- A person bound to the suite, and one bound elsewhere. -/
def boundTo (cabins : List Nat) : Person := let p := personOf .guest 0 .aboard; { p with ident := { p.ident with cabins := cabins } }
/-- The controller of that sequence at a voyage time. -/
def fullSuite (voyage : Nat) : State :=
  putCabin 5120 suite (withPerson 302 (boundTo [5120]) (withPerson 303 (boundTo [5120]) (withPerson 305 (boundTo [77]) (withPerson 950 (boundTo [8, 5120])
    (atTime voyage serving)))))
/-- The bytes of a BIND without a valid until. -/
def bindBody (person cabin kind validFrom : Nat) : List Byte := leBytes 2 person ++ leBytes 2 cabin ++ leBytes 1 kind ++ leBytes 4 validFrom ++ [0, 0, 0, 0, 0]
/-- The worked sequence: position 5, 2 swept, on both lists. -/
theorem test_bind_sweeps : runs (.bind 1 (bindBody 305 5120 0 2000000)) (fullSuite 2000000) (fun t =>
    decide (lastReply t = some (.done, .bound 5 2) ∧ (t.cau.cabins.get 5120).map (fun c => c.bindings.map (·.person)) = some [301, 303, 951, 304, 305]
      ∧ (t.persons.get 305).map (·.ident.cabins) = some [77, 5120] ∧ (t.persons.get 950).map (·.ident.cabins) = some [8])) = true := by decide
/-- The worked sequence, the end: a BIND of person 303 is a rewrite at position 3 of the full list. -/
theorem test_bind_rewrites : answers (.bind 1 (bindBody 303 5120 1 1200000)) (fullSuite 2000000) .done (.position 3) = true := by decide
theorem test_unbind : runs (.unbind 1 (leBytes 2 303 ++ leBytes 2 5120)) (fullSuite 2000000) (fun t =>
    decide (lastReply t = some (.done, .position 3) ∧ (t.persons.get 303).map (·.ident.cabins) = some [])) = true
    ∧ answers (.unbind 1 (leBytes 2 305 ++ leBytes 2 5120)) (fullSuite 2000000) .notFound .nothing = true := by decide
/-- R127, R132: the first cabin of a segment begins its cycle with a MODE frame. -/
theorem test_add_cabin : runs (.addCabin 1 (leBytes 2 5020 ++ [5] ++ leBytes 2 20 ++ [0, 0])) serving (fun t =>
    decide (t.txOf (.segment 5) = [.mode 20 .normal] ∧ (t.cau.cabins.get 5020).map (·.state) = some .inService
      ∧ (t.lscs[(5 : Fin 8)].nodes.get 20).map (·.state) = some .unprobed)) = true := by decide
theorem test_add_cabin_conflict : answers (.addCabin 1 (leBytes 2 5021 ++ [1] ++ leBytes 2 9 ++ [0, 0])) (fullSuite 5) .conflict (.field 3) = true := by decide
theorem test_remove_cabin : runs (.removeCabin 1 (leBytes 2 5120)) (fullSuite 2000000) (fun t =>
    decide (lastReply t = some (.done, .bindings 6) ∧ t.cau.cabins = [] ∧ (t.persons.get 950).map (·.ident.cabins) = some [8])) = true := by decide
/-- Worked sequence "a lockdown of a segment": four cabins are set. -/
theorem test_set_cabin_state : runs (.setCabinState 1 ([1, 0, 0, 0, 1, 5, 2])) { serving with
      cau := { Cau.reset with cabins := [(5020, { suite with segment := 5, node := 20 }), (5021, { suite with segment := 5, node := 21 }),
        (5040, { suite with segment := 5, node := 40 }), (5120, suite), (5300, { suite with segment := 5, node := 300 })] },
      lscs := serving.lscs.set 5 { Lsc.reset with nodes := [(20, onlineNode), (21, onlineNode), (40, { onlineNode with state := .silent }), (300, onlineNode)] } }
    (fun t => decide (lastReply t = some (.done, .cabinsSet 4) ∧ t.lscs[(5 : Fin 8)].nodes.map (·.2.pendingMode) = List.replicate 4 .lockdown
      ∧ (t.cau.cabins.get 5120).map (·.state) = some .inService)) = true := by decide
theorem test_set_access_policy : answers (.setAccessPolicy 1 [0, 2]) serving .done (.accessPolicy .lenient .denials) = true
    ∧ runs (.setAccessPolicy 1 [0, 2]) serving (fun t => decide (t.cau.policy = .strict ∧ t.cau.logging = .all)) = true := by decide
theorem test_query_access_policy : answers (.queryAccessPolicy 1 []) serving .done (.accessPolicy .lenient .denials) = true := by decide
theorem test_query_cabin : answers (.queryCabin 1 (leBytes 2 5120)) (fullSuite 5) .done (.cabin 5120 suite none) = true := by decide

theorem witness_Cabins : decodeFields addCabinFields (leBytes 2 65535 ++ [7] ++ leBytes 2 511 ++ [1, 2]) = .ok [some 65535, some 7, some 511, some 2]
    ∧ decodeFields addCabinFields (leBytes 2 1 ++ [1] ++ leBytes 2 9 ++ [0, 0]) = .ok [some 1, some 1, some 9, none]
    ∧ ((fullSuite 5).cau.cabins.get 5120).isSome = true ∧ (fullSuite 5).cau.cabins.get 1 = none ∧ ((fullSuite 5).cau.cabinAt 1 9).isSome = true
    ∧ (fullSuite 5).cau.cabinAt 7 511 = none ∧ (List.replicate 3200 ((1 : Nat), suite)).length = 3200 ∧ serving.lscs[(7 : Fin 8)].running = false
    ∧ serving.lscs[(7 : Fin 8)].nodes = [] ∧ (polled .running .noMode onlineNode serving).lscs[(5 : Fin 8)].running = true
    ∧ decodeFields oneCabinFields (leBytes 2 5120) = .ok [some 5120] ∧ (fullSuite 5).cau.cabins.get 5120 = some suite
    ∧ judgeFields setCabinStateFields setCabinStateCross [0, 1, 0, 20, 0, 0, 1] = .ok [some 0, some 5120, none, some 1]
    ∧ judgeFields setCabinStateFields setCabinStateCross [1, 0, 0, 0, 1, 7, 2] = .ok [some 1, none, some 7, some 2]
    ∧ (fullSuite 5).cau.cabins.wf = true ∧ (fullSuite 5).lscs[(1 : Fin 8)].nodes.get 9 = none
    ∧ (polled .running .noMode onlineNode serving).lscs[(5 : Fin 8)].nodes.get 20 = some onlineNode := by decide +kernel
theorem witness_Bind : decodeFields bindFields (bindBody 305 5120 0 2000000) = .ok [some 305, some 5120, some 0, some 2000000, none]
    ∧ decodeFields bindFields (leBytes 2 305 ++ leBytes 2 5120 ++ [2] ++ leBytes 4 9 ++ [1] ++ leBytes 4 9) = .ok [some 305, some 5120, some 2, some 9, some 9]
    ∧ ¬ (9 : Nat) < 9 ∧ (fullSuite 5).cau.cabins.get 5120 = some suite ∧ serving.cau.cabins.get 5120 = none ∧ (fullSuite 5).persons.get 306 = none
    ∧ (fullSuite 5).persons.get 305 = some (boundTo [77]) ∧ (boundTo [77]).att.presence ≠ .departed ∧ (∃ x ∈ suite.bindings, x.person = 303)
    ∧ (∀ x ∈ suite.bindings, x.person ≠ 305) ∧ 6 ≤ suite.bindings.length ∧ (cabin8214 .inService false).bindings.length < 6
    ∧ 4 ≤ (boundTo [1, 2, 3, 4]).ident.cabins.length ∧ (boundTo [77]).ident.cabins.length < 4
    ∧ (suite.bindings.filter (fun x => !(x.validUntil.elim false (fun e => decide (e ≤ 2000000))))).length < 6
    ∧ 6 ≤ (suite.bindings.filter (fun x => !(x.validUntil.elim false (fun e => decide (e ≤ 5))))).length
    ∧ decodeFields unbindFields (leBytes 2 303 ++ leBytes 2 5120) = .ok [some 303, some 5120] ∧ (fullSuite 5).persons.get 303 = some (boundTo [5120]) := by
  decide
theorem witness_Access : loading.slc.service = .loading ∧ (oneDay 5 .inService false).slc.service = .serving
    ∧ lookup 9 (oneDay 5 .inService false) = none ∧ (oneDay 5 .inService false).cau.cabinAt 3 142 = some (8214, cabin8214 .inService false)
    ∧ (oneDay 5 .inService false).cau.cabinAt 0 1 = none
    ∧ (∀ st ∈ [CardState.active, .suspended, .lost, .departed], (lookup 71000003 (withCard 71000003 4117 st (oneDay 5 .inService false))).map (·.card.state) = some st)
    ∧ (lookup 71000004 (oneDay 5 .inService false)).map (fun f => (f.person.att.presence, f.card.keyLevel)) = some (.ashore, .noKey)
    ∧ (lookup 72400555 (oneDay 5 .lockedDown true)).map (fun f => (f.card.keyLevel, f.card.mask.getLsbD 3)) = some (.officer, true)
    ∧ (lookup 72400777 (oneDay 5 .lockedDown true)).map (fun f => (f.card.keyLevel, f.card.mask.getLsbD 3)) = some (.housekeeping, true)
    ∧ (1699999 < 1700000 ∧ 1700000 ≤ 1700000 ∧ 2300000 ≤ 2300000 ∧ 2299999 < 2300000)
    ∧ (cabin8214 .inService true).bindings.find? (fun b => b.person == 6002) = some ⟨6002, .service, 1700000, none⟩
    ∧ (cabin8214 .inService true).bindings.find? (fun b => b.person == 1) = none := by decide +kernel

/-! ### Lock segments (chapter 7) -/

/-- R137: a QUIET acknowledges the MODE sent, and the next turn is node 21's. -/
theorem test_quiet : runs (.quiet 5 (leBytes 2 20)) (polled .running .lockdown { onlineNode with pendingMode := .lockdown, missCount := 2 } serving) (fun t =>
    decide (t.lscs[(5 : Fin 8)].nodes.get 20 = some onlineNode ∧ t.txOf (.segment 5) = [.poll 21])) = true := by decide
/-- R124, R141: SET CABIN STATE repeated while the MODE frame is in flight; the reply to that frame leaves the mode pending, to be sent again. -/
theorem test_mode_set_again : runs (.setCabinState 1 [0, 1, 0x9C, 0x13, 0, 0, 2])
      (putCabin 5020 { suite with segment := 5, node := 20, state := .lockedDown } (polled .running .lockdown { onlineNode with pendingMode := .lockdown } serving))
      (fun t => runs (.quiet 5 (leBytes 2 20)) t (fun u => decide ((u.lscs[(5 : Fin 8)].nodes.get 20).map (·.pendingMode) = some .lockdown))) = true := by decide
/-- Worked sequence "a lockdown of a segment": an ENTRY that answers MODE LOCKDOWN leaves NORMAL pending. -/
theorem test_entry : runs (.entry 5 (leBytes 2 20 ++ [0, 1])) (polled .running .lockdown { onlineNode with pendingMode := .normal } serving) (fun t =>
    decide ((t.lscs[(5 : Fin 8)].nodes.get 20).map (·.pendingMode) = some .normal ∧ t.cau.reports = [⟨5, 20, .closed, true⟩])) = true := by decide
/-- R138, R117: in LOADING a card is decided DEFER in the same event. -/
theorem test_card : runs (.card 5 (leBytes 2 20 ++ leBytes 4 7)) (polled .running .noMode onlineNode loading) (fun t =>
    decide (t.txOf (.segment 5) = [.decision 20 7 .defer, .poll 21])) = true := by decide
/-- R139: a restarted node is given its cabin's mode again, and its door is unknown. -/
theorem test_restarted : runs (.restarted 5 (leBytes 2 20)) (putCabin 5020 { suite with segment := 5, node := 20, state := .lockedDown, entry := .closed }
    (polled .running .noMode onlineNode serving)) (fun t =>
    decide ((t.lscs[(5 : Fin 8)].nodes.get 20).map (·.pendingMode) = some .lockdown ∧ (t.cau.cabins.get 5020).map (·.entry) = some .unknown
      ∧ ((t.cause .nodeRestarted).pending).map (·.subject) = some 2580)) = true := by decide
/-- Worked sequence "a node falls silent and returns": the third miss. -/
theorem test_miss : runs (.miss 5) (polled .running .noMode { onlineNode with missCount := 2 } serving) (fun t =>
    decide (t.lscs[(5 : Fin 8)].nodes.get 20 = some { onlineNode with missCount := 3, state := .silent } ∧ (t.cause .nodeSilent).pending.isSome = true
      ∧ (t.jnl.recordAt 1).map (fun r => (r.kind, r.reason, r.a, r.c)) = some (.node, 1, 20, 4))) = true := by decide
/-- R132: a cycle in which no record is due ends with its wait, and the next begins. -/
theorem test_cycle_wait : runs (.cycleWait 5) (putLsc 5
      { Lsc.reset with nodes := [(20, { onlineNode with state := .silent })], running := true, cycle := 15, waitMs := some 6 } serving) (fun t => decide (t.lscs[(5 : Fin 8)].cycle = 0 ∧ t.txOf (.segment 5) = [.poll 20])) = true := by decide
/-- R125: the report is taken, and HELD OPEN raises its cause. -/
theorem test_entry_report : runs .entryReport { putCabin 5020 { suite with segment := 5, node := 20 } serving with
      cau := { Cau.reset with cabins := [(5020, { suite with segment := 5, node := 20 })], reports := [⟨5, 20, .heldOpen, true⟩] } } (fun t =>
    decide ((t.cau.cabins.get 5020).map (fun c => (c.entry, c.privacy)) = some (.heldOpen, true) ∧ t.cau.reports = []
      ∧ (t.cause .entryHeldOpen).pending.isSome = true)) = true := by decide
theorem test_set_poll_window : answers (.setPollWindow 1 [0, 1, 5, 20]) serving .done (.windows [6]) = true
    ∧ runs (.setPollWindow 1 [1, 0, 0, 2]) serving (fun t => decide (∀ i : Fin 8, t.lscs[i].windowMs = 2)) = true := by decide
theorem test_query_segment : answers (.querySegment 1 [5]) (polled .running .lockdown { onlineNode with pendingMode := .lockdown, state := .silent } serving)
    .done (.segment true 4 6 2 0 1 1 1 (some (20, .mode)) (some 20)) = true := by decide

theorem witness_Turns :
    (let s := polled .running .noMode onlineNode serving
     s.boundary = none ∧ (acceptedTurn 5 (quietOf (leBytes 2 20)) s).isSome = true ∧ (acceptedTurn 5 (cardOf (leBytes 2 20 ++ leBytes 4 7)) s).isSome = true
     ∧ (acceptedTurn 5 (entryOf (leBytes 2 20 ++ [2, 0])) s).isSome = true ∧ (acceptedTurn 5 (restartedOf (leBytes 2 20)) s).isSome = true
     ∧ acceptedTurn 5 (quietOf (leBytes 2 21)) s = none ∧ acceptedTurn 5 (cardOf [1]) s = none ∧ acceptedTurn 5 (entryOf [1]) s = none
     ∧ acceptedTurn 5 (restartedOf [1]) s = none ∧ s.lscs[(5 : Fin 8)].turn.map (·.window) = some .running ∧ s.rxOf (.segment 5) = .hunting
     ∧ s.lscs[(5 : Fin 8)].turn.map (·.removed) = some false ∧ s.lscs[(5 : Fin 8)].nodes.get 20 = some onlineNode)
    ∧ ((putCabin 5020 { suite with segment := 5, node := 20 } serving).cau.cabinAt 5 20).isSome = true
    ∧ ({ onlineNode with missCount := 2 }.state ≠ .silent ∧ 2 ≤ ({ onlineNode with missCount := 2 } : Node).missCount)
    ∧ ({ Lsc.reset with waitMs := some 6 } : Lsc).waitMs ≠ none
    ∧ ({ Cau.reset with reports := [⟨5, 20, .heldOpen, true⟩] } : Cau).reports = ⟨5, 20, .heldOpen, true⟩ :: [] := by decide
/-- R136, log 9: a window that ends while a frame begun within it is coming waits, and the frame's discard then makes the miss. -/
theorem test_window_over : runs (.miss 5) (setRx (.segment 5) (.collecting true [0xB5]) (polled .running .noMode onlineNode serving)) (fun t =>
      decide (t.lscs[(5 : Fin 8)].turn.map (·.window) = some .over ∧ (t.lscs[(5 : Fin 8)].nodes.get 20).map (·.missCount) = some 0)) = true
    ∧ runs (.discardedFrame (.segment 5) .gap) (setRx (.segment 5) (.collecting true [0xB5]) (polled .over .noMode onlineNode serving)) (fun t =>
      decide ((t.lscs[(5 : Fin 8)].nodes.get 20).map (·.missCount) = some 1 ∧ t.txOf (.segment 5) = [.poll 21])) = true := by decide
theorem witness_Turns_over :
    (let s := setRx (.segment 5) (.collecting true [0xB5]) (polled .over .noMode onlineNode serving)
     s.boundary = none ∧ s.rxOf (.segment 5) = .collecting true [0xB5] ∧ s.lscs[(5 : Fin 8)].turn.map (·.window) = some .over
     ∧ s.lscs[(5 : Fin 8)].turn.map (·.removed) = some false ∧ s.lscs[(5 : Fin 8)].nodes.get 20 = some onlineNode
     ∧ Discard.fits (.segment 5) .gap = true ∧ acceptedTurn 5 (quietOf (leBytes 2 21)) s = none ∧ acceptedTurn 5 (cardOf [1]) s = none
     ∧ acceptedTurn 5 (entryOf [1]) s = none ∧ acceptedTurn 5 (restartedOf [1]) s = none)
    ∧ (let turn : Turn := { address := 20, sent := .noMode, replaced := false, windowMs := 6, window := .running, removed := true, heldCard := none }
       let s := putLsc 5 { Lsc.reset with running := true, lastTurn := some 20, turn := some turn } serving
       s.lscs[(5 : Fin 8)].turn.map (·.removed) = some true ∧ (acceptedTurn 5 (restartedOf (leBytes 2 20)) s).isSome = true) := by decide
theorem witness_PollCycles :
    (let l := (polled .running .noMode { onlineNode with state := .silent } serving).lscs[(5 : Fin 8)]
     l.nodes.get 20 = some { onlineNode with state := .silent } ∧ l.nextDue = some (21, onlineNode) ∧ l.nodes.wf = true ∧ l.nodes ≠ [])
    ∧ Lsc.reset.nextDue = none ∧ Lsc.reset.nodes = []
    ∧ ({ Lsc.reset with nodes := [(9, { onlineNode with state := .silent })], cycle := 1 } : Lsc).nextDue = none
    ∧ (let l : Lsc := { Lsc.reset with nodes := [(9, { onlineNode with isNew := true })] }
       l.nextDue = none ∧ l.nodes.get 9 = some { onlineNode with isNew := true } ∧ l.lastTurn = none) := by decide

/-! ### Gangways (chapter 8) -/

/-- Station G2 of "one fetch at the tender platform", with the records still to judge. -/
def tender (todo : List Passage) : State :=
  putStation 2 { Station.reset true with mode := .twoWay, expected := some 512, tallyDay := some 34, tallyIn := 40, tallyOut := 57,
                                         fetch := .judging todo [] }
    (withPerson 3001 (personOf .guest 0 .ashore) (withPerson 4117 (let p := personOf .guest 912 .aboard; { p with att := { p.att with final := true } })
      (withCard 73300015 3001 .active (withCard 71000003 4117 .active { serving with scl := { Scl.reset with voyage := 2000000, folioDay := 34 } }))))
/-- A passage record. -/
def passage (sequence : Word16) (serial : Word32) (inward : Bool) (age : Nat) : Passage := { sequence := sequence, serial := serial, inward := inward, age := age }

/-- Worked sequence: a pulse of 1 ms, shorter than the limit of 3 ms, is answered by a FETCH. -/
theorem test_request_pulse : runs (.requestPulse 2 1) serving (fun t => decide (t.txOf (.station 2) = [.fetch]
    ∧ t.pru.stations[(2 : Fin 4)].fetch = .waiting .toBegin)) = true := by decide
/-- R147: a pulse at the limit is a restart pulse. -/
theorem test_restart_pulse : runs (.restartPulse 2 3) (tender []) (fun t => decide (t.pru.stations[(2 : Fin 4)].longSeen = true
    ∧ t.pru.stations[(2 : Fin 4)].expected = none ∧ (t.cause .stationRestart).pending.isSome = true)) = true := by decide
theorem test_detach_attach : runs (.detach 1) serving (fun t => decide (t.pru.stations[(1 : Fin 4)].attached = .detached
      ∧ (t.cause .stationDetached).pending.isSome = true)) = true
    ∧ runs (.attach 1) (putStation 1 (Station.reset false) serving) (fun t => decide (t.pru.stations[(1 : Fin 4)].attached = .attached)) = true := by decide
theorem test_station_line_fall : runs (.stationLineFall 1) serving (fun t => decide (t.pru.stations[(1 : Fin 4)].lineHigh = false)) = true := by decide
/-- R150: the third failure makes the station SILENT, with a fetch in 5 s. -/
theorem test_fetch_failure : runs (.fetchFailure 2) (putStation 2 { Station.reset true with fetch := .waiting .running, failures := 2 } serving) (fun t =>
    decide (t.pru.stations[(2 : Fin 4)].attached = .silent ∧ t.pru.stations[(2 : Fin 4)].retryMs = some 5000 ∧ (t.cause .stationSilent).pending.isSome = true)) = true := by
  decide
theorem test_retry_fetch : runs (.retryFetch 2) (putStation 2 { Station.reset true with attached := .silent, retryMs := some 5000 } serving) (fun t =>
    decide (t.txOf (.station 2) = [.fetch])) = true := by decide
theorem test_passages : runs (.passages 2 ([1] ++ leBytes 2 512 ++ leBytes 4 73300015 ++ [1, 6])) (fetching .running serving) (fun t =>
    decide (t.pru.stations[(2 : Fin 4)].fetch = .judging [passage 512 73300015 true 6] [])) = true
    ∧ runs (.passages 2 [0]) (fetching .running serving) (fun t => decide (t.txOf (.station 2) = [.verdicts []]
      ∧ t.pru.stations[(2 : Fin 4)].fetch = .none)) = true := by decide
/-- Worked sequence, record 2: ASHORE, IN. -/
theorem test_judge_in : runs (.judgingAPassage 2) (tender [passage 512 73300015 true 6, passage 513 71000003 false 4]) (fun t =>
    decide ((t.persons.get 3001).map (fun p => (p.att.presence, p.att.stamp)) = some (.aboard, 1999994) ∧ t.pru.stations[(2 : Fin 4)].expected = some 513
      ∧ t.pru.stations[(2 : Fin 4)].tallyIn = 41 ∧ t.pru.count .guest .ashore = 0)) = true := by decide
/-- Worked sequence, record 3 as the last: FINAL, OUT departs the person and the card, and VERDICTS is sent. -/
theorem test_judge_final_out : runs (.judgingAPassage 2) (tender [passage 512 71000003 false 4]) (fun t =>
    decide ((t.persons.get 4117).map (·.att.presence) = some .departed ∧ (t.crg.ring.get (homeSlot 71000003)).map (·.state) = some .departed
      ∧ (t.cause .openTabAtDeparture).pending = none ∧ t.txOf (.station 2) = [.verdicts [(512, .accepted)]])) = true := by decide
/-- Worked sequence, records 1 and 4: d = 65,534 is a DUPLICATE; d = 2 a gap of 2, and IN of a person ABOARD an anomaly. -/
theorem test_judge_sequences : (judgeRecord 2 (passage 510 73110882 true 40) (tender [])).1 = .duplicate
    ∧ (let r := judgeRecord 2 (passage 514 71000003 true 1) (tender [])
       r.1 = .acceptedWithNote ∧ ((r.2.cause .sequenceGap).pending).map (·.detail) = some (detail 2) ∧ r.2.pru.stations[(2 : Fin 4)].expected = some 515
       ∧ (r.2.jnl.recordAt 1).map (fun x => (x.kind, x.reason)) = some (.anomaly, 2)) := by decide
/-- R166, R188: absent fields stay, and a limit of 2 ms is field 3 at fault. -/
theorem test_set_station : answers (.setStation 1 [3, 1, 3, 0, 0, 1, 1]) serving .done (.stationSettings .closed 3 .off) = true
    ∧ answers (.setStation 1 [3, 1, 3, 1, 2, 1, 1]) serving .malformed (.field 3) = true := by decide
/-- R166, R167: the tallies of another folio day are given as 0, and LONG SEEN is cleared. -/
theorem test_query_station : runs (.queryStation 1 [2]) (putStation 2 { Station.reset true with longSeen := true, tallyDay := some 3, tallyIn := 9 } serving) (fun t =>
    decide (lastReply t = some (.done, .station ⟨.attached, .closed, 3, false, true, none, 0, false, none, .off, none, some 3, 0, 0⟩)
      ∧ t.pru.stations[(2 : Fin 4)].longSeen = false)) = true := by decide
/-- R168: FINAL set, the other fields absent. -/
theorem test_set_person : runs (.setPerson 1 (leBytes 2 3001 ++ [0, 0] ++ [0, 0, 0, 0] ++ [0, 0] ++ [1, 0])) (tender []) (fun t =>
    decide ((t.persons.get 3001).map (fun p => (p.att.final, p.spend.privilege)) = some (true, .full))) = true := by decide
/-- R169: a correction to DEPARTED departs the cards and replies with the presence before. -/
theorem test_set_presence : runs (.setPresence 1 (leBytes 2 3001 ++ [3])) (tender []) (fun t =>
    decide (lastReply t = some (.done, .presence .ashore) ∧ (t.crg.ring.get (homeSlot 73300015)).map (·.state) = some .departed
      ∧ t.pru.count .guest .departed = 1 ∧ t.jnl.next = 1)) = true := by decide
theorem test_query_person : answers (.queryPerson 1 (leBytes 2 3001)) (tender []) .done (.person (personOf .guest 0 .ashore) 0) = true := by decide
/-- Worked sequence "an all-aboard deadline": 19,999 s are 333 minutes. -/
theorem test_query_counts : answers (.queryCounts 1 []) (setTimer (.running 2520000) (atTime 2500001 serving)) .done
    (.counts (List.replicate 16 0) 0 (.running 2520000) 0 (some 333)) = true := by decide
theorem test_set_all_aboard : runs (.setAllAboard 1 (leBytes 4 2520000)) serving (fun t => decide (t.pru.timer = .armed 2520000)) = true
    ∧ answers (.setAllAboard 1 (leBytes 4 9)) (setTimer (.expiring 5 1) serving) .notNow .nothing = true := by decide
theorem test_cancel_all_aboard : answers (.cancelAllAboard 1 []) serving .notFound .nothing = true
    ∧ runs (.cancelAllAboard 1 []) (setTimer (.running 9) serving) (fun t => decide (t.pru.timer = .clear)) = true := by decide
theorem test_clear_timer : runs (.clearTimer 1 []) (setTimer (.expired 9) serving) (fun t => decide (t.pru.timer = .clear)) = true
    ∧ answers (.clearTimer 1 []) (setTimer (.armed 9) serving) .notNow .nothing = true := by decide
/-- A person marked MISSING. -/
def missingPerson : Person := let p := personOf .guest 0 .ashore; { p with att := { p.att with missing := true } }
theorem test_clear_missing : runs (.clearMissing 1 []) { serving with persons := [(812, missingPerson)], pru := { serving.pru with missingCount := 1 } } (fun t =>
    decide (lastReply t = some (.done, .missingCount 1) ∧ (t.persons.get 812).map (·.att.missing) = some false ∧ t.pru.missingCount = 0)) = true := by decide
theorem test_read_missing : answers (.readMissing 1 (leBytes 2 1)) { serving with persons := [(5, personOf .crew 0 .ashore), (812, missingPerson)] } .done
    (.numbers [812] 8000 true) = true := by decide

theorem witness_Stations :
    (let x := serving.pru.stations[(2 : Fin 4)]
     serving.boundary = none ∧ x.attached ≠ .detached ∧ 2 < x.pulseLimit ∧ x.pulseLimit ≤ 3 ∧ 999 < 1000 ∧ x.fetch = .none)
    ∧ (fetching .running serving).pru.stations[(2 : Fin 4)].fetch = .waiting .running ∧ (fetching .running serving).rxOf (.station 2) = .hunting
    ∧ (putStation 2 (Station.reset false) serving).pru.stations[(2 : Fin 4)].attached = .detached
    ∧ (let x := (putStation 2 { Station.reset true with attached := .silent, retryMs := some 5000 } serving).pru.stations[(2 : Fin 4)]
       x.attached = .silent ∧ x.retryMs ≠ none ∧ x.fetch = .none)
    ∧ min 3 (2 + 1) = 3 ∧ min 3 (1 + 1) < 3
    ∧ passagesOf ([1] ++ leBytes 2 512 ++ leBytes 4 73300015 ++ [1, 6]) = some [passage 512 73300015 true 6] ∧ passagesOf [0] = some [] := by decide
/-- R150, log 9: the same of a fetch: the discard of the frame is the failure. -/
theorem test_fetch_window_over : runs (.fetchFailure 2) (setRx (.station 2) (.collecting true [0xB5]) (fetching .running serving)) (fun t =>
      decide (t.pru.stations[(2 : Fin 4)].fetch = .waiting .over)) = true
    ∧ runs (.discardedFrame (.station 2) .gap) (setRx (.station 2) (.collecting true [0xB5]) (fetching .over serving)) (fun t =>
      decide (t.pru.stations[(2 : Fin 4)].fetch = .none ∧ t.pru.stations[(2 : Fin 4)].failures = 1)) = true := by decide
theorem witness_Stations_over :
    (let s := setRx (.station 2) (.collecting true [0xB5]) (fetching .over serving)
     s.boundary = none ∧ s.rxOf (.station 2) = .collecting true [0xB5] ∧ s.pru.stations[(2 : Fin 4)].fetch = .waiting .over
     ∧ s.pru.stations[(2 : Fin 4)].attached = .attached ∧ s.pru.stations[(2 : Fin 4)].failures = 0 ∧ Discard.fits (.station 2) .gap = true)
    ∧ (setRx (.station 2) (.collecting false [0xB5]) (fetching .over serving)).rxOf (.station 2) = .collecting false [0xB5]
    ∧ passagesOf [1] = none ∧ (fetching .toBegin serving).pru.stations[(2 : Fin 4)].fetch = .waiting .toBegin := by decide
/-- R149, R151: the FETCH that SHORT SEEN calls for follows the VERDICTS of the last record. -/
theorem test_fetch_after_verdicts : (let s := tender [passage 512 73300015 true 6]
    runs (.judgingAPassage 2) (putStation 2 { s.pru.stations[(2 : Fin 4)] with shortSeen := true } s) (fun t =>
      decide (t.txOf (.station 2) = [.verdicts [(512, .accepted)], .fetch] ∧ t.pru.stations[(2 : Fin 4)].shortSeen = false))) = true := by decide
theorem witness_Passages : (tender [passage 1 2 true 3]).boundary = none
    ∧ (tender [passage 1 2 true 3, passage 2 2 true 3]).pru.stations[(2 : Fin 4)].fetch = .judging (passage 1 2 true 3 :: [passage 2 2 true 3]) []
    ∧ (tender [passage 1 2 true 3]).pru.stations[(2 : Fin 4)].shortSeen = false ∧ (tender []).pru.stations[(2 : Fin 4)].attached ≠ .detached
    ∧ ((510 : Word16) - 512).toNat = 65534 ∧ ((33279 : Word16) - 512).toNat = 32767 ∧ ((33280 : Word16) - 512).toNat = 32768
    ∧ (tender []).pru.stations[(2 : Fin 4)].mode = .twoWay ∧ lookup 5 (tender []) = none
    ∧ (∀ st ∈ [CardState.active, .suspended, .lost, .departed], (lookup 71000003 (withCard 71000003 4117 st (tender []))).map (·.card.state) = some st)
    ∧ (lookup 71000003 (tender [])).map (fun f => (f.person.att.presence, f.person.att.final)) = some (.aboard, true)
    ∧ (lookup 73300015 (tender [])).map (·.person.att.presence) = some .ashore := by decide
theorem witness_StationRequests : decodeFields setStationFields [3, 1, 3, 1, 40, 1, 2] = .ok [some 3, some 3, some 40, some 2]
    ∧ decodeFields setStationFields [0, 0, 0, 0, 0, 0, 0] = .ok [some 0, none, none, none]
    ∧ decodeFields setPersonFields (leBytes 2 8000 ++ [1, 2] ++ [1] ++ leInt 3 8388607 ++ [1, 1] ++ [1, 0])
        = .ok [some 8000, some 2, some 8388607, some 1, some 0]
    ∧ decodeFields setPresenceFields (leBytes 2 3001 ++ [2]) = .ok [some 3001, some 2]
    ∧ ((tender []).persons.get 3001).map (·.att.presence) = some .ashore ∧ serving.persons.get 3001 = none
    ∧ decodeFields setAllAboardFields (leBytes 4 4294967295) = .ok [some 4294967295]
    ∧ (∀ x ∈ [Timer.clear, .armed 1, .running 2, .expiring 3 8000, .expired 4], (setTimer x serving).pru.timer = x) := by decide

/-! ### The journal, transfers, attention and service (chapters 9 and 10) -/

/-- The journal of "a drain with records arriving": records 40,001 up to the next sequence. -/
def drained (delivered next : Word32) : Jnl :=
  { Jnl.reset with released := 40001, delivered := delivered, next := next,
                   ring := (List.range (next - 40001).toNat).map (fun d => (slotOf (40001 + BitVec.ofNat 32 d),
                     { sequence := 40001 + BitVec.ofNat 32 d, kind := .charge })) }
/-- The sequences of a DRAIN frame. -/
def drainedSequences (t : State) : Option (List Nat × Bool) :=
  match lastReply t with
  | some (_, .records rs fin) => some (rs.map (fun r => r.sequence.toNat), fin)
  | _ => none
/-- Worked sequence: the first frame. -/
theorem test_drain : runs (.drain 1 (leBytes 4 40001 ++ leBytes 2 20)) { serving with jnl := drained 40001 40020 } (fun t =>
    decide (drainedSequences t = some ([40001, 40002, 40003, 40004, 40005, 40006, 40007, 40008], false) ∧ t.jnl.delivered = 40009
      ∧ t.slc.transfer = some (.drain 40009 12 40008))) = true := by decide
/-- Worked sequence: the last frame carries END. -/
theorem test_next : runs (.next 1 []) (withTransfer (.drain 40017 4 40016) { serving with jnl := drained 40017 40023 }) (fun t =>
    decide (drainedSequences t = some ([40017, 40018, 40019, 40020], true) ∧ t.jnl.delivered = 40021 ∧ t.slc.transfer = none)) = true := by decide
/-- Worked sequence: RELEASE 40,022 is refused, RELEASE 40,020 leaves 2 used. -/
theorem test_release : answers (.release 1 (leBytes 4 40022)) { serving with jnl := drained 40021 40023 } .range (.pointers 40001 40021) = true
    ∧ answers (.release 1 (leBytes 4 40020)) { serving with jnl := drained 40021 40023 } .done (.released 40021 2) = true := by decide
theorem test_query_journal : answers (.queryJournal 1 []) { serving with jnl := drained 40021 40023 } .done
    (.journal 40001 40021 40023 22 16362 0 false false) = true := by decide
theorem test_stop : answers (.stop 1 []) (withTransfer (.drain 40009 12 40008) serving) .done (.lastSequence 40008) = true := by decide
/-- Worked sequence: DRAIN OVERRUN with subject 40,008. -/
theorem test_service_window_expiry : runs .serviceWindowExpiry (withTransfer (.drain 40009 12 40008) serving) (fun t =>
    decide (t.slc.transfer = none ∧ ((t.cause .drainOverrun).pending).map (·.subject) = some 40008)) = true := by decide
theorem test_load : answers (.load 1 ([0] ++ leBytes 2 3)) loading .ready (.nextIndex 1) = true := by decide
/-- The item bytes of a person: number, class, folio, presence absent. -/
def personItem (index person cls : Nat) : List Byte := leBytes 2 index ++ leBytes 2 person ++ leBytes 1 cls ++ leBytes 2 40 ++ [0, 0]
/-- The controller of "a load with a lost reply" at an index. -/
def loadingPersons (next : Nat) (stored : Option StoredVerdict) : State :=
  withTransfer (.load .persons 3 next stored) (putFolio 40 (folioOf .opened 0 0) (withPerson 201 (personOf .guest 40 .expected) loading))
/-- Worked sequence: the last item ends the transfer; class 9 is field 3 at fault. -/
theorem test_load_item : answers (.loadItem 1 (personItem 3 202 1)) (loadingPersons 3 none) .done (.item .nothing 3 4 true) = true
    ∧ answers (.loadItem 1 (personItem 3 202 9)) (loadingPersons 3 none) .malformed (.field 3) = true := by decide
/-- Worked sequence: item 2 is refused CONFLICT, and sent again it is answered from the stored verdict. -/
theorem test_load_item_again : answers (.loadItem 1 (personItem 2 201 1)) (loadingPersons 2 none) .conflict (.item .nothing 2 3 false) = true
    ∧ answers (.loadItem 1 (personItem 2 201 1)) (loadingPersons 3 (some ⟨.conflict, .nothing⟩)) .conflict (.item .nothing 2 3 false) = true := by decide
/-- Worked sequence "reading attention after a busy hour": of two causes of priority 5 the lower number goes first. -/
theorem test_sense : answers (.sense 1 []) (raise .journalHigh 12288 {} (raise .stationSilent 1 {} (raise .folioNearLimit 2316 {} (atTime 3200010 serving)))) .done
    (.cause 9 5 { subject := 1, detail := {}, first := 3200010, count := 1 }) = true ∧ answers (.sense 1 []) serving .done .noCause = true := by decide
/-- Worked sequence: SET PRIORITY 15 to 0 was 2, and ATTN becomes inactive. -/
theorem test_set_priority : runs (.setPriority 1 [15, 0]) (raise .folioNearLimit 2316 {} serving) (fun t =>
    decide (lastReply t = some (.done, .priority 2) ∧ t.atu.attn = false)) = true := by decide
theorem test_query_attention : runs (.queryAttention 1 []) (raise .lostCardPresented 9 {} serving) (fun t =>
    match lastReply t with
    | some (_, .attention l) => decide (l[0]? = some (6, some 1) ∧ l[24]? = some (1, none) ∧ l.length = 25)
    | _ => false) = true := by decide
/-- R38: with no last close the close point is the first 05:00 after now. -/
theorem test_start_service : runs (.startService 1 (leBytes 2 33)) (atTime 18000 loading) (fun t =>
    decide (t.slc.service = .serving ∧ t.scl.folioDay = 33 ∧ t.scl.closePoint = some 104400)) = true
    ∧ answers (.startService 1 (leBytes 2 33)) serving .notNow .nothing = true := by decide
theorem test_status : runs (.status 1 []) (raise .lostCardPresented 9 {} (tender [])) (fun t =>
    match lastReply t with
    | some (st, .status service _ voyage day live persons _ _ _ _ _ _ _ _ free _ _ _ _ pending next) =>
      decide (st = .done ∧ service = .serving ∧ voyage = 2000000 ∧ day = 34 ∧ live = 2 ∧ persons = 2 ∧ free = 16384 ∧ pending = 1 ∧ next = 1)
    | _ => false) = true := by decide

theorem witness_Drain : decodeFields drainFields (leBytes 4 40001 ++ leBytes 2 256) = .ok [some 40001, some 256]
    ∧ (drained 40001 40020).used = 19 ∧ ((40019 : Word32) - 40001).toNat < 19 ∧ 19 ≤ ((40020 : Word32) - 40001).toNat
    ∧ (withTransfer (.drain 40017 4 40016) serving).slc.transfer = some (.drain 40017 4 40016) ∧ ((40017 : Word32) - 40001).toNat < (drained 40017 40023).used
    ∧ decodeFields releaseFields (leBytes 4 40000) = .ok [some 40000] ∧ 2147483648 ≤ ((40000 : Word32) - 40001).toNat
    ∧ ((40020 : Word32) - 40001).toNat < (drained 40021 40023).ahead 40021 ∧ (drained 40021 40023).ahead 40021 ≤ ((40021 : Word32) - 40001).toNat := by decide
theorem witness_Release_lawful : (drained 40003 40004).lawful := by
  refine ⟨by decide, by decide, by decide, ?_, by decide⟩
  rw [show (drained 40003 40004).used = 3 by decide]
  decide
theorem witness_Walks : decodeFields scanFoliosFields ([3] ++ leInt 4 (-2147483648) ++ [7] ++ leBytes 2 4000) = .ok [some 3, some (-2147483648), some 7, some 4000]
    ∧ decodeFields readMissingFields (leBytes 2 8000) = .ok [some 8000] ∧ (withTransfer (.missing 5 4) serving).slc.transfer = some (.missing 5 4)
    ∧ (withTransfer (.scan ⟨.balanceEqual, 0, true, true, true⟩ 33 32) serving).slc.transfer = some (.scan ⟨.balanceEqual, 0, true, true, true⟩ 33 32)
    ∧ (withTransfer (.missing 5 4) serving).slc.windowMs = some 2000 ∧ (withTransfer (.missing 5 4) serving).boundary = none := by decide
theorem witness_Load : decodeFields loadFields ([4] ++ leBytes 2 8000) = .ok [some 4, some 8000]
    ∧ judgeItem .persons (personItem 3 202 1) = .ok 3 ∧ decodeFieldsFrom 2 (itemFields .persons) ((personItem 3 202 9).drop 2) = .error 3
    ∧ decodeFieldsFrom 2 (itemFields .persons) ((personItem 3 202 1).drop 2) = .ok [some 202, some 1, some 40, none]
    ∧ (loadingPersons 3 none).slc.transfer = some (.load .persons 3 3 none) ∧ judgeItem .persons (personItem 8000 202 1) = .ok 8000 := by decide
theorem witness_Sense : serving.atu.chosen = none ∧ ((raise .dayClosed 1 {} serving).atu.chosen).map (·.number) = some 24
    ∧ (24 : Nat) = (23 : Fin 25).val + 1 ∧ decodeFields setPriorityFields [25, 7] = .ok [some 25, some 7]
    ∧ decodeFields setPriorityFields [1, 0] = .ok [some 1, some 0] ∧ (withExchange serving).linkFree = false := by decide
theorem witness_StartService : decodeFields startServiceFields (leBytes 2 65535) = .ok [some 65535] ∧ loading.ready = true
    ∧ loading.slc.service = .loading ∧ serving.slc.service = .serving := by decide

/-! ### The laws of every step -/

/-- A controller with persons, cards, a folio with a hold, a cabin bound to a person, a node, a pending cause and journal records. -/
def busyShip : State :=
  let p : Person := { boundTo [5120] with ident := { (boundTo [5120]).ident with cardCount := 1 } }
  raise .dayClosed 1 {} { serving with
    persons := [(5, p)]
    crg := { ring := [(homeSlot 7, cardOn 7 5 .active)], purge := Purge.reset }
    fst := { Fst.reset with folios := [(9, { folioOf .opened 5 50 with holds := [holdOf 1 5 0] })] }
    cau := { Cau.reset with cabins := [(5120, { suite with bindings := [⟨5, .occupant, 0, none⟩] })] }
    lscs := serving.lscs.set 1 { Lsc.reset with nodes := [(9, onlineNode)], running := true, waitMs := some 6 }
    pru := serving.pru.setCount .guest .aboard 1
    jnl := drained 40003 40004
    pending := [.tick] }
theorem witness_EveryStepKeeps_step : (match step busyShip with | .next _ => true | _ => false) = true := by decide
theorem witness_EveryStepKeepsAttention : busyShip.atu.lawful = true ∧ busyShip.atu.attn = true := by decide
theorem witness_EveryStepKeepsTheJournal : busyShip.jnl.lawful := witness_Release_lawful
theorem witness_EveryStepKeepsTheTables : busyShip.canonical = true := by decide
theorem witness_EveryStepKeepsTheFolios : busyShip.folioLaw := by
  refine ⟨?_, ?_⟩
  · intro e he
    have hf : busyShip.fst.folios = [(9, { folioOf .opened 5 50 with holds := [holdOf 1 5 0] })] := by decide
    have : e = (9, { folioOf .opened 5 50 with holds := [holdOf 1 5 0] }) := by rw [hf] at he; exact List.mem_singleton.mp he
    subst this
    refine ⟨by decide, by decide, by decide, by decide, by decide, by decide, by decide, ?_⟩
    intro h hh
    have : h = holdOf 1 5 0 := by simpa using hh
    subst this
    decide
  · intro t ht w hw
    have hall : ∀ t ∈ busyShip.chu.tills.toList, t.working = none := by decide +kernel
    simp [hall t ht] at hw
theorem witness_EveryStepKeepsPresence : busyShip.presenceLaw ∧ busyShip.departureLaw := by
  refine ⟨⟨by decide, ?_, by decide, by decide⟩, by decide, by decide⟩
  intro cls p
  cases cls <;> cases p <;> decide
theorem witness_EveryStepKeepsTheCabins : busyShip.bindingLaw ∧ busyShip.pollLaw := by
  refine ⟨⟨by decide, by decide, ?_, by decide, by decide⟩, ?_, by decide, by decide⟩
  · intro person cabin
    have h1 : busyShip.persons = [(5, { boundTo [5120] with ident := { (boundTo [5120]).ident with cardCount := 1 } })] := by decide
    have h2 : busyShip.cau.cabins = [(5120, { suite with bindings := [⟨5, .occupant, 0, none⟩] })] := by decide
    simp only [State.listsCabin, State.listsPerson, h1, h2, Table.get]
    by_cases hp : 5 = person <;> by_cases hc : 5120 = cabin <;> simp [hp, hc, boundTo]
    all_goals omega
  · intro i node
    have h2 : busyShip.cau.cabins = [(5120, { suite with bindings := [⟨5, .occupant, 0, none⟩] })] := by decide
    have h3 : ∀ i : Fin 8, busyShip.lscs[i].nodes = if i = 1 then [(9, onlineNode)] else [] := by decide
    simp only [Cau.cabinAt, h2, h3, suite]
    by_cases hi : i = 1
    · by_cases hn : node = 9
      · subst hi hn; decide
      · have hn' : (9 == node) = false := by simpa using Ne.symm hn
        have h9 : ¬ 9 = node := fun h => hn h.symm
        simp [hi, hn', h9, Table.get]
    · have hi' : ((1 : Fin 8) == i) = false := by simpa using Ne.symm hi
      simp [hi, hi', Table.get]
theorem witness_EveryStepKeepsTheRing : busyShip.crg.lawful ∧ clusterShifting.crg.lawful := by
  refine ⟨⟨by decide, by decide, by decide, by decide, by decide, ?_⟩, by decide, by decide, by decide, by decide, by decide, ?_⟩
  · intro h hh
    have hs : busyShip.crg.purge.shift = none := by decide
    rw [hs] at hh
    exact nomatch hh
  · intro h hh
    have : h = ⟨202, 203⟩ := by simpa [clusterShifting] using hh.symm
    subst this
    refine ⟨by decide, by decide, by decide, by decide, ⟨201, rfl⟩, ?_, by decide⟩
    intro d h0 h1
    have : probeMoves 202 203 = 1 := by decide
    simp only [this] at h1
    omega

/-! ### The declining clauses of the tills, each on a state that meets its hypotheses -/

/-- The last till answer is a decline with this reason and detail 2. -/
def declinesWith (c : Instr) (s : State) (reason : Reason) (detail2 : Nat := 0) : Bool :=
  runs c s (fun t => decide (lastVerdict t = some (.declined, some reason, detail2)))
/-- The controller of "a void, and two voids refused" with its folio as given and till 40 waiting for a work. -/
def waits (work : Work) (f : Option Folio) (s : State) : State :=
  working 40 { charge17 with work := work } { s with fst := { s.fst with folios := f.elim [] (fun x => [(3020, x)]) } }
/-- A full journal. -/
def fullJournal : State := withUsed 16384 9 0 (pier 1 0 0)
/-- R67, R68, R100, R104: the declines of a CHARGE at its settlement. -/
theorem witness_ChargeSettlement_declines :
    let c := Instr.chargeSettlement 40
    let returns := putVenue 12 { bar with returns := true } (pier 1 0 0)
    declinesWith c (waits (.charge ⟨5, 0, 0⟩ 1) none (pier 1 0 0)) .folioClosed
    ∧ declinesWith c (waits (.charge ⟨-5, 0, 0⟩ 1) (some (folioOf .opened 0 9)) (pier 1 0 0)) .returnsRefused
    ∧ declinesWith c (waits (.charge ⟨5, 0, 0⟩ 1) (some (folioOf .frozen 0 9)) (pier 1 0 0)) .folioFrozen
    ∧ declinesWith c (waits (.charge ⟨-5, 0, 0⟩ 1) (some (folioOf .closed 0 9)) returns) .folioClosed
    ∧ declinesWith c (waits (.charge ⟨10, 0, 0⟩ 1) (some (folioOf .opened 0 9)) (pier 1 0 0)) .overLimit
    ∧ declinesWith c (waits (.charge ⟨10, 0, 0⟩ 1) (some (folioOf .opened 0 10)) (pier 1 0 19991)) .overAllowance
    ∧ declinesWith c (waits (.charge ⟨-1, 0, 0⟩ 1) (some (folioOf .frozen (-1073741824) 0)) returns) .amountRange 3
    ∧ declinesWith c (waits (.charge ⟨0, 0, 0⟩ 1) (some (folioOf .frozen 5 0)) fullJournal) .journalFull
    ∧ declinesWith c (waits (.charge ⟨5, 0, 0⟩ 1) (some (folioOf .opened 0 9)) fullJournal) .journalFull
    ∧ declinesWith c (waits (.charge ⟨-5, 0, 0⟩ 1) (some (folioOf .frozen 0 9)) (putVenue 12 { bar with returns := true } fullJournal)) .journalFull := by decide
/-- R72, R105: the declines of an OPEN TAB at its settlement. -/
theorem witness_OpenTabSettlement_declines :
    let c := Instr.openTabSettlement 40
    declinesWith c (waits (.openTab 5) none (pier 1 0 0)) .folioClosed ∧ declinesWith c (waits (.openTab 5) (some (folioOf .frozen 0 9)) (pier 1 0 0)) .folioFrozen
    ∧ declinesWith c (waits (.openTab 5) (some (folioOf .closed 0 9)) (pier 1 0 0)) .folioClosed
    ∧ declinesWith c (waits (.openTab 5) (some { folioOf .opened 0 99 with holds := List.replicate 4 (holdOf 1 1 0) }) (pier 1 0 0)) .holdsFull
    ∧ declinesWith c (waits (.openTab 5) (some { folioOf .opened 0 99 with holds := [holdOf 1 95 0] }) (pier 1 0 0)) .overLimit
    ∧ declinesWith c (waits (.openTab 5) (some (folioOf .opened 4 9)) fullJournal) .journalFull := by decide
/-- R73, R106: the declines of a CLOSE TAB at its settlement. -/
theorem witness_CloseTabSettlement_declines :
    let c := Instr.closeTabSettlement 40
    let w := Work.closeTab 7 ⟨5, 0, 0⟩ 1
    declinesWith c (waits w none (pier 1 0 0)) .folioClosed ∧ declinesWith c (waits w (some (folioOf .closed 0 9)) (pier 1 0 0)) .folioClosed
    ∧ declinesWith c (waits w (some (folioOf .opened 0 9)) (pier 1 0 0)) .holdUnknown
    ∧ declinesWith c (waits w (some { folioOf .frozen 0 9 with holds := [holdOf 7 1 0] }) fullJournal) .journalFull := by decide
/-- R74, R108: the declines of a VOID at its settlement. -/
theorem witness_VoidSettlement_declines :
    let c := Instr.voidSettlement 40
    declinesWith c (waits (.void approved17) none (pier 1 0 0)) .folioClosed
    ∧ declinesWith c (waits (.void approved17) (some (folioOf .closed 0 9)) (pier 1 0 0)) .voidRefused
    ∧ declinesWith c (waits (.void approved17) (some (folioOf .opened (-1073741000) 9)) (pier 1 0 0)) .voidRefused
    ∧ declinesWith c (waits (.void { approved17 with total := -10 }) (some (folioOf .opened 1073741820 9)) (pier 1 0 0)) .voidRefused
    ∧ declinesWith c (waits (.void approved17) (some (folioOf .opened 5 9)) fullJournal) .journalFull := by decide
/-- R101 to R103, R107: the declines of the takes, in the order of the checks. -/
theorem witness_Takes_declines :
    let s := tabBar 5 []
    let tab := Instr.openTab 40 tabBody
    let lines (flags : Byte) : List Byte := [31] ++ leBytes 4 7 ++ [1] ++ leBytes 3 9999999 ++ [1, flags]
    let person (p : Person) := withPerson 2650 p s
    declinesWith tab (putVenue 9 { bar with isOpen := false } s) .venueClosed ∧ declinesWith tab (withCard 7 2650 .withdrawn s) .unknownCard
    ∧ declinesWith tab (withCard 7 2650 .lost s) .cardLost ∧ declinesWith tab (withCard 7 2650 .suspended s) .cardSuspended
    ∧ declinesWith tab (withCard 7 2650 .departed s) .cardDeparted ∧ declinesWith tab (person (personOf .visitor 1877 .aboard)) .noChargePrivilege
    ∧ declinesWith tab (person (personOf .crew 0 .aboard)) .noFolio
    ∧ declinesWith (.charge 40 (lines 1)) (person { personOf .guest 1877 .aboard with spend := ⟨.full, 0, 0, none, true⟩ }) .ageRestricted
    ∧ declinesWith tab { person (personOf .guest 1877 .expected) with chu := { s.chu with policy := .strict } } .ashore
    ∧ declinesWith (.charge 40 (lines 0)) s .amountRange 1 ∧ declinesWith (.charge 40 (lines 0)) (person (personOf .guest 1877 .ashore)) .amountRange 1
    ∧ runs (.charge 40 (lines 0)) (person (personOf .guest 1877 .ashore)) (fun t =>
        decide ((t.persons.get 2650).map (fun p => (p.att.presence, p.att.irregular)) = some (.aboard, true)))
    ∧ declinesWith (.void 40 ([31] ++ leBytes 4 7 ++ leBytes 4 1)) s .voidRefused := by decide
/-- R117, R118, R120: the lines of the access decision that "one cabin through a day" does not show. -/
theorem witness_Access_lines :
    let s := oneDay 1800000 .inService false
    decision 5 s = .denyUnknown ∧ (present 0 1 71000003 s).1 = .denyNotBound ∧ decision 71000003 (withCard 71000003 4117 .lost s) = .denyLost
    ∧ decision 71000003 (withCard 71000003 4117 .suspended s) = .denySuspended ∧ decision 71000003 (withCard 71000003 4117 .departed s) = .denyDeparted
    ∧ decision 71000004 { s with cau := { s.cau with policy := .strict } } = .denyAshore ∧ decision 72400777 (oneDay 5 .lockedDown false) = .denyCabinClosed
    ∧ decision 72400555 (oneDay 5 .lockedDown false) = .grantMaster ∧ decision 71000003 (oneDay 1699999 .inService false) = .denyNotYet
    ∧ decision 73000000 (withCard 73000000 6100 .active s) = .denyNotBound := by decide +kernel

end Sys2Proof.Tests
end

section
/-! O11: searches follow the probe run, lookups find live cards of persons in use, and the two updates change the card found (R2, R3, R6, R7). -/
namespace Sys2Proof.Machine

/-! ### The probe order (R2) -/

theorem homeSlot_eq (serial : Word32) : homeSlot serial = serial.toNat * 2654435761 % 4294967296 / 262144 := by
  have factor : (2654435761#32).toNat = 2654435761 := BitVec.toNat_ofNat ..
  rw [homeSlot, BitVec.toNat_mul, factor]

theorem homeSlot_lt (serial : Word32) : homeSlot serial < 16384 := by
  rw [homeSlot_eq]; omega

theorem nextSlot_lt {slot : Nat} (h : slot < 16384) : nextSlot slot < 16384 := by
  simp only [nextSlot, Config.ringSlots]; split <;> omega

theorem probeSlot_zero {slot : Nat} (h : slot < 16384) : probeSlot slot 0 = slot := Nat.mod_eq_of_lt h

theorem probeSlot_nextSlot (slot d : Nat) : probeSlot (nextSlot slot) d = probeSlot slot (d + 1) := by
  simp only [probeSlot, nextSlot, Config.ringSlots]; split <;> omega

/-! ### Searches (R3) -/

/-- A search for the serial goes on past this slot: it is the HOLE, or OCCUPIED by a card of another serial (R3). -/
def Crg.passes (g : Crg) (serial : Word32) (slot : Nat) : Prop :=
  g.hole = some slot ∨ ∃ c, g.ring.get slot = some c ∧ c.serial ≠ serial

/-- What the end of a search says of the slots examined, for a search from a slot with so many examinations (R3). -/
def Crg.endOfRun (g : Crg) (serial : Word32) (start fuel : Nat) : Search → Prop
  | .found slot c => ∃ d < fuel, slot = probeSlot start d ∧ g.ring.get slot = some c ∧ c.serial = serial
      ∧ ∀ e < d, g.passes serial (probeSlot start e)
  | .freeAt slot => ∃ d < fuel, slot = probeSlot start d ∧ g.ring.get slot = none ∧ g.hole ≠ some slot
      ∧ ∀ e < d, g.passes serial (probeSlot start e)
  | .noSlot => ∀ e < fuel, g.passes serial (probeSlot start e)

section
variable {g : Crg} {serial : Word32} {start : Nat}

/-- The slots passed over from a slot are that slot and those passed over from the next one. -/
theorem Crg.passes_run_succ {n : Nat} (hs : start < 16384) (hp : g.passes serial start)
    (hr : ∀ e < n, g.passes serial (probeSlot (nextSlot start) e)) : ∀ e < n + 1, g.passes serial (probeSlot start e)
  | 0, _ => (probeSlot_zero hs).symm ▸ hp
  | e + 1, he => probeSlot_nextSlot start e ▸ hr e (Nat.lt_of_succ_lt_succ he)

/-- A run from the next slot, begun by one slot passed over. -/
theorem Crg.endOfRun_succ {n : Nat} {r : Search} (hs : start < 16384) (hp : g.passes serial start)
    (hr : g.endOfRun serial (nextSlot start) n r) : g.endOfRun serial start (n + 1) r := by
  cases r with
  | found slot c =>
    obtain ⟨d, hd, hslot, hget, hserial, hrun⟩ := hr
    exact ⟨d + 1, Nat.succ_lt_succ hd, hslot.trans (probeSlot_nextSlot start d), hget, hserial, passes_run_succ hs hp hrun⟩
  | freeAt slot =>
    obtain ⟨d, hd, hslot, hget, hhole, hrun⟩ := hr
    exact ⟨d + 1, Nat.succ_lt_succ hd, hslot.trans (probeSlot_nextSlot start d), hget, hhole, passes_run_succ hs hp hrun⟩
  | noSlot => exact passes_run_succ hs hp hr

end

/-- By induction on the examinations left: each one ends the run, or passes one slot and leaves the run from the next. -/
theorem searchFrom_endOfRun (g : Crg) (serial : Word32) (n : Nat) {start : Nat} (hs : start < 16384) :
    g.endOfRun serial start n (searchFrom g.ring g.hole serial n start) := by
  induction n generalizing start with
  | zero => intro e he; exact absurd he (Nat.not_lt_zero e)
  | succ n ih =>
    have goesOn (hp : g.passes serial start) := Crg.endOfRun_succ hs hp (ih (nextSlot_lt hs))
    have here : start = probeSlot start 0 := (probeSlot_zero hs).symm
    have none_before : ∀ e < 0, g.passes serial (probeSlot start e) := fun e he => absurd he (Nat.not_lt_zero e)
    unfold searchFrom
    split
    next hole => exact goesOn (.inl hole)
    next hole =>
      split
      next free => exact ⟨0, n.succ_pos, here, free, hole, none_before⟩
      next c card =>
        split
        next same => exact ⟨0, n.succ_pos, here, card, same, none_before⟩
        next other => exact goesOn (.inr ⟨c, card, other⟩)

/-- R3 of the whole search, from the home slot with one examination for each slot of the ring. -/
theorem Crg.search_endOfRun (g : Crg) (serial : Word32) : g.endOfRun serial (homeSlot serial) 16384 (g.search serial) :=
  searchFrom_endOfRun g serial 16384 (homeSlot_lt serial)

/-! ### Lookups and updates (R6, R7) -/

section
variable {s : State} {serial : Word32} {slot : Nat} {c : Card}

theorem lookup_of_found (h : s.crg.search serial = .found slot c) :
    lookup serial s = if c.state = .withdrawn then none
      else (s.persons.get c.person).map fun p => { slot := slot, card := c, person := p } := by
  simp only [lookup, h]

theorem failureUpdate_of_found (h : s.crg.search serial = .found slot c) :
    failureUpdate serial s = if c.state = .withdrawn then s
      else if c.failStreak = 4 then raise .cardFailStreak serial {} (putCard slot { c with failStreak := min 7 (c.failStreak + 1) } s)
      else putCard slot { c with failStreak := min 7 (c.failStreak + 1) } s := by
  simp only [failureUpdate, h]

theorem successUpdate_of_found (h : s.crg.search serial = .found slot c) :
    successUpdate serial s = if c.state = .withdrawn then s
      else putCard slot { c with failStreak := 0, lastUse := some s.scl.voyage } s := by
  simp only [successUpdate, h]

/-- Without a card found, a lookup finds nothing and the updates change nothing. -/
theorem lookup_and_updates_of_not_found (h : ∀ slot c, s.crg.search serial ≠ .found slot c) :
    lookup serial s = none ∧ failureUpdate serial s = s ∧ successUpdate serial s = s := by
  unfold lookup failureUpdate successUpdate
  cases hr : s.crg.search serial with
  | found slot c => exact absurd hr (h slot c)
  | freeAt slot => exact ⟨rfl, rfl, rfl⟩
  | noSlot => exact ⟨rfl, rfl, rfl⟩

end

/-- Settles O11: the run a search makes, by induction on its examinations, and the equations of the lookup and the two updates. -/
theorem searchesLookupsAndUpdatesFollowTheProbeRun : Obligations.SearchesLookupsAndUpdatesFollowTheProbeRun := by
  refine ⟨⟨fun serial => ⟨homeSlot_eq serial, homeSlot_lt serial⟩, fun g serial => ?_⟩, fun s serial => ?_⟩
  · -- on each end of a search, `endOfRun` is its clause of R3
    have run := g.search_endOfRun serial
    exact ⟨fun _ _ h => (h ▸ run :), fun _ h => (h ▸ run :), fun h => (h ▸ run :)⟩
  · refine ⟨fun slot c p found person => ⟨fun withdrawn => ?_, fun live => ?_⟩,
      fun unfound => (lookup_and_updates_of_not_found unfound).1, fun unfound => (lookup_and_updates_of_not_found unfound).2,
      fun slot c found => ⟨fun withdrawn => ⟨?_, ?_⟩, fun live => ⟨?_, fun streak => ?_, fun streak => ?_⟩⟩⟩
    · rw [lookup_of_found found, if_pos withdrawn]
    · rw [lookup_of_found found, if_neg live, person, Option.map_some]
    · rw [failureUpdate_of_found found, if_pos withdrawn]
    · rw [successUpdate_of_found found, if_pos withdrawn]
    · rw [successUpdate_of_found found, if_neg live]
    · rw [failureUpdate_of_found found, if_neg live, if_neg streak]
    · rw [failureUpdate_of_found found, if_neg live, if_pos streak, streak]; rfl

end Sys2Proof.Machine
end

section
/-! The folio requests of the host, as their owner answers them: a lemma for each branch of R77 to R82. -/
namespace Sys2Proof.Machine

/-- A request that the link can take and whose fields are judged alone is answered as its owner answers it (R189, R190). -/
theorem request_answered {s : State} (ready : s.ready = true) {fields : List Field} {body : List Byte} {v : Values}
    (decoded : decodeFields fields body = .ok v) {own : Values → State → Answer × State} {status : Status} {payload : Payload} {u : State}
    (owner : own v (heard .service s) = ({ status := status, payload := payload }, u)) {code tag : Byte} :
    (.next (hostRequest code fields noCross own tag body s) : Out) = .next (answered code tag status payload u) := by
  rw [hostRequest_ready ready ((judgeFields_noCross fields body).trans decoded), owner]

/-! ### Amounts and marks of a folio -/

/-- A balance field is the balance clamped to the money-field range (R56). -/
theorem balanceField_eq_clamp (balance : Int) : balanceField balance = max (-8388608) (min 8388607 balance) := by
  simp only [balanceField, Config.maxMoney]; split
  · omega
  · split <;> omega

theorem Folio.overLimit_iff (f : Folio) : f.overLimit = true ↔ f.limit < f.balance + (f.holds.map (·.amount)).sum := decide_eq_true_iff

/-- The law of R70 touches the state alone: an OPEN folio over its limit is FROZEN afterward, any other keeps its state. -/
theorem Folio.frozenIfOver_eq (f : Folio) :
    f.frozenIfOver = { f with state :=
      if f.state = .opened ∧ f.limit < f.balance + (f.holds.map (·.amount)).sum then .frozen else f.state } := by
  simp only [Folio.frozenIfOver, Folio.overLimit_iff]; split <;> rfl

theorem creditOutOfRange_iff (balance amount : Int) : creditOutOfRange balance amount = true ↔
    (amount < 0 ∧ balance + amount < -1073741824) ∨ (0 < amount ∧ 1073741824 < balance + amount) := by
  simp [creditOutOfRange]

/-- A journal slot is free while fewer than 16,384 are used (R171). -/
theorem one_le_freeSlots_iff (j : Jnl) : 1 ≤ j.freeSlots ↔ j.used < 16384 := by
  rw [freeSlots_eq]; omega

/-! ### A request that names a folio -/

section
variable {n : Nat} {act : Folio → State → Answer × State} {t : State}

theorem withFolio_of_unused (unused : t.fst.folios.get n = none) : withFolio n act t = refuse .notFound t := by
  simp only [withFolio, unused]

theorem withFolio_of_inUse {f : Folio} (inUse : t.fst.folios.get n = some f) : withFolio n act t = act f t := by
  simp only [withFolio, inUse]

end

/-! ### OPEN FOLIO (R78) -/

section
variable {v : Values} {t : State}

theorem openFolio_of_inUse (inUse : (t.fst.folios.get (v.nat 1)).isSome = true) : openFolio v t = refuse .conflict t := by
  simp only [openFolio, inUse, if_true]

/-- With no initial balance the slot comes into use without a record. -/
theorem openFolio_of_zero (unused : t.fst.folios.get (v.nat 1) = none) (zero : v.int 3 = 0) :
    openFolio v t = bringFolio (v.nat 1) (v.int 2) (v.int 3) t := by
  simp [openFolio, unused, zero]

/-- An initial balance is posted by its CREDIT record, and the slot stays free when the record is refused. -/
theorem openFolio_of_refused (unused : t.fst.folios.get (v.nat 1) = none) (posts : v.int 3 ≠ 0) (full : 16384 ≤ t.jnl.used) :
    openFolio v t = refuse .journalFull (raise .journalFull 6 {} t) := by
  have none_free : ¬ 1 ≤ t.jnl.freeSlots := by rw [one_le_freeSlots_iff]; omega
  simp only [openFolio, unused, Option.isSome_none, posts, if_false, offerMoney_refused none_free, Bool.false_eq_true]; rfl

theorem openFolio_of_admitted (unused : t.fst.folios.get (v.nat 1) = none) (posts : v.int 3 ≠ 0) (room : t.jnl.used < 16384) :
    openFolio v t =
      let u := (offerMoney (creditRecord (v.nat 1) (v.int 3) (v.int 3)) t).2
      ((bringFolio (v.nat 1) (v.int 2) (v.int 3) u).1, showBalance (v.nat 1) (bringFolio (v.nat 1) (v.int 2) (v.int 3) u).2) := by
  have free : 1 ≤ t.jnl.freeSlots := (one_le_freeSlots_iff _).2 room
  simp only [openFolio, unused, Option.isSome_none, posts, if_false, offerMoney_admitted free, Bool.false_eq_true]

/-! ### SET LIMIT and POST CREDIT (R79, R80) -/

variable {f : Folio}

theorem setLimit_of_inUse (inUse : t.fst.folios.get (v.nat 1) = some f) :
    setLimit v t = ({ status := .done, payload := .folioState { f with limit := v.int 2 }.frozenIfOver.state },
      nearTest (v.nat 1) (putFolio (v.nat 1) { f with limit := v.int 2 }.frozenIfOver t)) :=
  withFolio_of_inUse inUse

theorem postCredit_of_unused (unused : t.fst.folios.get (v.nat 1) = none) : postCredit v t = refuse .notFound t := by
  simp only [postCredit, withFolio_of_unused unused]

theorem postCredit_of_outOfRange (inUse : t.fst.folios.get (v.nat 1) = some f) (beyond : creditOutOfRange f.balance (v.int 2) = true) :
    postCredit v t = refuse .amountRange t := by
  simp only [postCredit, withFolio_of_inUse inUse, beyond, if_true]

theorem postCredit_of_refused (inUse : t.fst.folios.get (v.nat 1) = some f) (within : ¬ creditOutOfRange f.balance (v.int 2) = true)
    (full : 16384 ≤ t.jnl.used) : postCredit v t = refuse .journalFull (raise .journalFull 6 {} t) := by
  have none_free : ¬ 1 ≤ t.jnl.freeSlots := by rw [one_le_freeSlots_iff]; omega
  simp only [postCredit, withFolio_of_inUse inUse, within, if_false, offerMoney_refused none_free, Bool.false_eq_true]; rfl

theorem postCredit_of_admitted (inUse : t.fst.folios.get (v.nat 1) = some f) (within : ¬ creditOutOfRange f.balance (v.int 2) = true)
    (room : t.jnl.used < 16384) :
    postCredit v t =
      let g := { f with balance := f.balance + v.int 2 }.frozenIfOver
      ({ status := .done, payload := .credit (balanceField g.balance) g.state },
        showBalance (v.nat 1) (nearTest (v.nat 1)
          (putFolio (v.nat 1) g (offerMoney (creditRecord (v.nat 1) (v.int 2) (f.balance + v.int 2)) t).2))) := by
  have free : 1 ≤ t.jnl.freeSlots := (one_le_freeSlots_iff _).2 room
  simp only [postCredit, withFolio_of_inUse inUse, within, if_false, offerMoney_admitted free, Bool.false_eq_true]

/-! ### FREEZE and THAW (R81) -/

section
variable (inUse : t.fst.folios.get (v.nat 1) = some f)
include inUse

theorem freeze_of_opened (opened : f.state = .opened) :
    freeze v t = ({ status := .done }, putFolio (v.nat 1) { f with state := .frozen } t) := by
  simp only [freeze, withFolio_of_inUse inUse, opened]

theorem freeze_of_frozen (frozen : f.state = .frozen) : freeze v t = refuse .done t := by
  simp only [freeze, withFolio_of_inUse inUse, frozen]

theorem freeze_of_closed (closed : f.state = .closed) : freeze v t = refuse .notNow t := by
  simp only [freeze, withFolio_of_inUse inUse, closed]

theorem thaw_of_frozen (frozen : f.state = .frozen) (within : ¬ f.overLimit = true) :
    thaw v t = ({ status := .done }, putFolio (v.nat 1) { f with state := .opened } t) := by
  simp only [thaw, withFolio_of_inUse inUse, frozen, within, if_false, Bool.false_eq_true]

theorem thaw_of_frozen_overLimit (frozen : f.state = .frozen) (exceeds : f.overLimit = true) : thaw v t = refuse .overLimit t := by
  simp only [thaw, withFolio_of_inUse inUse, frozen, exceeds, if_true]

theorem thaw_of_opened (opened : f.state = .opened) : thaw v t = refuse .done t := by
  simp only [thaw, withFolio_of_inUse inUse, opened]

theorem thaw_of_closed (closed : f.state = .closed) : thaw v t = refuse .notNow t := by
  simp only [thaw, withFolio_of_inUse inUse, closed]

/-! ### CLOSE FOLIO and REOPEN (R82) -/

theorem closeFolio_of_holds (holds : f.holds ≠ []) : closeFolio v t = refuse .holdsOutstanding t := by
  rw [← List.isEmpty_eq_false_iff] at holds
  simp only [closeFolio, withFolio_of_inUse inUse, holds, if_false, Bool.false_eq_true]

theorem closeFolio_of_no_holds (holds : f.holds = []) :
    closeFolio v t = ({ status := .done }, putFolio (v.nat 1) { f with state := .closed } t) := by
  rw [← List.isEmpty_iff] at holds
  simp only [closeFolio, withFolio_of_inUse inUse, holds, if_true]

theorem reopen_of_closed (closed : f.state = .closed) :
    reopen v t = ({ status := .done, payload := .folioState f.reopened.state }, putFolio (v.nat 1) f.reopened t) := by
  simp only [reopen, withFolio_of_inUse inUse, closed, if_true]

theorem reopen_of_not_closed (live : f.state ≠ .closed) : reopen v t = refuse .notNow t := by
  simp only [reopen, withFolio_of_inUse inUse, live, if_false]

end
end

theorem Folio.reopened_of_within {f : Folio} (within : f.balance ≤ f.limit) : f.reopened = { f with state := .opened } := by
  rw [Folio.reopened, if_pos within]

theorem Folio.reopened_of_beyond {f : Folio} (beyond : f.limit < f.balance) : f.reopened = { f with state := .frozen } := by
  rw [Folio.reopened, if_neg (Int.not_le.2 beyond)]

end Sys2Proof.Machine
end

section
/-! O27: what OPEN FOLIO, SET LIMIT and POST CREDIT change (R57, R78-R80). -/
namespace Sys2Proof.Machine

/-- Settles O27: each request by the answers of its owner, with the law of R70 read off by `Folio.frozenIfOver_eq`. -/
theorem openingsLimitsAndCreditsChangeTheFolio : Obligations.OpeningsLimitsAndCreditsChangeTheFolio := by
  refine ⟨fun s tag body v ready decoded => ?openFolio,
    fun s tag body v ready => ⟨fun decoded => ?setLimit, fun decoded => ?postCredit⟩⟩
  case openFolio =>
    -- the owner sees the state that has heard the request, whose folios are those of `s`
    rw [← heard_fst .service s]
    refine ⟨fun inUse => ?_, fun unused zero => ?_, fun unused posts full => ?_, fun unused posts room => ?_⟩
    · exact request_answered ready decoded (openFolio_of_inUse inUse)
    · exact request_answered ready decoded (openFolio_of_zero unused zero)
    · exact request_answered ready decoded (openFolio_of_refused unused posts full)
    · rw [← balanceField_eq_clamp]
      exact request_answered ready decoded (openFolio_of_admitted unused posts room)
  case setLimit =>
    rw [← heard_fst .service s]
    refine ⟨fun unused => ?_, fun f inUse => ?_⟩
    · exact request_answered ready decoded (withFolio_of_unused unused)
    · exact request_answered ready decoded ((setLimit_of_inUse inUse).trans (by rw [Folio.frozenIfOver_eq]))
  case postCredit =>
    rw [← heard_fst .service s]
    refine ⟨fun unused => ?_, fun f inUse => ⟨fun beyond => ?_, fun within full => ?_, fun within room => ?_⟩⟩
    · exact request_answered ready decoded (postCredit_of_unused unused)
    · exact request_answered ready decoded (postCredit_of_outOfRange inUse ((creditOutOfRange_iff ..).2 beyond))
    · exact request_answered ready decoded (postCredit_of_refused inUse (mt (creditOutOfRange_iff ..).1 within) full)
    · exact request_answered ready decoded
        ((postCredit_of_admitted inUse (mt (creditOutOfRange_iff ..).1 within) room).trans (by rw [Folio.frozenIfOver_eq]; rfl))

end Sys2Proof.Machine
end

section
/-! O28: the states of a folio and its two flags (R77, R81, R82). -/
namespace Sys2Proof.Machine

/-- Settles O28: each request by the answers of its owner, state by state. -/
theorem folioStatesAndFlagsFollowTheirRequests : Obligations.FolioStatesAndFlagsFollowTheirRequests := by
  refine ⟨fun s tag body v ready decoded => ?states, fun s tag body v ready decoded => ?flags⟩
  case states =>
    rw [← heard_fst .service s]
    refine ⟨fun unused => ?_, fun f inUse => ?_⟩
    · have notFound {act} : withFolio (v.nat 1) act (heard .service s) = refuse .notFound (heard .service s) := withFolio_of_unused unused
      exact ⟨request_answered ready decoded notFound, request_answered ready decoded notFound,
        request_answered ready decoded notFound, request_answered ready decoded notFound⟩
    · refine ⟨fun opened => ?_, fun frozen => ?_, fun closed => ?_, fun frozen within => ?_, fun frozen exceeds => ?_, fun opened => ?_,
        fun closed => ?_, fun holds => ?_, fun holds => ?_, fun closed within => ?_, fun closed beyond => ?_, fun live => ?_⟩
      · exact request_answered ready decoded (freeze_of_opened inUse opened)
      · exact request_answered ready decoded (freeze_of_frozen inUse frozen)
      · exact request_answered ready decoded (freeze_of_closed inUse closed)
      · exact request_answered ready decoded (thaw_of_frozen inUse frozen (mt f.overLimit_iff.1 within))
      · exact request_answered ready decoded (thaw_of_frozen_overLimit inUse frozen (f.overLimit_iff.2 exceeds))
      · exact request_answered ready decoded (thaw_of_opened inUse opened)
      · exact request_answered ready decoded (thaw_of_closed inUse closed)
      · exact request_answered ready decoded (closeFolio_of_holds inUse holds)
      · exact request_answered ready decoded (closeFolio_of_no_holds inUse holds)
      · exact request_answered ready decoded ((reopen_of_closed inUse closed).trans (by rw [Folio.reopened_of_within within]))
      · exact request_answered ready decoded ((reopen_of_closed inUse closed).trans (by rw [Folio.reopened_of_beyond beyond]))
      · exact request_answered ready decoded (reopen_of_not_closed inUse live)
  case flags =>
    rw [← heard_fst .service s]
    exact ⟨fun unused => request_answered ready decoded (withFolio_of_unused unused),
      fun f inUse => request_answered ready decoded (withFolio_of_inUse inUse)⟩

end Sys2Proof.Machine
end

section
/-! What the queries report: the reading of each query's owner in the terms of its rule. -/
namespace Sys2Proof.Machine

/-- A reading is answered DONE with what it reads, and changes nothing. -/
theorem reading_of_eq {f : State → Payload} {v : Values} {t : State} {x : Payload} (reads : f t = x) :
    reading f v t = ({ status := .done, payload := x }, t) := by
  rw [reading, reads]

/-- A reading of what the fields name is answered with what it reads of it, and changes nothing. -/
theorem namedReading_answered {s : State} (ready : s.ready = true) {fields : List Field} {body : List Byte} {v : Values}
    (decoded : decodeFields fields body = .ok v) {f : Values → State → Payload} {x : Payload} (reads : f v (heard .service s) = x)
    {code tag : Byte} :
    (.next (hostRequest code fields noCross (fun v => reading (f v) v) tag body s) : Out) = .next (answered code tag .done x (heard .service s)) :=
  request_answered ready decoded (own := fun v => reading (f v) v) (reading_of_eq reads)

/-! ### Numbers that fields name -/

@[simp] theorem segmentOf_val (i : Fin 8) : segmentOf i.val = i := Fin.ext (Nat.mod_eq_of_lt i.isLt)
@[simp] theorem stationOf_val (g : Fin 4) : stationOf g.val = g := Fin.ext (Nat.mod_eq_of_lt g.isLt)
@[simp] theorem tillOf_val (n : Fin 128) : tillOf n.val = n := Fin.ext (Nat.mod_eq_of_lt n.isLt)
@[simp] theorem venueOf_val (n : Fin 64) : venueOf n.val = n := Fin.ext (Nat.mod_eq_of_lt n.isLt)

/-! ### Cards, persons and cabins (R11, R129, R169) -/

section
variable {v : Values} {t : State}

theorem queryCard_of_found {slot : Nat} {c : Card} (found : t.crg.search (v.word 1) = .found slot c) :
    queryCard v t = ({ status := .done, payload := .card c slot (probeMoves (homeSlot (v.word 1)) slot) }, t) := by
  simp only [queryCard, found]

theorem queryCard_of_not_found (unfound : ∀ slot c, t.crg.search (v.word 1) ≠ .found slot c) : queryCard v t = refuse .notFound t := by
  unfold queryCard
  cases h : t.crg.search (v.word 1) with
  | found slot c => exact absurd h (unfound slot c)
  | freeAt slot => rfl
  | noSlot => rfl

theorem withPerson_of_unused {n : Nat} {act : Person → State → Answer × State} (unused : t.persons.get n = none) :
    withPerson n act t = refuse .notFound t := by
  simp only [withPerson, unused]

theorem withPerson_of_inUse {n : Nat} {act : Person → State → Answer × State} {p : Person} (inUse : t.persons.get n = some p) :
    withPerson n act t = act p t := by
  simp only [withPerson, inUse]

theorem queryCabin_of_unused (unused : t.cau.cabins.get (v.nat 1) = none) : queryCabin v t = refuse .notFound t := by
  simp only [queryCabin, unused]

theorem queryCabin_of_inUse {c : Cabin} (inUse : t.cau.cabins.get (v.nat 1) = some c) :
    queryCabin v t = ({ status := .done, payload := .cabin (v.nat 1) c (((t.lsc c.segment).nodes.get c.node).map Node.reading) }, t) := by
  simp only [queryCabin, inUse]

end

/-! ### Stations and segments (R145, R166) -/

/-- A reported station has the tallies of the folio day, 0 when its tally day is another (R167). -/
theorem Station.reading_reported (x : Station) (day : Nat) :
    (x.reported day).reading = { x.reading with tallyIn := if x.tallyDay = some day then x.tallyIn else 0,
                                                tallyOut := if x.tallyDay = some day then x.tallyOut else 0 } := by
  by_cases today : x.tallyDay = some day
  · simp only [Station.reported, if_pos today]; rfl
  · simp only [Station.reported, if_neg today]; rfl

theorem queryStation_of_named {v : Values} {g : Fin 4} (named : v.nat 1 = g.val) (t : State) :
    queryStation v t = ({ status := .done, payload := .station ((t.station g).reported t.scl.folioDay).reading },
      putStation g { t.station g with longSeen := false } t) := by
  simp only [queryStation, named, stationOf_val]

/-- A turn is a POLL while no mode has been sent in it, and a MODE otherwise. -/
theorem Turn.kind_eq (t : Turn) : t.kind = if t.sent = .noMode then .poll else .mode := by
  unfold Turn.kind
  split
  next sent => rw [if_pos sent]
  next sent => rw [if_neg sent]

/-! ### The counts and the timer (R165, R169) -/

section
variable {t : State}

theorem minutesLeft_of_running {d : Nat} (running : t.pru.timer = .running d) (ahead : t.scl.voyage ≤ d) :
    t.minutesLeft = some (min 999 ((d - t.scl.voyage) / 60)) := by
  simp only [State.minutesLeft, running, if_pos ahead]

theorem deadlinePassed_of_ahead (ahead : ∀ d, t.pru.timer = .running d → t.scl.voyage ≤ d) : t.deadlinePassed = false := by
  unfold State.deadlinePassed
  split
  next d running => exact decide_eq_false (Nat.not_lt.2 (ahead d running))
  next => rfl

/-- With no deadline passed, QUERY COUNTS takes no free value, and so changes nothing (log 29). -/
theorem queryCounts_of_ahead (ahead : ∀ d, t.pru.timer = .running d → t.scl.voyage ≤ d) (v : Values) :
    queryCounts v t =
      ({ status := .done, payload := .counts t.pru.counts.toList t.pru.missingCount t.pru.timer t.pru.newlyMarked t.minutesLeft }, t) := by
  simp [queryCounts, deadlinePassed_of_ahead ahead]

end

/-! ### The link, the holds and the chosen cause (R182, R200) -/

theorem Slc.drainOpen_of_no_transfer {c : Slc} (closed : c.transfer = none) : c.drainOpen = false := by
  simp only [Slc.drainOpen, closed]

theorem Slc.transferNumber_of_no_transfer {c : Slc} (closed : c.transfer = none) : c.transferNumber = 0 := by
  simp only [Slc.transferNumber, closed]

/-- The outstanding holds are counted folio by folio. -/
theorem Fst.outstanding_length (f : Fst) : f.outstanding.length = (f.folios.map (fun e => e.2.holds.length)).sum := List.length_flatMap

end Sys2Proof.Machine
end

section
/-! O30: what the queries report, and that they change nothing but LONG SEEN (R11, R24, R39, R62, R84, R98, R123, R129, R145, R166, R169, R182, R200). -/
namespace Sys2Proof.Machine

/-- Settles O30: each query by the reading of its owner, which reads the same of the state that has heard the request. -/
theorem queriesReportAndChangeNothing : Obligations.QueriesReportAndChangeNothing := by
  refine ⟨fun s tag ready => ?noFields, fun s tag body v ready => ?named⟩
  case noFields =>
    obtain ⟨-, -, closed⟩ := (ready_iff s).1 ready
    refine ⟨?purge, ?time, ?dayTotal, ?folioPolicy, ?portRate, ?accessPolicy, ?journal, ?attention, ?status, fun ahead => ?counts⟩
    case journal =>
      refine request_answered ready rfl (reading_of_eq ?_)
      rw [journalReading, heard_slc, Slc.drainOpen_of_no_transfer closed]; rfl
    case status =>
      refine request_answered ready rfl (reading_of_eq ?_)
      rw [statusReading, heard_slc, Slc.transferNumber_of_no_transfer closed, Fst.outstanding_length, heard_atu]
      cases s.atu.chosen <;> rfl
    case counts =>
      refine request_answered ready rfl ((queryCounts_of_ahead (t := heard .service s) ahead []).trans ?_)
      cases timer : s.pru.timer with
      | running d => rw [minutesLeft_of_running (t := heard .service s) timer (ahead d timer), heard_pru, timer]; rfl
      | _ => simp [timer, State.minutesLeft]
    -- the other readings are what their rules list, word for word
    all_goals exact request_answered ready rfl (reading_of_eq rfl)
  case named =>
    refine ⟨fun decoded => ⟨fun slot c found => ?card, fun unfound => ?noCard⟩, fun decoded n named => ?venue, fun decoded n named => ?till,
      fun decoded => ⟨fun unused => ?noCabin, fun c inUse => ?cabin⟩, fun decoded i named => ?segment,
      fun decoded => ⟨fun unused => ?noPerson, fun p inUse => ?person⟩, fun decoded g named => ?station⟩
    case card => exact request_answered ready decoded (queryCard_of_found found)
    case noCard => exact request_answered ready decoded (queryCard_of_not_found unfound)
    case venue =>
      refine namedReading_answered ready decoded ?_
      rw [named, venueOf_val]; rfl
    case till =>
      refine namedReading_answered ready decoded ?_
      rw [named, tillOf_val]; rfl
    case noCabin => exact request_answered ready decoded (queryCabin_of_unused unused)
    case cabin => exact request_answered ready decoded (queryCabin_of_inUse inUse)
    case segment =>
      refine namedReading_answered ready decoded ?_
      rw [named, segmentOf_val]
      simp only [segmentReading, Turn.kind_eq]; rfl
    case noPerson => exact request_answered ready decoded (withPerson_of_unused (t := heard .service s) unused)
    case person => exact request_answered ready decoded (withPerson_of_inUse (t := heard .service s) inUse)
    case station =>
      refine request_answered ready decoded ((queryStation_of_named named _).trans ?_)
      rw [Station.reading_reported]; rfl

end Sys2Proof.Machine
end

section
/-! The binding lists of cabins and persons, as the owners of BIND and UNBIND change them: a lemma for each branch of R113 to R115. -/
namespace Sys2Proof.Machine

/-! ### A person's list of bound cabins (R12, R111) -/

/-- The person with a cabin off the bound-cabin list. -/
def Person.withoutCabin (cabin : Nat) (p : Person) : Person :=
  { p with ident := { p.ident with cabins := p.ident.cabins.filter (· ≠ cabin) } }

/-- The person with a cabin at the end of the bound-cabin list. -/
def Person.withCabin (cabin : Nat) (p : Person) : Person :=
  { p with ident := { p.ident with cabins := p.ident.cabins ++ [cabin] } }

@[simp] theorem Person.withoutCabin_withoutCabin (cabin : Nat) (p : Person) :
    (p.withoutCabin cabin).withoutCabin cabin = p.withoutCabin cabin := by
  simp [Person.withoutCabin]

section
variable {person cabin : Nat} {s : State}

theorem dropFromPerson_of_unused (unused : s.persons.get person = none) : dropFromPerson person cabin s = s := by
  simp only [dropFromPerson, unused]

theorem dropFromPerson_of_inUse {p : Person} (inUse : s.persons.get person = some p) :
    dropFromPerson person cabin s = putPerson person (p.withoutCabin cabin) s := by
  simp only [dropFromPerson, inUse]; rfl

theorem addToPerson_of_inUse {p : Person} (inUse : s.persons.get person = some p) :
    addToPerson person cabin s = putPerson person (p.withCabin cabin) s := by
  simp only [addToPerson, inUse]; rfl

end

/-- Dropping a cabin from a person changes no piece of state but the persons. -/
theorem dropFromPerson_frame (person cabin : Nat) (s : State) :
    dropFromPerson person cabin s = { s with persons := (dropFromPerson person cabin s).persons } := by
  cases h : s.persons.get person with
  | none => rw [dropFromPerson_of_unused h]
  | some p => rw [dropFromPerson_of_inUse h]; rfl

/-- Dropping a cabin from a person changes that person's record and no other. -/
theorem dropFromPerson_persons_get (person cabin : Nat) (s : State) (m : Nat) :
    (dropFromPerson person cabin s).persons.get m =
      (s.persons.get m).map (fun q => if person = m then q.withoutCabin cabin else q) := by
  by_cases same : person = m
  · subst same
    cases h : s.persons.get person with
    | none => simp [dropFromPerson_of_unused h, h]
    | some p => simp [dropFromPerson_of_inUse h]
  · cases h : s.persons.get person with
    | none => simp [dropFromPerson_of_unused h, same]
    | some p => simp [dropFromPerson_of_inUse h, same, Table.get_set_other _ _ _ _ (Ne.symm same)]

/-- Dropping a cabin from the persons of many bindings changes no piece of state but the persons. -/
theorem dropFromPersons_frame (cabin : Nat) (bs : List Binding) (s : State) :
    bs.foldl (fun t b => dropFromPerson b.person cabin t) s =
      { s with persons := (bs.foldl (fun t b => dropFromPerson b.person cabin t) s).persons } := by
  induction bs generalizing s with
  | nil => rfl
  | cons b bs ih =>
    rw [List.foldl_cons, ih, dropFromPerson_frame b.person cabin s]

/-- Dropping a cabin from the persons of many bindings changes the records of those persons, each once, and no other. -/
theorem dropFromPersons_persons_get (cabin : Nat) (bs : List Binding) (s : State) (m : Nat) :
    (bs.foldl (fun t b => dropFromPerson b.person cabin t) s).persons.get m =
      (s.persons.get m).map (fun q => if bs.any (fun b => b.person == m) then q.withoutCabin cabin else q) := by
  induction bs generalizing s with
  | nil => simp
  | cons b bs ih =>
    rw [List.foldl_cons, ih, dropFromPerson_persons_get, Option.map_map]
    congr 1; funext q
    by_cases here : b.person = m <;> simp [here]

/-! ### A cabin's list of bindings (R111, R112) -/

theorem Cabin.bindingOf_isSome_iff (c : Cabin) (person : Nat) :
    (c.bindingOf person).isSome = true ↔ ∃ x ∈ c.bindings, x.person = person := by
  simp [Cabin.bindingOf, List.find?_isSome]

/-- No binding on the cabin's list is the person's. -/
theorem Cabin.bindingOf_not_isSome {c : Cabin} {person : Nat} (unbound : ∀ x ∈ c.bindings, x.person ≠ person) :
    ¬ (c.bindingOf person).isSome = true := by
  rw [Cabin.bindingOf_isSome_iff]
  exact fun ⟨x, listed, own⟩ => unbound x listed own

/-- A period is empty unless it ends after its start (R113 check 1). -/
theorem Binding.emptyPeriod_iff (b : Binding) : b.emptyPeriod = true ↔ ¬ ∀ e, b.validUntil = some e → b.validFrom < e := by
  unfold Binding.emptyPeriod
  cases b.validUntil <;> simp

/-- A binding has expired when it has an end that has come (R112). -/
theorem Binding.expired_eq_elim (b : Binding) (now : Nat) : b.expired now = b.validUntil.elim false (fun e => decide (e ≤ now)) := by
  unfold Binding.expired
  cases b.validUntil <;> rfl

/-- The cabin with no binding but those that have not expired. -/
def Cabin.swept (c : Cabin) (now : Nat) : Cabin := { c with bindings := c.bindings.filter (fun x => !x.expired now) }

/-- The bindings that a sweep leaves are those on the list less those it counts. -/
theorem Cabin.swept_length (c : Cabin) (now : Nat) :
    (c.swept now).bindings.length = c.bindings.length - c.bindings.countP (fun x => x.expired now) := by
  have split := List.length_eq_countP_add_countP (fun x : Binding => x.expired now) (l := c.bindings)
  simp only [Cabin.swept, ← List.countP_eq_length_filter]
  simp only [Bool.not_eq_true, Bool.decide_eq_false] at split
  omega

/-! ### The sweep (R114 case 2) -/

section
variable (cabin : Nat) (c : Cabin) (s : State)

/-- A sweep changes the cabin's record and the persons, and nothing else. -/
theorem sweep_frame :
    sweep cabin c s = { putCabin cabin (c.swept s.scl.voyage) s with persons := (sweep cabin c s).persons } :=
  dropFromPersons_frame _ _ _

theorem sweep_cau : (sweep cabin c s).cau = { s.cau with cabins := s.cau.cabins.set cabin (c.swept s.scl.voyage) } := by
  rw [sweep_frame]; rfl

/-- A sweep takes the cabin off the lists of the persons whose bindings have expired. -/
theorem sweep_persons_get (m : Nat) :
    (sweep cabin c s).persons.get m = (s.persons.get m).map (fun q =>
      if c.bindings.any (fun x => x.expired s.scl.voyage && x.person == m) then q.withoutCabin cabin else q) := by
  rw [sweep, dropFromPersons_persons_get, List.any_filter, putCabin_persons]

/-- A person with no binding on the cabin's list is kept as it was. -/
theorem sweep_persons_get_of_unbound {person : Nat} (unbound : ∀ x ∈ c.bindings, x.person ≠ person) :
    (sweep cabin c s).persons.get person = s.persons.get person := by
  have untouched : ¬ c.bindings.any (fun x => x.expired s.scl.voyage && x.person == person) = true := by
    simp only [List.any_eq_true, Bool.and_eq_true, beq_iff_eq]
    exact fun ⟨x, listed, _, own⟩ => unbound x listed own
  simp [sweep_persons_get, untouched]

end

/-! ### BIND (R113, R114) -/

section
variable {b : Binding} {cabin swept : Nat} {c : Cabin} {p : Person} {t : State}

section
variable (inUse : t.cau.cabins.get cabin = some c) (known : t.persons.get b.person = some p)
include inUse known

theorem appendBinding_of_personFull (full : 4 ≤ p.ident.cabins.length) :
    appendBinding b cabin swept t = ({ status := .personFull, payload := .swept swept }, t) := by
  simp only [appendBinding, inUse, known, ge_iff_le, full, if_true]

theorem appendBinding_of_room (room : p.ident.cabins.length < 4) :
    appendBinding b cabin swept t = ({ status := .done, payload := .bound (c.bindings.length + 1) swept },
      putPerson b.person (p.withCabin cabin) (putCabin cabin { c with bindings := c.bindings ++ [b] } t)) := by
  simp only [appendBinding, inUse, known, ge_iff_le, Nat.not_le.2 room, if_false]
  exact congrArg _ (addToPerson_of_inUse known)

end

theorem completeBind_of_bound (bound : ∃ x ∈ c.bindings, x.person = b.person) :
    completeBind b cabin c t = ({ status := .done, payload := .position (c.positionOf b.person) }, putCabin cabin (c.rewrite b) t) := by
  rw [completeBind, if_pos ((c.bindingOf_isSome_iff _).2 bound)]

section
variable (unbound : ∀ x ∈ c.bindings, x.person ≠ b.person)
include unbound

theorem completeBind_of_room (room : c.bindings.length < 6) : completeBind b cabin c t = appendBinding b cabin 0 t := by
  rw [completeBind, if_neg (Cabin.bindingOf_not_isSome unbound), if_neg (Nat.not_le.2 room)]

/-- A full list is swept, and the binding appended if the sweep has made room. -/
theorem completeBind_of_full (full : 6 ≤ c.bindings.length) :
    completeBind b cabin c t =
      let n := c.bindings.countP (fun x => x.expired t.scl.voyage)
      if 6 ≤ (c.swept t.scl.voyage).bindings.length then ({ status := .cabinFull, payload := .swept n }, sweep cabin c t)
      else appendBinding b cabin n (sweep cabin c t) := by
  rw [completeBind, if_neg (Cabin.bindingOf_not_isSome unbound), if_pos full]
  simp only [← List.countP_eq_length_filter, Cabin.swept_length]

end
end

section
variable {v : Values} {t : State}

theorem bind_of_emptyPeriod (empty : (bindingOfRequest v).emptyPeriod = true) : bind v t = refuse .range t := by
  simp only [bind, empty, if_true]

section
variable (period : ¬ (bindingOfRequest v).emptyPeriod = true)
include period

theorem bind_of_unknown_cabin (unused : t.cau.cabins.get (v.nat 2) = none) :
    bind v t = ({ status := .notFound, payload := .field 2 }, t) := by
  simp only [bind, period, unused, if_false, Bool.false_eq_true]

theorem bind_of_unknown_person {c : Cabin} (inUse : t.cau.cabins.get (v.nat 2) = some c)
    (unknown : t.persons.get (bindingOfRequest v).person = none) :
    bind v t = ({ status := .notFound, payload := .field 1 }, t) := by
  simp only [bind, period, inUse, unknown, if_false, Bool.false_eq_true]

section
variable {c : Cabin} {p : Person} (inUse : t.cau.cabins.get (v.nat 2) = some c)
  (known : t.persons.get (bindingOfRequest v).person = some p)
include inUse known

theorem bind_of_departed (departed : p.att.presence = .departed) : bind v t = refuse .departed t := by
  simp only [bind, period, inUse, known, departed, if_true, if_false, Bool.false_eq_true]

theorem bind_of_passed (present : p.att.presence ≠ .departed) : bind v t = completeBind (bindingOfRequest v) (v.nat 2) c t := by
  simp only [bind, period, inUse, known, present, if_false, Bool.false_eq_true]

end
end

/-! ### UNBIND (R115) -/

theorem unbind_of_unknown_cabin (unused : t.cau.cabins.get (v.nat 2) = none) : unbind v t = refuse .notFound t := by
  simp only [unbind, unused]

theorem unbind_of_unbound {c : Cabin} (inUse : t.cau.cabins.get (v.nat 2) = some c) (unbound : ∀ x ∈ c.bindings, x.person ≠ v.nat 1) :
    unbind v t = refuse .notFound t := by
  simp only [unbind, inUse]
  rw [if_neg (Cabin.bindingOf_not_isSome unbound)]

theorem unbind_of_bound {c : Cabin} {p : Person} (inUse : t.cau.cabins.get (v.nat 2) = some c)
    (bound : ∃ x ∈ c.bindings, x.person = v.nat 1) (known : t.persons.get (v.nat 1) = some p) :
    unbind v t = ({ status := .done, payload := .position (c.positionOf (v.nat 1)) },
      putPerson (v.nat 1) (p.withoutCabin (v.nat 2))
        (putCabin (v.nat 2) { c with bindings := c.bindings.filter (fun b => b.person ≠ v.nat 1) } t)) := by
  simp only [unbind, inUse]
  rw [if_pos ((c.bindingOf_isSome_iff _).2 bound)]
  exact congrArg _ (dropFromPerson_of_inUse known)

end

end Sys2Proof.Machine
end

section
/-! O41: BIND and UNBIND change the binding lists of cabin and person together (R111, R113-R115). -/
namespace Sys2Proof.Machine

/-- Settles O41: each request by the answers of its owner; a BIND into a full list is met by the state that the sweep leaves. -/
theorem bindAndUnbindChangeBothLists : Obligations.BindAndUnbindChangeBothLists := by
  intro s tag body v ready
  refine ⟨fun decoded => ?bind, fun decoded => ?unbind⟩
  case bind =>
    intro b replies inOrder
    have period (ordered : inOrder) : ¬ (bindingOfRequest v).emptyPeriod = true := fun empty =>
      (Binding.emptyPeriod_iff _).1 empty ordered
    refine ⟨fun disordered => ?_, fun ordered unused => ?_, fun ordered inUse unknown => ?_, fun c p ordered inUse known => ?_⟩
    · exact request_answered ready decoded (bind_of_emptyPeriod ((Binding.emptyPeriod_iff _).2 disordered))
    · exact request_answered ready decoded (bind_of_unknown_cabin (period ordered) unused)
    · obtain ⟨c, inUse⟩ := Option.ne_none_iff_exists'.1 inUse
      exact request_answered ready decoded (bind_of_unknown_person (t := heard .service s) (period ordered) inUse unknown)
    have passed (present : p.att.presence ≠ .departed) :
        bind v (heard .service s) = completeBind b (v.nat 2) c (heard .service s) :=
      bind_of_passed (t := heard .service s) (period ordered) inUse known present
    refine ⟨fun departed => ?_, fun present bound => ?_, fun present unbound room => ?_, fun present unbound full => ?_⟩
    · exact request_answered ready decoded (bind_of_departed (t := heard .service s) (period ordered) inUse known departed)
    · exact request_answered ready decoded ((passed present).trans (completeBind_of_bound bound))
    · have appends := (passed present).trans (completeBind_of_room unbound room)
      exact ⟨fun full => request_answered ready decoded (appends.trans (appendBinding_of_personFull inUse known full)),
        fun room => request_answered ready decoded (appends.trans (appendBinding_of_room inUse known room))⟩
    · have sweeps := (passed present).trans (completeBind_of_full unbound full)
      have inUse_after : (sweep (v.nat 2) c (heard .service s)).cau.cabins.get (v.nat 2) = some (c.swept s.scl.voyage) := by
        rw [sweep_cau]; exact Table.get_set_same _ _ _
      have known_after : (sweep (v.nat 2) c (heard .service s)).persons.get b.person = some p :=
        (sweep_persons_get_of_unbound _ _ _ unbound).trans known
      simp only [← Binding.expired_eq_elim]
      refine ⟨sweep (v.nat 2) c (heard .service s), sweep_persons_get _ _ _, sweep_frame _ _ _, fun full => ?_, fun room listed => ?_,
        fun room fits => ?_⟩
      · exact request_answered ready decoded (sweeps.trans (if_pos full))
      · have appends := sweeps.trans (if_neg (Nat.not_le.2 room))
        exact request_answered ready decoded (appends.trans (appendBinding_of_personFull inUse_after known_after listed))
      · have appends := sweeps.trans (if_neg (Nat.not_le.2 room))
        refine request_answered ready decoded ((appends.trans (appendBinding_of_room inUse_after known_after fits)).trans ?_)
        -- the append writes the record that the sweep has just written
        simp only [putPerson, putCabin, sweep_cau, Table.set_set]; rfl
  case unbind =>
    refine ⟨fun unused => ?_, fun c inUse => ⟨fun unbound => ?_, fun p bound known => ?_⟩⟩
    · exact request_answered ready decoded (unbind_of_unknown_cabin unused)
    · exact request_answered ready decoded (unbind_of_unbound (t := heard .service s) inUse unbound)
    · exact request_answered ready decoded (unbind_of_bound (t := heard .service s) inUse bound known)

end Sys2Proof.Machine
end

section
/-! The judging of passages: what one record changes (R152-R155), and how the fetch goes on after it (R149, R151). -/
namespace Sys2Proof.Machine

/-! ### The station's record under the operations that judging uses -/

section
variable (g : Fin 4) (s : State)

@[simp] theorem station_putStation (x : Station) : (putStation g x s).station g = x := by
  simp [State.station]

@[simp] theorem putStation_putStation (x y : Station) : putStation g y (putStation g x s) = putStation g y s := by
  simp [putStation]

@[simp] theorem station_send (p : Port) (f : Frame) : (send p f s).station g = s.station g := rfl

@[simp] theorem station_raise (c : Cause) (subject : Word32) (d : Detail) : (raise c subject d s).station g = s.station g := by
  simp only [State.station, raise_pru]

@[simp] theorem station_offerEvent (r : Record) : (offerEvent r s).station g = s.station g := by
  simp only [State.station, offerEvent_pru]

@[simp] theorem clearMark_stations : (clearMark s).pru.stations = s.pru.stations := by
  unfold clearMark; dsimp only; split
  · rw [raise_pru]
  · rfl

/-- A change of presence moves counts and marks, and leaves the stations. -/
@[simp] theorem changePresence_stations (n : Nat) (p : Person) (after : Presence) (stamp : Nat) (place : Option (Fin 4)) (irregular : Bool) :
    (changePresence n p after stamp place irregular s).pru.stations = s.pru.stations := by
  unfold changePresence; dsimp only
  (repeat' split) <;> simp only [depart_pru, clearMark_stations] <;> rfl

@[simp] theorem station_changePresence (n : Nat) (p : Person) (after : Presence) (stamp : Nat) (place : Option (Fin 4)) (irregular : Bool) :
    (changePresence n p after stamp place irregular s).station g = s.station g := by
  simp only [State.station, changePresence_stations]

end

/-- A lookup reads the ring and the persons alone (R6). -/
theorem lookup_congr {s t : State} (ring : t.crg = s.crg) (persons : t.persons = s.persons) (serial : Word32) :
    lookup serial t = lookup serial s := by
  simp only [lookup, ring, persons]

/-! ### The sequence (R152) and the mode (R153 step 1) -/

theorem gapOf_eq_elim (expected : Option Word16) (sequence : Word16) :
    gapOf expected sequence = expected.elim 0 (fun e => (sequence - e).toNat) := by
  cases expected <;> rfl

section
variable (g : Fin 4) (r : Passage) (d : Nat) (s : State)

/-- Taking a record writes the expected sequence into the station as it was, after the gap is reported. -/
theorem takeSequence_eq : takeSequence g r d s =
    putStation g { s.station g with expected := some (r.sequence + 1) }
      (if d = 0 then s else raise .sequenceGap (stationSubject g) (detail d) s) := by
  unfold takeSequence; dsimp only; split
  · rfl
  · rw [station_raise]

@[simp] theorem station_takeSequence :
    (takeSequence g r d s).station g = { s.station g with expected := some (r.sequence + 1) } := by
  rw [takeSequence_eq, station_putStation]

@[simp] theorem takeSequence_slc : (takeSequence g r d s).slc = s.slc := by
  rw [takeSequence_eq, putStation_slc]; split <;> simp

@[simp] theorem takeSequence_scl : (takeSequence g r d s).scl = s.scl := by
  rw [takeSequence_eq, putStation_scl]; split <;> simp

@[simp] theorem lookup_takeSequence (serial : Word32) : lookup serial (takeSequence g r d s) = lookup serial s := by
  rw [takeSequence_eq]; split
  · exact lookup_congr rfl rfl serial
  · exact lookup_congr (raise_crg ..) (raise_persons ..) serial

end

theorem modeRefusal_closed (inward : Bool) : modeRefusal .closed inward = some .refusedClosed := rfl

theorem modeRefusal_of_wrongWay {m : StationMode} {inward : Bool}
    (wrong : (m = .outbound ∧ inward = true) ∨ (m = .inbound ∧ inward = false)) : modeRefusal m inward = some .refusedWrongWay := by
  rcases wrong with ⟨rfl, rfl⟩ | ⟨rfl, rfl⟩ <;> rfl

theorem modeRefusal_eq_none {m : StationMode} {inward : Bool} (opened : m ≠ .closed)
    (rightWay : ¬ ((m = .outbound ∧ inward = true) ∨ (m = .inbound ∧ inward = false))) : modeRefusal m inward = none := by
  cases m with
  | closed => exact absurd rfl opened
  | twoWay => rfl
  | outbound => cases inward with
    | false => rfl
    | true => exact absurd (.inl ⟨rfl, rfl⟩) rightWay
  | inbound => cases inward with
    | false => exact absurd (.inr ⟨rfl, rfl⟩) rightWay
    | true => rfl

section
variable {g : Fin 4} {r : Passage} {s : State}

theorem judgeRecord_of_duplicate (behind : 32768 ≤ gapOf (s.station g).expected r.sequence) : judgeRecord g r s = (.duplicate, s) := by
  rw [judgeRecord, if_pos behind]

section
variable (ahead : gapOf (s.station g).expected r.sequence < 32768)
include ahead

theorem judgeRecord_of_modeRefusal {verdict : PassageVerdict} (refused : modeRefusal (s.station g).mode r.inward = some verdict) :
    judgeRecord g r s = (verdict, takeSequence g r (gapOf (s.station g).expected r.sequence) s) := by
  rw [judgeRecord, if_neg (Nat.not_le.2 ahead)]
  simp only [station_takeSequence, refused]

theorem judgeRecord_of_modePassed (passed : modeRefusal (s.station g).mode r.inward = none) :
    judgeRecord g r s = judgeCard g r (takeSequence g r (gapOf (s.station g).expected r.sequence) s) := by
  rw [judgeRecord, if_neg (Nat.not_le.2 ahead)]
  simp only [station_takeSequence, passed]

end

/-! ### The card and the presence (R153 steps 2 and 3, R154, R155) -/

theorem judgeCard_of_unknown (unknown : lookup r.serial s = none) : judgeCard g r s = (.refusedUnknown, s) := by
  simp only [judgeCard, unknown]

section
variable {f : Found} (found : lookup r.serial s = some f)
include found

theorem judgeCard_of_lost (lost : f.card.state = .lost) :
    judgeCard g r s = (.refusedLost, raise .lostCardPresented r.serial (detail 3 g.val) s) := by
  simp only [judgeCard, found, lost]

theorem judgeCard_of_departed (departed : f.card.state = .departed) :
    judgeCard g r s = (.refusedDeparted, raise .passageRefused r.serial (detail g.val) s) := by
  simp only [judgeCard, found, departed]

section
variable (live : f.card.state = .active ∨ f.card.state = .suspended)
include live

/-- R154: the transition leads to a presence. -/
theorem judgeCard_of_moved {after : Presence} (moves : transition f.person.att.presence r.inward f.person.att.final = .ok after) :
    judgeCard g r s = (.accepted, movePassage g r f after s) := by
  rcases live with active | suspended
  · simp only [judgeCard, found, active, moves]
  · simp only [judgeCard, found, suspended, moves]

/-- R155: the transition is an anomaly, and the presence stays. -/
theorem judgeCard_of_anomaly {reason : Nat} (unexpected : transition f.person.att.presence r.inward f.person.att.final = .error reason) :
    judgeCard g r s = (.acceptedWithNote, offerEvent (anomalyRecord g r f reason) s) := by
  rcases live with active | suspended
  · simp only [judgeCard, found, active, unexpected]
  · simp only [judgeCard, found, suspended, unexpected]

end
end
end

/-- A passage that changes presence is counted at the station as it stood, on the folio day as it stood (R154, R167). -/
theorem movePassage_eq (g : Fin 4) (r : Passage) (f : Found) (after : Presence) (s : State) :
    movePassage g r f after s = offerEvent (passageRecord g r f after) (putStation g ((s.station g).tallied s.scl.folioDay r.inward)
      (changePresence f.card.person f.person after (s.scl.voyage - r.age) (some g) false s)) := by
  rw [movePassage, station_changePresence, changePresence_scl]

/-! ### What judging leaves of the link and of the station's line -/

@[simp] theorem Station.tallied_attached (x : Station) (day : Nat) (inward : Bool) : (x.tallied day inward).attached = x.attached := by
  unfold Station.tallied; dsimp only; (repeat' split) <;> rfl

@[simp] theorem Station.tallied_shortSeen (x : Station) (day : Nat) (inward : Bool) : (x.tallied day inward).shortSeen = x.shortSeen := by
  unfold Station.tallied; dsimp only; (repeat' split) <;> rfl

/-- The link is as it was, and so is what the station's line says of it: the conditions of a fetch, but for the fetch that is open (R149). -/
def State.keepsLine (s : State) (g : Fin 4) (t : State) : Prop :=
  t.slc = s.slc ∧ (t.station g).attached = (s.station g).attached ∧ (t.station g).shortSeen = (s.station g).shortSeen

section
variable (g : Fin 4) (r : Passage) (s : State)

theorem movePassage_keepsLine (f : Found) (after : Presence) : s.keepsLine g (movePassage g r f after s) := by
  rw [movePassage_eq]
  simp [State.keepsLine]

/-- Judging by card raises a cause, offers a record, moves the person, or does nothing; none of these touches the line. -/
theorem judgeCard_keepsLine : s.keepsLine g (judgeCard g r s).2 := by
  have same : s.keepsLine g s := ⟨rfl, rfl, rfl⟩
  have raised (c : Cause) (d : Detail) : s.keepsLine g (raise c r.serial d s) := by simp [State.keepsLine]
  have offered (x : Record) : s.keepsLine g (offerEvent x s) := by simp [State.keepsLine]
  unfold judgeCard
  split
  next => exact same
  next f _ =>
    split
    next => exact raised _ _
    next => exact raised _ _
    next => exact same
    next =>
      split
      next after _ => exact movePassage_keepsLine g r s f after
      next => exact offered _

theorem judgeRecord_keepsLine : s.keepsLine g (judgeRecord g r s).2 := by
  have taken (d : Nat) : s.keepsLine g (takeSequence g r d s) := by simp [State.keepsLine]
  rcases Nat.lt_or_ge (gapOf (s.station g).expected r.sequence) 32768 with ahead | behind
  · cases mode : modeRefusal (s.station g).mode r.inward with
    | some verdict => rw [judgeRecord_of_modeRefusal ahead mode]; exact taken _
    | none =>
      rw [judgeRecord_of_modePassed ahead mode]
      obtain ⟨link, attached, short⟩ := judgeCard_keepsLine g r (takeSequence g r (gapOf (s.station g).expected r.sequence) s)
      obtain ⟨link', attached', short'⟩ := taken (gapOf (s.station g).expected r.sequence)
      exact ⟨link.trans link', attached.trans attached', short.trans short'⟩
  · rw [judgeRecord_of_duplicate behind]; exact ⟨rfl, rfl, rfl⟩

end

/-! ### The end of the fetch (R149, R151) -/

/-- VERDICTS goes to a station that is not DETACHED, and the next FETCH follows at once when the conditions of R149 hold. -/
theorem endFetch_eq (g : Fin 4) (done : List (Word16 × PassageVerdict)) (s : State) :
    endFetch g done s =
      let x := s.station g
      let sent := if x.attached = .detached then s else send (.station g) (.verdicts done) s
      if s.slc.service = .serving ∧ x.attached = .attached ∧ x.shortSeen = true
      then send (.station g) .fetch (putStation g { x with shortSeen := false, fetch := .waiting .toBegin } sent)
      else putStation g { x with fetch := .none } sent := by
  dsimp only
  have station_sent : (if (s.station g).attached = .detached then s else send (.station g) (.verdicts done) s).station g = s.station g := by
    split <;> rfl
  have slc_sent : (if (s.station g).attached = .detached then s else send (.station g) (.verdicts done) s).slc = s.slc := by
    split <;> rfl
  unfold endFetch judgeFetch startFetch State.wantsFetch Station.idle
  dsimp only
  simp only [station_putStation, putStation_putStation, putStation_slc, station_sent, slc_sent, decide_true, Bool.and_true, Bool.and_eq_true,
    decide_eq_true_eq, and_assoc]

/-- After work that keeps the line, the fetch ends by the link and the line as that work found them. -/
theorem endFetch_of_keepsLine {g : Fin 4} {s t : State} (kept : s.keepsLine g t) (done : List (Word16 × PassageVerdict)) :
    endFetch g done t =
      let x := s.station g
      let y := t.station g
      let sent := if x.attached = .detached then t else send (.station g) (.verdicts done) t
      if s.slc.service = .serving ∧ x.attached = .attached ∧ x.shortSeen = true
      then send (.station g) .fetch (putStation g { y with shortSeen := false, fetch := .waiting .toBegin } sent)
      else putStation g { y with fetch := .none } sent := by
  obtain ⟨link, attached, short⟩ := kept
  dsimp only
  rw [← link, ← attached, ← short]; exact endFetch_eq g done t

section
variable {s : State} {g : Fin 4} {r : Passage} {done : List (Word16 × PassageVerdict)} (settled : s.boundary = none)
include settled

theorem exec_judgingAPassage_of_more {rest : List Passage} (more : rest ≠ []) (judging : (s.station g).fetch = .judging (r :: rest) done) :
    exec (.judgingAPassage g) s = .next (putStation g { (judgeRecord g r s).2.station g with
      fetch := .judging rest (done ++ [(r.sequence, (judgeRecord g r s).1)]) } (judgeRecord g r s).2) := by
  change execJudgingAPassage g s = _
  cases rest with
  | nil => exact absurd rfl more
  | cons next rest => simp only [execJudgingAPassage, settle_none settled, judging]

theorem exec_judgingAPassage_of_last (judging : (s.station g).fetch = .judging [r] done) :
    exec (.judgingAPassage g) s = .next (endFetch g (done ++ [(r.sequence, (judgeRecord g r s).1)]) (judgeRecord g r s).2) := by
  change execJudgingAPassage g s = _
  simp only [execJudgingAPassage, settle_none settled, judging]

end

end Sys2Proof.Machine
end

section
/-! O46: one passage judged by sequence, mode, card and presence, and what follows the last one (R149, R151-R156, R167). -/
namespace Sys2Proof.Machine

/-- Settles O46: the command by whether a record follows, with the fetch ended by `endFetch_eq`; the verdict by the stage that gives it. -/
theorem passagesAreJudged : Obligations.PassagesAreJudged := by
  refine ⟨fun s g r rest done settled judging => ⟨fun more => ?more, fun last => ?last⟩, fun s g r => ?record⟩
  case more => exact exec_judgingAPassage_of_more settled more judging
  case last =>
    subst last
    exact (exec_judgingAPassage_of_last settled judging).trans
      (congrArg _ (endFetch_of_keepsLine (judgeRecord_keepsLine g r s) _))
  case record =>
    intro x d y t wrongWay judged
    have distance : gapOf (s.station g).expected r.sequence = d := gapOf_eq_elim ..
    have taken : takeSequence g r (gapOf (s.station g).expected r.sequence) s = t := by rw [distance]; exact takeSequence_eq g r d s
    refine ⟨fun behind => judgeRecord_of_duplicate (distance ▸ behind), fun ahead => ?_⟩
    have ahead : gapOf (s.station g).expected r.sequence < 32768 := distance ▸ ahead
    have refused {verdict : PassageVerdict} (mode : modeRefusal x.mode r.inward = some verdict) : judged verdict t :=
      (judgeRecord_of_modeRefusal ahead mode).trans (by rw [taken])
    refine ⟨fun closed => refused (closed ▸ modeRefusal_closed _), fun wrong => refused (modeRefusal_of_wrongWay wrong),
      fun opened rightWay => ?_⟩
    have byCard : judgeRecord g r s = judgeCard g r t :=
      (judgeRecord_of_modePassed ahead (modeRefusal_eq_none opened rightWay)).trans (by rw [taken])
    have lookup_t : lookup r.serial t = lookup r.serial s := taken ▸ lookup_takeSequence ..
    have station_t : t.station g = y := station_putStation ..
    have scl_t : t.scl = s.scl := taken ▸ takeSequence_scl ..
    rw [← lookup_t]
    refine ⟨fun unknown => byCard.trans (judgeCard_of_unknown unknown), fun f found => ?_⟩
    intro p
    refine ⟨fun lost => byCard.trans (judgeCard_of_lost found lost), fun departed => byCard.trans (judgeCard_of_departed found departed),
      fun live => ?_⟩
    intro anomaly moves
    have moved (after : Presence) (leads : transition p.att.presence r.inward p.att.final = .ok after) : moves after := by
      refine byCard.trans ((judgeCard_of_moved found live leads).trans ?_)
      rw [movePassage_eq, station_t, scl_t]; rfl
    have noted (reason : Nat) (unexpected : transition p.att.presence r.inward p.att.final = .error reason) : anomaly reason :=
      byCard.trans (judgeCard_of_anomaly found live unexpected)
    -- the table of R154 and R155, presence by presence
    refine ⟨fun expected inward => moved _ ?_, fun expected out => noted _ ?_, fun aboard inward => noted _ ?_,
      fun aboard out stays => moved _ ?_, fun aboard out final => moved _ ?_, fun ashore inward => moved _ ?_, fun ashore out => noted _ ?_⟩
    · rw [expected, inward]; rfl
    · rw [expected, out]; rfl
    · rw [aboard, inward]; rfl
    · rw [aboard, out, stays]; rfl
    · rw [aboard, out, final]; rfl
    · rw [ashore, inward]; rfl
    · rw [ashore, out]; rfl

end Sys2Proof.Machine
end

section
/-! The journal as the host reads and frees it: the values of a decoded body, distances and slots of sequences, and the answers to DRAIN, NEXT and
RELEASE, a lemma for each branch of R178 to R181. -/
namespace Sys2Proof.Machine

/-! ### Values of a decoded body -/

theorem Field.fits_of_decode {f : Field} {bytes : List Byte} {x : Option Int} (decoded : f.decode bytes = some x) : f.fits x = true := by
  unfold Field.decode at decoded
  by_cases optional : f.optional = true
  · rw [if_pos optional] at decoded
    cases x with
    | none => exact optional
    | some y =>
      cases bytes with
      | nil => simp at decoded
      | cons flag rest =>
        dsimp only at decoded
        split at decoded
        next => simp at decoded
        next =>
          obtain ⟨-, admitted, rfl⟩ : flag = 1 ∧ f.form.admits (f.form.read rest) = true ∧ f.form.read rest = y := by simpa using decoded
          exact admitted
  · rw [if_neg optional] at decoded
    obtain ⟨admitted, rfl⟩ : f.form.admits (f.form.read bytes) = true ∧ some (f.form.read bytes) = x := by simpa using decoded
    exact admitted

/-- What a field table decodes are values of its fields (R190 test 4). -/
theorem fitsAll_of_decodeFieldsFrom {fields : List Field} {i : Nat} {bytes : List Byte} {v : Values}
    (decoded : decodeFieldsFrom i fields bytes = .ok v) : fitsAll fields v = true := by
  induction fields generalizing i bytes v with
  | nil => cases decoded; rfl
  | cons f fields ih =>
    unfold decodeFieldsFrom at decoded
    split at decoded
    next => cases decoded
    next x first =>
      split at decoded
      next => cases decoded
      next vs rest =>
        cases decoded
        simp only [fitsAll, Field.fits_of_decode first, ih rest, Bool.and_self]

theorem fitsAll_of_decodeFields {fields : List Field} {body : List Byte} {v : Values} (decoded : decodeFields fields body = .ok v) :
    fitsAll fields v = true := by
  unfold decodeFields at decoded
  split at decoded
  next => exact fitsAll_of_decodeFieldsFrom decoded
  next => cases decoded

/-- DRAIN asks for at least one record (chapter 9.4). -/
theorem drainFields_count_pos {body : List Byte} {v : Values} (decoded : decodeFields drainFields body = .ok v) : 0 < v.nat 2 := by
  have fits := fitsAll_of_decodeFields decoded
  match v with
  | [_, some count] =>
    have : 1 ≤ count := by simp [fitsAll, drainFields, Field.fits, Form.admits] at fits; omega
    simp [Values.nat, Values.int, Values.opt]; omega
  | [] | [_] | [_, none] | _ :: _ :: _ :: _ => simp [fitsAll, drainFields, Field.fits] at fits

/-! ### Distances and slots (R171) -/

section
variable {j : Jnl}

/-- Short of a full turn, a later sequence is as much further ahead. -/
theorem Jnl.ahead_add (position : Word32) {k : Nat} (short : j.ahead position + k < 4294967296) :
    j.ahead (position + BitVec.ofNat 32 k) = j.ahead position + k := by
  simp only [Jnl.ahead, BitVec.toNat_sub, BitVec.toNat_add, BitVec.toNat_ofNat] at *
  omega

/-- The sequence at a distance from the release point. -/
theorem Jnl.released_add_ahead (position : Word32) : j.released + BitVec.ofNat 32 (j.ahead position) = position := by
  rw [Jnl.ahead, BitVec.ofNat_toNat, BitVec.setWidth_eq, BitVec.add_comm, BitVec.sub_add_cancel]

/-- The next sequence is the one whose distance is the used count. -/
theorem Jnl.ahead_eq_used_iff (position : Word32) : j.ahead position = j.used ↔ position = j.next := by
  refine ⟨fun same => ?_, fun same => same ▸ rfl⟩
  rw [← j.released_add_ahead position, same, Jnl.used, j.released_add_ahead]

/-- Slots follow one another around the ring, which 2^32 is a multiple of. -/
theorem slotOf_add (n : Word32) (i : Nat) : slotOf (n + BitVec.ofNat 32 i) = (slotOf n + i) % 16384 := by
  simp only [slotOf, Config.journalSlots, BitVec.toNat_add, BitVec.toNat_ofNat]
  omega

/-! ### Frames of a drain (R178-R180) -/

theorem Jnl.recordsFrom_eq_filterMap (j : Jnl) (k : Nat) (position : Word32) :
    j.recordsFrom k position = (List.range k).filterMap (fun d => j.recordAt (position + BitVec.ofNat 32 d)) := by
  induction k generalizing position with
  | zero => rfl
  | succ k ih =>
    have shift (d : Nat) : position + BitVec.ofNat 32 (d + 1) = position + 1 + BitVec.ofNat 32 d := by
      rw [Nat.add_comm, BitVec.ofNat_add, BitVec.add_assoc]; rfl
    have here : position + BitVec.ofNat 32 0 = position := BitVec.add_zero position
    rw [List.range_succ_eq_map, List.filterMap_cons, List.filterMap_map, Jnl.recordsFrom, ih, here]
    simp only [Function.comp_def, Nat.succ_eq_add_one, shift]
    cases j.recordAt position <;> rfl

theorem Jnl.carried_eq (j : Jnl) (after : Word32) :
    j.carried after = { j with delivered := if j.ahead j.delivered < j.ahead after then after else j.delivered } := by
  unfold Jnl.carried; split <;> rfl

section
variable {position : Word32} {remaining : Nat}

/-- A frame at a held record carries one record at least. -/
theorem Jnl.frameCount_pos (held : j.ahead position < j.used) (asked : 0 < remaining) : 0 < j.frameCount position remaining := by
  simp only [Jnl.frameCount]; omega

/-- A drain ends with the last record asked for, or with the last one held. -/
theorem Jnl.frame_ends (within : j.used ≤ 16384) (held : j.ahead position < j.used) :
    (decide (remaining ≤ j.frameCount position remaining) || decide (j.used ≤ j.ahead position + j.frameCount position remaining))
      = decide (remaining = j.frameCount position remaining ∨ position + BitVec.ofNat 32 (j.frameCount position remaining) = j.next) := by
  have bounds : j.frameCount position remaining ≤ remaining ∧ j.ahead position + j.frameCount position remaining ≤ j.used := by
    simp only [Jnl.frameCount]; omega
  have reaches := j.ahead_add position (k := j.frameCount position remaining) (by omega)
  rw [← Bool.decide_or, decide_eq_decide, ← Jnl.ahead_eq_used_iff, reaches]
  omega

theorem drainFrame_eq {s : State} (within : s.jnl.used ≤ 16384) (held : s.jnl.ahead position < s.jnl.used) (asked : 0 < remaining)
    (last : Word32) :
    drainFrame position remaining last s =
      let j := s.jnl
      let k := j.frameCount position remaining
      let after := position + BitVec.ofNat 32 k
      let fin := decide (remaining = k ∨ after = j.next)
      ({ status := .done, payload := .records ((List.range k).filterMap (fun d => j.recordAt (position + BitVec.ofNat 32 d))) fin },
        { s with jnl := { j with delivered := if j.ahead j.delivered < j.ahead after then after else j.delivered },
                 slc := { s.slc with transfer := if fin then none else some (.drain after (remaining - k) (after - 1)), windowMs := none } }) := by
  have carries := (Jnl.frameCount_pos held asked).ne'
  simp only [drainFrame, Jnl.frame_ends within held, if_neg carries, Jnl.recordsFrom_eq_filterMap, Jnl.carried_eq, setTransfer]

end
end

/-! ### DRAIN and NEXT (R178, R180) -/

section
variable {v : Values} {t : State}

theorem drain_of_held (held : t.jnl.ahead (v.word 1) < t.jnl.used) : drain v t = drainFrame (v.word 1) (v.nat 2) (v.word 1) t := by
  rw [drain, if_pos held]

theorem drain_of_not_held (beyond : t.jnl.used ≤ t.jnl.ahead (v.word 1)) :
    drain v t = ({ status := .range, payload := .pointers t.jnl.released t.jnl.next }, t) := by
  rw [drain, if_neg (Nat.not_lt.2 beyond)]

end

/-- NEXT in an open drain is answered with the drain's next frame, the service window stopped (R180, R191). -/
theorem exec_next_of_drain {s : State} (idle : s.boundary = none) (free : s.slc.exchange = false) {position : Word32} {remaining : Nat}
    {last : Word32} (opened : s.slc.transfer = some (.drain position remaining last)) {tag : Byte} {status : Status} {payload : Payload}
    {u : State} (frame : drainFrame position remaining last (stopWindow (heard .service s)) = ({ status := status, payload := payload }, u)) :
    exec (.next tag []) s = .next (answered 0x70 tag status payload u) := by
  have unfolded : exec (.next tag []) s = execNext tag [] s := rfl
  simp only [unfolded, execNext, received_none idle, heard_slc, opened, transferRequest, free, judgeFields_nil, execute_eq, nextFrame, frame,
    Bool.false_eq_true, if_false]

/-! ### RELEASE (R181) -/

/-- A filter by number leaves the numbers it admits as they were, and frees the others. -/
theorem Table.get_filter {α : Type} (admits : Nat → Bool) (t : Table α) (k : Nat) :
    Table.get (t.filter (fun e => admits e.1)) k = if admits k then t.get k else none := by
  induction t with
  | nil => simp
  | cons e t ih =>
    obtain ⟨n, a⟩ := e
    rw [List.filter_cons, Table.get_cons]
    by_cases here : n = k
    · subst here
      cases admitted : admits n <;> simp [Table.get_cons, ih, admitted]
    · rw [if_neg here, ← ih]
      split
      · rw [Table.get_cons, if_neg here]
      · rfl

section
variable (j : Jnl)

/-- The slots of the first n sequences from the release point are freed, and those of the later ones are left. -/
theorem Jnl.release_ring_get (n : Nat) {i : Nat} (inRing : i < 16384) :
    (j.release n).ring.get (slotOf (j.released + BitVec.ofNat 32 i)) =
      if n ≤ i then j.recordAt (j.released + BitVec.ofNat 32 i) else none := by
  have distance : (slotOf (j.released + BitVec.ofNat 32 i) + (16384 - slotOf j.released)) % 16384 = i := by
    have bound : slotOf j.released < 16384 := Nat.mod_lt _ (by decide)
    rw [slotOf_add]; omega
  have kept := Table.get_filter (fun slot => decide (n ≤ (slot + (16384 - slotOf j.released)) % 16384)) j.ring
    (slotOf (j.released + BitVec.ofNat 32 i))
  simp only [distance, decide_eq_true_eq] at kept
  exact kept

theorem Jnl.release_released (position : Word32) : (j.release (j.ahead position + 1)).released = position + 1 := by
  rw [Jnl.release, BitVec.ofNat_add, ← BitVec.add_assoc, j.released_add_ahead]; rfl

theorem Jnl.release_used {n : Nat} (held : n ≤ j.used) : (j.release n).used = j.used - n := by
  simp only [Jnl.used, Jnl.ahead, Jnl.release, BitVec.toNat_sub, BitVec.toNat_add, BitVec.toNat_ofNat] at *
  omega

end

section
variable {v : Values} {t : State}

theorem release_of_delivered (delivered : t.jnl.ahead (v.word 1) < t.jnl.ahead t.jnl.delivered)
    (inOrder : t.jnl.ahead t.jnl.delivered ≤ t.jnl.used) :
    release v t = ({ status := .done, payload := .released (v.word 1 + 1) (t.jnl.used - (t.jnl.ahead (v.word 1) + 1)) },
      { t with jnl := { t.jnl with released := v.word 1 + 1, ring := (t.jnl.release (t.jnl.ahead (v.word 1) + 1)).ring } }) := by
  have pointer := t.jnl.release_released (v.word 1)
  have used : (t.jnl.release (t.jnl.ahead (v.word 1) + 1)).used = _ := t.jnl.release_used (by omega)
  simp only [release, if_pos delivered, used, ← pointer]
  rfl

theorem release_of_undelivered (undelivered : t.jnl.ahead t.jnl.delivered ≤ t.jnl.ahead (v.word 1)) (ahead : t.jnl.ahead (v.word 1) < 2147483648) :
    release v t = ({ status := .range, payload := .pointers t.jnl.released t.jnl.delivered }, t) := by
  simp only [release, if_neg (Nat.not_lt.2 undelivered), if_pos ahead]

/-- A sequence behind the release point has been released before, and stays so. -/
theorem release_of_behind (undelivered : t.jnl.ahead t.jnl.delivered ≤ t.jnl.ahead (v.word 1)) (behind : 2147483648 ≤ t.jnl.ahead (v.word 1)) :
    release v t = ({ status := .done, payload := .released t.jnl.released t.jnl.used }, t) := by
  simp only [release, if_neg (Nat.not_lt.2 undelivered), if_neg (Nat.not_lt.2 behind)]

end

end Sys2Proof.Machine
end

section
/-! O48: what DRAIN and NEXT read, and what RELEASE frees (R178-R181). -/
namespace Sys2Proof.Machine

/-- Settles O48: each request by the answers of its owner; a drain's frame by `drainFrame_eq`, and the slots that a RELEASE frees by
`Jnl.release_ring_get`. -/
theorem drainReadsAndReleaseFrees : Obligations.DrainReadsAndReleaseFrees := by
  refine fun s tag body v => ⟨fun ready decoded within => ⟨fun held => ?drain, fun beyond => ?drainRange⟩,
    fun position remaining last idle free opened within held asked => ?next, fun ready decoded => ⟨?range, ?behind, ?done⟩⟩
  case drain =>
    exact request_answered ready decoded
      ((drain_of_held (t := heard .service s) held).trans (drainFrame_eq (s := heard .service s) within held (drainFields_count_pos decoded) _))
  case drainRange => exact request_answered ready decoded (drain_of_not_held (t := heard .service s) beyond)
  case next => exact exec_next_of_drain idle free opened (drainFrame_eq (s := stopWindow (heard .service s)) within held asked last)
  case range => exact fun undelivered ahead => request_answered ready decoded (release_of_undelivered (t := heard .service s) undelivered ahead)
  case behind => exact fun undelivered behind => request_answered ready decoded (release_of_behind (t := heard .service s) undelivered behind)
  case done =>
    intro delivered ⟨inOrder, inRing, _⟩
    refine ⟨_, request_answered ready decoded (release_of_delivered (t := heard .service s) delivered inOrder),
      fun i used freed => ?_, fun i used left => ?_⟩
    · exact (s.jnl.release_ring_get _ (used.trans_le inRing)).trans (if_neg (Nat.not_le.2 (Nat.lt_succ_of_le freed)))
    · exact (s.jnl.release_ring_get _ (used.trans_le inRing)).trans (if_pos left)

end Sys2Proof.Machine
end

section
/-! The causes of the ATU: what a change of one entry does, ATTN following it, and the choice that SENSE makes (R195-R198). -/
namespace Sys2Proof.Machine

/-! ### A change of one cause (R196) -/

/-- The ATU with one cause's entry replaced, ATTN following. -/
def Atu.put (a : Atu) (i : Fin 25) (e : CauseEntry) : Atu := Atu.withCauses (a.causes.set i e)

section
variable (a : Atu) (i : Fin 25) (e : CauseEntry)

@[simp] theorem Atu.put_same : (a.put i e).causes[i] = e := Vector.getElem_set_self ..

theorem Atu.put_other (k : Fin 25) (other : k ≠ i) : (a.put i e).causes[k] = a.causes[k] :=
  Vector.getElem_set_ne i.isLt k.isLt (Fin.val_ne_of_ne other.symm)

theorem Atu.withCauses_attn_iff (v : Vector CauseEntry 25) : (Atu.withCauses v).attn = true ↔ ∃ k : Fin 25, v[k].pending ≠ none := by
  simp [Atu.withCauses, Vector.any_iff_exists, Option.isSome_iff_ne_none, Fin.exists_iff]

theorem Atu.put_attn_iff : (a.put i e).attn = true ↔ ∃ k : Fin 25, (a.put i e).causes[k].pending ≠ none := Atu.withCauses_attn_iff _

end

/-! ### A raise (R195) -/

section
variable {x : Word32} {d : Detail} {now : Nat}

@[simp] theorem CauseEntry.raised_priority (e : CauseEntry) : (e.raised x d now).priority = e.priority := by
  unfold CauseEntry.raised; split <;> rfl

theorem CauseEntry.raised_of_none {e : CauseEntry} (idle : e.pending = none) :
    (e.raised x d now).pending = some { subject := x, detail := d, first := now, count := 1 } := by
  simp only [CauseEntry.raised, idle]

theorem CauseEntry.raised_of_some {e : CauseEntry} {p : PendingRecord} (pending : e.pending = some p) :
    (e.raised x d now).pending = some { p with count := min 255 (p.count + 1) } := by
  simp only [CauseEntry.raised, pending]

theorem CauseEntry.raised_pending_ne_none (e : CauseEntry) : (e.raised x d now).pending ≠ none := by
  cases pending : e.pending with
  | none => simp [CauseEntry.raised_of_none pending]
  | some p => simp [CauseEntry.raised_of_some pending]

theorem raise_of_loud {c : Cause} {s : State} (loud : (s.cause c).priority ≠ 0) :
    raise c x d s = { s with atu := s.atu.put c.place ((s.cause c).raised x d s.scl.voyage) } := by
  rw [raise, if_neg loud]; rfl

end

/-! ### The choice of a cause (R197) -/

/-- What SENSE chooses from causes numbered from n on: of those pending the highest priority, and the first of that priority. -/
def Chosen.leads (c : Chosen) (n : Nat) (es : List CauseEntry) : Prop :=
  ∃ i, c.number = n + i ∧ es[i]? = some { priority := c.priority, pending := some c.record }
    ∧ ∀ k e, es[k]? = some e → e.pending ≠ none → e.priority < c.priority ∨ (e.priority = c.priority ∧ i ≤ k)

section
variable {c : Chosen} {n : Nat} {e : CauseEntry} {es : List CauseEntry}

/-- A head that is not pending, or is of lower priority, leaves the choice to the tail. -/
theorem Chosen.leads_cons_of_tail (lower : e.pending ≠ none → e.priority < c.priority) (leads : c.leads (n + 1) es) : c.leads n (e :: es) := by
  obtain ⟨i, number, entry, first⟩ := leads
  refine ⟨i + 1, by omega, entry, fun k x at_k pending => ?_⟩
  cases k with
  | zero => cases at_k; exact .inl (lower pending)
  | succ k => exact (first k x at_k pending).imp_right (And.imp_right Nat.succ_le_succ)

/-- A pending head that no pending cause of the tail exceeds is chosen. -/
theorem Chosen.leads_cons_of_head {p : PendingRecord} (here : e.pending = some p)
    (highest : ∀ x ∈ es, x.pending ≠ none → x.priority ≤ e.priority) :
    Chosen.leads { number := n, priority := e.priority, record := p } n (e :: es) := by
  refine ⟨0, rfl, by rw [← here]; rfl, fun k x at_k pending => ?_⟩
  cases k with
  | zero => cases at_k; exact .inr ⟨rfl, le_rfl⟩
  | succ k => exact (Nat.lt_or_eq_of_le (highest x (List.mem_of_getElem? at_k) pending)).imp_right fun equal => ⟨equal, Nat.zero_le _⟩

/-- Nothing that is pending has a higher priority than the choice. -/
theorem Chosen.leads_highest (leads : c.leads n es) : ∀ x ∈ es, x.pending ≠ none → x.priority ≤ c.priority := by
  obtain ⟨i, _, _, first⟩ := leads
  intro x listed pending
  obtain ⟨k, at_k⟩ := List.getElem?_of_mem listed
  exact (first k x at_k pending).elim Nat.le_of_lt fun ⟨equal, _⟩ => equal.le

/-- Two choices from one list bound each other's priority and place. -/
theorem Chosen.leads_unique {c' : Chosen} (leads : c.leads n es) (leads' : c'.leads n es) : c = c' := by
  obtain ⟨i, number, entry, first⟩ := leads
  obtain ⟨i', number', entry', first'⟩ := leads'
  have below : c'.priority < c.priority ∨ (c'.priority = c.priority ∧ i ≤ i') := first i' _ entry' (Option.some_ne_none _)
  have below' : c.priority < c'.priority ∨ (c.priority = c'.priority ∧ i' ≤ i) := first' i _ entry (Option.some_ne_none _)
  obtain rfl : i = i' := by omega
  cases c; cases c'
  simp_all only [Option.some.injEq, CauseEntry.mk.injEq]

theorem chooseCause_eq_none_iff : chooseCause n es = none ↔ ∀ e ∈ es, e.pending = none := by
  induction es generalizing n with
  | nil => simp [chooseCause]
  | cons e es ih =>
    rw [List.forall_mem_cons, ← ih (n := n + 1), chooseCause]
    split
    next idle => simp [idle]
    next pending _ => simp [pending]
    next pending _ => split <;> simp [pending]

/-- By induction on the causes: of the head and the tail's choice, `chooseCause` keeps the one that leads. -/
theorem leads_of_chooseCause (chosen : chooseCause n es = some c) : c.leads n es := by
  induction es generalizing n c with
  | nil => cases chosen
  | cons e es ih =>
    rw [chooseCause] at chosen
    split at chosen
    next idle => exact Chosen.leads_cons_of_tail (absurd idle) (ih chosen)
    next p pending alone =>
      cases chosen
      exact Chosen.leads_cons_of_head pending fun x listed raised => absurd (chooseCause_eq_none_iff.1 alone x listed) raised
    next p t pending tail =>
      split at chosen
      next lower => cases chosen; exact Chosen.leads_cons_of_tail (fun _ => lower) (ih tail)
      next higher =>
        cases chosen
        exact Chosen.leads_cons_of_head pending fun x listed raised =>
          (Chosen.leads_highest (ih tail) x listed raised).trans (Nat.le_of_not_lt higher)

theorem chooseCause_eq_some_iff : chooseCause n es = some c ↔ c.leads n es := by
  refine ⟨leads_of_chooseCause, fun leads => ?_⟩
  cases chosen : chooseCause n es with
  | none =>
    obtain ⟨i, _, entry, _⟩ := leads
    cases chooseCause_eq_none_iff.1 chosen _ (List.mem_of_getElem? entry)
  | some t => rw [Chosen.leads_unique leads (leads_of_chooseCause chosen)]

end

/-- The choice from the ATU's table, by the places of the causes. -/
theorem Chosen.leads_causes_iff (a : Atu) (c : Chosen) : c.leads 1 a.causes.toList ↔
    ∃ i : Fin 25, c.number = i.val + 1 ∧ a.causes[i].pending = some c.record ∧ a.causes[i].priority = c.priority
      ∧ ∀ k : Fin 25, a.causes[k].pending ≠ none → a.causes[k].priority < c.priority ∨ (a.causes[k].priority = c.priority ∧ i ≤ k) := by
  have at_place (k : Fin 25) : a.causes.toList[k.val]? = some a.causes[k] := by simp
  have place_of {k : Nat} {e : CauseEntry} (at_k : a.causes.toList[k]? = some e) : ∃ j : Fin 25, j.val = k ∧ a.causes[j] = e := by
    have inTable : k < 25 := by simpa using (List.getElem?_eq_some_iff.1 at_k).1
    exact ⟨⟨k, inTable⟩, rfl, Option.some.inj ((at_place ⟨k, inTable⟩).symm.trans at_k)⟩
  constructor
  · rintro ⟨n, number, entry, first⟩
    obtain ⟨i, rfl, here⟩ := place_of entry
    exact ⟨i, by omega, by rw [here], by rw [here], fun k => first k _ (at_place k)⟩
  · rintro ⟨i, number, record, priority, first⟩
    refine ⟨i, by omega, by rw [at_place, ← record, ← priority], fun k e at_k => ?_⟩
    obtain ⟨j, rfl, rfl⟩ := place_of at_k
    exact first j

/-! ### SENSE and SET PRIORITY at the ATU (R197, R198) -/

theorem placeOf_succ (i : Fin 25) : placeOf (i.val + 1) = i := Fin.ext (Nat.mod_eq_of_lt i.isLt)

section
variable {t : State} {i : Fin 25}

theorem sense_of_none (v : Values) (silent : t.atu.chosen = none) : sense v t = ({ status := .done, payload := .noCause }, t) := by
  simp only [sense, silent]

theorem sense_of_some (v : Values) {c : Chosen} (chosen : t.atu.chosen = some c) (number : c.number = i.val + 1) :
    sense v t = ({ status := .done, payload := .cause c.number c.priority c.record },
      { t with atu := t.atu.put i { t.atu.causes[i] with pending := none } }) := by
  simp only [sense, chosen, number, changeCause, placeOf_succ, Atu.put]

theorem setPriority_of_named {v : Values} (named : v.nat 1 = i.val + 1) :
    setPriority v t = ({ status := .done, payload := .priority t.atu.causes[i].priority },
      { t with atu := t.atu.put i (t.atu.causes[i].withPriority (v.nat 2)) }) := by
  simp only [setPriority, named, changeCause, Atu.priorityOf, placeOf_succ, Atu.put]

end

end Sys2Proof.Machine
end

section
/-! O23: what a raise makes of its cause, and what it leaves (R195, R196). -/
namespace Sys2Proof.Machine

/-- Settles O23: a raise of a cause of priority above 0 puts the raised entry in its place, and ATTN follows that entry. -/
theorem raiseMakesOrCountsARecord : Obligations.RaiseMakesOrCountsARecord := by
  refine fun s c subject d => ⟨fun _ _ => Cause.place_inj, fun silenced => raise_silenced silenced subject d, fun loud => ?_⟩
  have same := Atu.put_same s.atu c.place ((s.cause c).raised subject d s.scl.voyage)
  refine ⟨_, raise_of_loud loud, ?attn, fun x other => ?others, ?priority, fun idle => ?new, fun p pending => ?counted⟩
  case attn => exact (Atu.put_attn_iff ..).2 ⟨c.place, by rw [same]; exact CauseEntry.raised_pending_ne_none _⟩
  case others => exact Atu.put_other _ _ _ _ (mt Cause.place_inj other)
  case priority => rw [same]; exact CauseEntry.raised_priority _
  case new => rw [same]; exact CauseEntry.raised_of_none idle
  case counted => rw [same]; exact CauseEntry.raised_of_some pending

end Sys2Proof.Machine
end

section
/-! O51: which cause SENSE takes, and what SENSE and SET PRIORITY change (R196-R198). -/
namespace Sys2Proof.Machine

/-- Settles O51: the choice by `chooseCause_eq_some_iff`, each request by the answer of its owner. -/
theorem senseTakesTheFirstCause : Obligations.SenseTakesTheFirstCause := by
  refine ⟨fun a => ⟨chooseCause_eq_none_iff, fun c => chooseCause_eq_some_iff.trans (c.leads_causes_iff a)⟩,
    fun s tag body v ready => ⟨fun u idle taken => ?busy, fun silent => ?none, fun c i chosen number => ?sense, fun decoded i named => ?set⟩⟩
  case busy => exact congrArg Host.Outcome.next (hostRequest_busy idle taken)
  case none => exact request_answered ready rfl (sense_of_none (t := heard .service s) [] silent)
  case sense =>
    refine ⟨_, ?_, Atu.put_same .., Atu.put_other _ _ _, Atu.put_attn_iff ..⟩
    exact (if_pos rfl).trans (request_answered ready rfl (sense_of_some (t := heard .service s) [] chosen number))
  case set =>
    refine ⟨_, ?_, Atu.put_same .., Atu.put_other _ _ _, Atu.put_attn_iff ..⟩
    exact (if_neg (by decide)).trans (request_answered ready decoded (setPriority_of_named (t := heard .service s) named))

end Sys2Proof.Machine
end

section
/-! The laws that every step keeps, as one relation between two states, and the rules by which a change of one part of the state keeps them. -/
namespace Sys2Proof.Machine

/-! ### What the laws speak of -/

/-- The parts of the state that the laws speak of. -/
structure LawData where
  atu     : Atu
  jnl     : Jnl
  crg     : Crg
  persons : Table Person
  folios  : Table Folio
  tills   : Vector Till 128
  cabins  : Table Cabin
  nodes   : Fin 8 → Table Node
  counts  : Vector Nat 16
  missing : Nat

/-- What the laws say of a state depends on these parts of it alone. -/
def State.lawData (s : State) : LawData :=
  { atu := s.atu, jnl := s.jnl, crg := s.crg, persons := s.persons, folios := s.fst.folios, tills := s.chu.tills, cabins := s.cau.cabins,
    nodes := fun i => s.lscs[i].nodes, counts := s.pru.counts, missing := s.pru.missingCount }

/-- Every law that holds of the first state holds of the second. -/
structure Keeps (s t : State) : Prop where
  attention : s.atu.lawful = true → t.atu.lawful = true
  journal   : s.jnl.lawful → t.jnl.lawful
  tables    : s.canonical = true → t.canonical = true
  folios    : s.folioLaw → t.folioLaw
  presence  : s.presenceLaw ∧ s.departureLaw → t.presenceLaw ∧ t.departureLaw
  cabins    : s.bindingLaw ∧ s.pollLaw → t.bindingLaw ∧ t.pollLaw
  ring      : s.crg.lawful → t.crg.lawful

theorem Keeps.refl (s : State) : Keeps s s := ⟨id, id, id, id, id, id, id⟩

theorem Keeps.trans {s t u : State} (first : Keeps s t) (second : Keeps t u) : Keeps s u where
  attention := second.attention ∘ first.attention
  journal := second.journal ∘ first.journal
  tables := second.tables ∘ first.tables
  folios := second.folios ∘ first.folios
  presence := second.presence ∘ first.presence
  cabins := second.cabins ∘ first.cabins
  ring := second.ring ∘ first.ring

/-- Changes made one after another keep the laws when each of them does. -/
theorem Keeps.foldl {α : Type} {f : State → α → State} (each : ∀ s a, Keeps s (f s a)) (l : List α) (s : State) : Keeps s (l.foldl f s) := by
  induction l generalizing s with
  | nil => exact Keeps.refl s
  | cons a l ih => exact (each s a).trans (ih (f s a))

/-! ### The laws by their parts -/

theorem canonical_iff (s : State) : s.canonical = true ↔
    s.crg.ring.wf = true ∧ s.persons.wf = true ∧ s.fst.folios.wf = true ∧ s.cau.cabins.wf = true ∧ s.jnl.ring.wf = true
      ∧ ∀ i : Fin 8, s.lscs[i].nodes.wf = true := by
  simp [State.canonical, and_assoc, Fin.forall_iff]

section
variable {s t : State}

theorem folioLaw_congr (folios : t.fst.folios = s.fst.folios) (tills : t.chu.tills = s.chu.tills) : t.folioLaw ↔ s.folioLaw := by
  simp only [State.folioLaw, folios, tills]

theorem presenceLaw_congr (persons : t.persons = s.persons) (counts : t.pru.counts = s.pru.counts)
    (missing : t.pru.missingCount = s.pru.missingCount) : t.presenceLaw ↔ s.presenceLaw := by
  simp only [State.presenceLaw, State.personsOf, Pru.count, persons, counts, missing]

theorem departureLaw_congr (persons : t.persons = s.persons) (ring : t.crg.ring = s.crg.ring) : t.departureLaw ↔ s.departureLaw := by
  simp only [State.departureLaw, State.isDeparted, persons, ring]

theorem bindingLaw_congr (persons : t.persons = s.persons) (cabins : t.cau.cabins = s.cau.cabins) : t.bindingLaw ↔ s.bindingLaw := by
  simp only [State.bindingLaw, State.listsCabin, State.listsPerson, persons, cabins]

theorem pollLaw_congr (cabins : t.cau.cabins = s.cau.cabins)
    (nodes : ∀ (i : Fin 8) (node : Nat), (t.lscs[i].nodes.get node).isSome = (s.lscs[i].nodes.get node).isSome) :
    t.pollLaw ↔ s.pollLaw := by
  simp only [State.pollLaw, Cau.cabinAt, cabins, nodes]

/-! ### A change of one part -/

/-- A change outside the parts that the laws speak of keeps them. -/
theorem Keeps.of_lawData (same : t.lawData = s.lawData) : Keeps s t := by
  simp only [State.lawData, LawData.mk.injEq, funext_iff] at same
  obtain ⟨atu, jnl, crg, persons, folios, tills, cabins, nodes, counts, missing⟩ := same
  refine ⟨?_, ?_, ?_, ?_, ?_, ?_, ?_⟩
  · rw [atu]; exact id
  · rw [jnl]; exact id
  · simp only [canonical_iff, crg, persons, folios, cabins, jnl, nodes]; exact id
  · exact (folioLaw_congr folios tills).2
  · exact And.imp (presenceLaw_congr persons counts missing).2 (departureLaw_congr persons (congrArg Crg.ring crg)).2
  · exact And.imp (bindingLaw_congr persons cabins).2 (pollLaw_congr cabins fun i _ => by rw [nodes i]).2
  · rw [crg]; exact id

theorem Keeps.of_atu {a : Atu} (law : s.atu.lawful = true → a.lawful = true) : Keeps s { s with atu := a } :=
  ⟨law, id, id, id, id, id, id⟩

theorem Keeps.of_jnl {j : Jnl} (law : s.jnl.lawful → j.lawful) (wf : s.jnl.ring.wf = true → j.ring.wf = true) :
    Keeps s { s with jnl := j } where
  attention := id
  journal := law
  tables := by
    simp only [canonical_iff]
    exact fun ⟨ring, persons, folios, cabins, jnl, nodes⟩ => ⟨ring, persons, folios, cabins, wf jnl, nodes⟩
  folios := id
  presence := id
  cabins := id
  ring := id

/-- A change of the card registry keeps the laws when it keeps its own, the canonical form of the ring, and R8. -/
theorem Keeps.of_crg {g : Crg} (law : s.crg.lawful → g.lawful) (wf : s.crg.ring.wf = true → g.ring.wf = true)
    (departure : s.departureLaw → State.departureLaw { s with crg := g }) : Keeps s { s with crg := g } where
  attention := id
  journal := id
  tables := by
    simp only [canonical_iff]
    exact fun ⟨ring, persons, folios, cabins, jnl, nodes⟩ => ⟨wf ring, persons, folios, cabins, jnl, nodes⟩
  folios := id
  presence := And.imp id departure
  cabins := id
  ring := law

/-- A change of the purge alone keeps the laws when it keeps the ring's. -/
theorem Keeps.of_purge {p : Purge} (law : s.crg.lawful → Crg.lawful { s.crg with purge := p }) : Keeps s (setPurge p s) :=
  Keeps.of_crg law id id

theorem Keeps.of_fst {f : Fst} (law : s.folioLaw → ∀ e ∈ f.folios, e.2.lawful) (wf : s.fst.folios.wf = true → f.folios.wf = true) :
    Keeps s { s with fst := f } where
  attention := id
  journal := id
  tables := by
    simp only [canonical_iff]
    exact fun ⟨ring, persons, folios, cabins, jnl, nodes⟩ => ⟨ring, persons, wf folios, cabins, jnl, nodes⟩
  folios := fun lawful => ⟨law lawful, lawful.2⟩
  presence := id
  cabins := id
  ring := id

theorem Keeps.of_chu {c : Chu} (law : s.folioLaw → ∀ x ∈ c.tills.toList, x.lawful) : Keeps s { s with chu := c } :=
  ⟨id, id, id, fun lawful => ⟨lawful.1, law lawful⟩, id, id, id⟩

/-- A change of the persons and the presence counts keeps the laws when it keeps those of chapters 1.3, 6.1 and 8. -/
theorem Keeps.of_persons {ps : Table Person} {r : Pru} (wf : s.persons.wf = true → ps.wf = true)
    (presence : s.presenceLaw → State.presenceLaw { s with persons := ps, pru := r })
    (departure : s.presenceLaw ∧ s.departureLaw → State.departureLaw { s with persons := ps, pru := r })
    (binding : s.bindingLaw → State.bindingLaw { s with persons := ps, pru := r }) : Keeps s { s with persons := ps, pru := r } where
  attention := id
  journal := id
  tables := by
    simp only [canonical_iff]
    exact fun ⟨ring, persons, folios, cabins, jnl, nodes⟩ => ⟨ring, wf persons, folios, cabins, jnl, nodes⟩
  folios := id
  presence := fun laws => ⟨presence laws.1, departure laws⟩
  cabins := And.imp binding id
  ring := id

/-- A change of the cabins and the poll lists keeps the laws when it keeps those of chapters 6.1 and 7.1. -/
theorem Keeps.of_cabins {c : Cau} {ls : Vector Lsc 8} (wf : s.cau.cabins.wf = true → c.cabins.wf = true)
    (nodes : (∀ i : Fin 8, s.lscs[i].nodes.wf = true) → ∀ i : Fin 8, ls[i].nodes.wf = true)
    (laws : s.bindingLaw ∧ s.pollLaw → State.bindingLaw { s with cau := c, lscs := ls } ∧ State.pollLaw { s with cau := c, lscs := ls }) :
    Keeps s { s with cau := c, lscs := ls } where
  attention := id
  journal := id
  tables := by
    simp only [canonical_iff]
    exact fun ⟨ring, persons, folios, cabins, jnl, lists⟩ => ⟨ring, persons, folios, wf cabins, jnl, nodes lists⟩
  folios := id
  presence := id
  cabins := laws
  ring := id

end

end Sys2Proof.Machine
end

section
/-! The attention law (R195, R196, R198) and the journal's law (R171, R173), and the shared operations that keep them. -/
namespace Sys2Proof.Machine

/-! ### Attention -/

theorem Atu.lawful_iff (a : Atu) : a.lawful = true ↔ a.attn = a.anyPending ∧ ∀ i : Fin 25, a.causes[i].lawful = true := by
  simp [Atu.lawful, Fin.forall_iff]

theorem CauseEntry.lawful_iff (e : CauseEntry) :
    e.lawful = true ↔ e.priority ≤ 7 ∧ ∀ p, e.pending = some p → 1 ≤ p.count ∧ p.count ≤ 255 ∧ e.priority ≠ 0 := by
  obtain ⟨priority, _ | p⟩ := e <;> simp [CauseEntry.lawful, and_assoc]

/-- ATTN follows the causes, so that an entry put in its place need only be in order itself. -/
theorem Atu.lawful_put {a : Atu} {i : Fin 25} {e : CauseEntry} (lawful : a.lawful = true) (entry : e.lawful = true) :
    (a.put i e).lawful = true := by
  refine (Atu.lawful_iff _).2 ⟨rfl, fun k => ?_⟩
  by_cases here : k = i
  · subst here; rw [Atu.put_same]; exact entry
  · rw [Atu.put_other _ _ _ _ here]; exact ((Atu.lawful_iff a).1 lawful).2 k

theorem CauseEntry.lawful_raised {e : CauseEntry} (lawful : e.lawful = true) (loud : e.priority ≠ 0) (x : Word32) (d : Detail) (now : Nat) :
    (e.raised x d now).lawful = true := by
  rw [CauseEntry.lawful_iff] at lawful ⊢
  rw [CauseEntry.raised_priority]
  refine ⟨lawful.1, fun p pending => ?_⟩
  cases before : e.pending with
  | none =>
    rw [CauseEntry.raised_of_none before] at pending
    cases pending
    exact ⟨le_rfl, (by decide : 1 ≤ 255), loud⟩
  | some q =>
    rw [CauseEntry.raised_of_some before] at pending
    cases pending
    dsimp only
    omega

theorem CauseEntry.lawful_withPriority {e : CauseEntry} (lawful : e.lawful = true) {priority : Nat} (range : priority ≤ 7) :
    (e.withPriority priority).lawful = true := by
  rw [CauseEntry.lawful_iff] at lawful ⊢
  refine ⟨range, fun p pending => ?_⟩
  dsimp only [CauseEntry.withPriority] at pending ⊢
  split at pending
  next => cases pending
  next loud => exact ⟨(lawful.2 p pending).1, (lawful.2 p pending).2.1, loud⟩

theorem raise_keeps (c : Cause) (x : Word32) (d : Detail) (s : State) : Keeps s (raise c x d s) := by
  by_cases silenced : (s.cause c).priority = 0
  · rw [raise_silenced silenced]; exact Keeps.refl s
  · rw [raise_of_loud silenced]
    exact Keeps.of_atu fun lawful =>
      Atu.lawful_put lawful (CauseEntry.lawful_raised (((Atu.lawful_iff _).1 lawful).2 c.place) silenced _ _ _)

theorem changeCause_keeps {number : Nat} {f : CauseEntry → CauseEntry} (entry : ∀ e : CauseEntry, e.lawful = true → (f e).lawful = true)
    (s : State) : Keeps s (changeCause number f s) :=
  Keeps.of_atu fun lawful => Atu.lawful_put lawful (entry _ (((Atu.lawful_iff _).1 lawful).2 _))

theorem sense_keeps (v : Values) (s : State) : Keeps s (sense v s).2 := by
  unfold sense
  split
  · refine changeCause_keeps (f := fun e => { e with pending := none }) (fun e lawful => ?_) s
    rw [CauseEntry.lawful_iff] at lawful ⊢
    exact ⟨lawful.1, fun _ gone => nomatch gone⟩
  · exact Keeps.refl s

theorem setPriority_keeps {v : Values} (range : v.nat 2 ≤ 7) (s : State) : Keeps s (setPriority v s).2 :=
  changeCause_keeps (fun _ lawful => CauseEntry.lawful_withPriority lawful range) s

/-! ### Taking records in -/

section
variable {j : Jnl}

/-- Two sequences less than a ring apart share a slot only when they are one. -/
theorem Jnl.slotOf_inj {m n : Word32} (order : j.ahead m ≤ j.ahead n) (near : j.ahead n < j.ahead m + 16384) (slot : slotOf m = slotOf n) :
    m = n := by
  have there (k : Word32) : k = j.released + BitVec.ofNat 32 (j.ahead k) := (Jnl.released_add_ahead k).symm
  rw [there m, there n, slotOf_add, slotOf_add] at slot
  rw [there m, there n, show j.ahead m = j.ahead n by omega]

/-- A record taken in while a slot is free is the unreleased record that follows the others (R171, R173). -/
theorem Jnl.lawful_push (lawful : j.lawful) (free : j.used < 16384) (r : Record) (now : Nat) : (j.push r now).lawful := by
  obtain ⟨order, within, drops, held, only⟩ := lawful
  have used := push_used free r now
  have next_here : j.ahead j.next = j.used := rfl
  refine ⟨?order, ?within, drops, ?held, ?only⟩
  case order => rw [used]; exact Nat.le_succ_of_le order
  case within => rw [used]; exact free
  case held =>
    intro i below
    have ahead_i : j.ahead (j.released + BitVec.ofNat 32 i) = i := by
      have := j.ahead_add j.released (k := i) (by simp [Jnl.ahead]; omega)
      simpa [Jnl.ahead] using this
    show ((j.ring.set (slotOf j.next) _).get (slotOf (j.released + BitVec.ofNat 32 i))).map _ = _
    rw [Table.get_set]
    by_cases newest : i = j.used
    · have is_next : j.released + BitVec.ofNat 32 i = j.next := by rw [newest, Jnl.used, Jnl.released_add_ahead]
      rw [is_next, if_pos rfl]; exact congrArg some is_next.symm
    · rw [if_neg fun slot => newest ?_]
      · exact held i (by omega)
      · rw [← ahead_i, Jnl.slotOf_inj (j := j) (by omega) (by omega) slot, next_here]
  case only =>
    intro e listed
    rcases Table.mem_set listed with rfl | before
    · exact ⟨rfl, by rw [used]; show j.ahead j.next < _; omega⟩
    · exact ⟨(only e before).1, by rw [used]; exact Nat.lt_succ_of_lt (only e before).2⟩

/-- What the journal's law says does not depend on whether drops have overflowed, nor on the drops below their bound. -/
theorem Jnl.lawful_withDrops (lawful : j.lawful) {drops : Nat} (range : drops ≤ 65535) (overflow : Bool) :
    Jnl.lawful { j with drops := drops, overflow := overflow } :=
  ⟨lawful.1, lawful.2.1, range, lawful.2.2.2⟩

theorem Jnl.lawful_dropped (lawful : j.lawful) : j.dropped.lawful := by
  unfold Jnl.dropped
  split
  · exact Jnl.lawful_withDrops lawful lawful.2.2.1 true
  · exact Jnl.lawful_withDrops lawful (by omega) j.overflow

end

theorem takeIn_keeps {s : State} (free : 1 ≤ s.jnl.freeSlots) (r : Record) : Keeps s (takeIn r s) := by
  have room : s.jnl.used < 16384 := by rw [freeSlots_eq] at free; omega
  have pushed : Keeps s { s with jnl := s.jnl.push r s.scl.voyage } :=
    Keeps.of_jnl (fun lawful => Jnl.lawful_push lawful room r _) (fun wf => Table.wf_set wf _ _)
  unfold takeIn
  dsimp only
  split
  · exact pushed.trans (raise_keeps _ _ _ _)
  · exact pushed

theorem offerMoney_keeps (r : Record) (s : State) : Keeps s (offerMoney r s).2 := by
  by_cases free : 1 ≤ s.jnl.freeSlots
  · rw [offerMoney_admitted free]; exact takeIn_keeps free r
  · rw [offerMoney_refused free]; exact raise_keeps _ _ _ s

theorem offerGap_keeps (s : State) : Keeps s (offerGap s) := by
  unfold offerGap
  split
  next counted =>
    refine (takeIn_keeps (Nat.one_le_of_lt counted.2) _).trans (Keeps.of_jnl (fun lawful => ?_) id)
    exact Jnl.lawful_withDrops lawful (Nat.zero_le _) false
  next => exact Keeps.refl s

theorem offerEvent_keeps (r : Record) (s : State) : Keeps s (offerEvent r s) := by
  unfold offerEvent
  dsimp only
  refine (offerGap_keeps s).trans ?_
  split
  next free => exact takeIn_keeps (Nat.one_le_of_lt free) r
  next => exact Keeps.of_jnl Jnl.lawful_dropped (by unfold Jnl.dropped; split <;> exact id)

end Sys2Proof.Machine
end

section
/-! Tables in their canonical form: what a write does to their list, beside the numbers it reads. -/
namespace Sys2Proof.Machine

variable {α β : Type} {t : Table α} {k : Nat} {a b : α}

theorem Table.mem_iff_get (wf : t.wf = true) {e : Nat × α} : e ∈ t ↔ t.get e.1 = some e.2 :=
  ⟨Table.get_of_mem wf, Table.mem_of_get⟩

theorem Table.get_isSome_iff (t : Table α) (k : Nat) : (t.get k).isSome = true ↔ k ∈ t.keys := by
  induction t with
  | nil => simp [Table.keys]
  | cons e t ih =>
    rw [Table.get_cons, Table.keys, List.map_cons, List.mem_cons]
    by_cases here : e.1 = k
    · simp [here]
    · rw [if_neg here, ih]; simp [Ne.symm here, Table.keys]

/-- A record written in place of one that the function does not tell from it leaves what the function makes of the list. -/
theorem Table.map_set_of_same (wf : t.wf = true) (get : t.get k = some a) {f : Nat × α → β} (same : f (k, b) = f (k, a)) :
    (t.set k b).map f = t.map f := by
  rw [Table.wf_iff] at wf
  induction t with
  | nil => cases get
  | cons e t ih =>
    rw [List.pairwise_cons] at wf
    rw [Table.get_cons] at get
    by_cases here : e.1 = k
    · rw [if_pos here] at get
      cases get; subst here
      simp [Table.set, same]
    · rw [if_neg here] at get
      have later : e.1 < k := wf.1 _ (Table.mem_of_get get)
      simp only [Table.set]
      rw [if_neg (by omega), if_neg (by omega), List.map_cons, List.map_cons, ih wf.2 get]

/-- The record that a number names, counted by a test: 1 when it passes, and 0 when it fails or there is none. -/
def Table.holds (t : Table α) (k : Nat) (q : Nat × α → Bool) : Nat := (t.get k).elim 0 fun a => (q (k, a)).toNat

theorem Table.holds_of_some (get : t.get k = some a) (q : Nat × α → Bool) : t.holds k q = (q (k, a)).toNat := by
  rw [Table.holds, get]; rfl

theorem Table.holds_of_none (get : t.get k = none) (q : Nat × α → Bool) : t.holds k q = 0 := by
  rw [Table.holds, get]; rfl

theorem Table.holds_cons_same (q : Nat × α → Bool) : Table.holds ((k, a) :: t) k q = (q (k, a)).toNat :=
  Table.holds_of_some ((Table.get_cons ..).trans (if_pos rfl)) q

theorem Table.holds_cons_other {n : Nat} (other : n ≠ k) (q : Nat × α → Bool) : Table.holds ((n, a) :: t) k q = t.holds k q := by
  rw [Table.holds, Table.get_cons, if_neg other]; rfl

theorem Table.holds_of_below (below : ∀ e ∈ t, k < e.1) (q : Nat × α → Bool) : t.holds k q = 0 := by
  refine Table.holds_of_none (Option.eq_none_iff_forall_ne_some.2 fun a get => ?_) q
  exact Nat.lt_irrefl k (below _ (Table.mem_of_get get))

theorem countP_cons_toNat (q : α → Bool) (x : α) (l : List α) : (x :: l).countP q = (q x).toNat + l.countP q := by
  rw [List.countP_cons, Nat.add_comm]; cases q x <;> rfl

/-- A write moves a count by what it puts in and what it displaces. -/
theorem Table.countP_set (wf : t.wf = true) (q : Nat × α → Bool) (k : Nat) (b : α) :
    (t.set k b).countP q + t.holds k q = t.countP q + (q (k, b)).toNat := by
  rw [Table.wf_iff] at wf
  induction t with
  | nil => exact (countP_cons_toNat q (k, b) []).trans (Nat.add_comm ..)
  | cons e t ih =>
    obtain ⟨n, a⟩ := e
    rw [List.pairwise_cons] at wf
    simp only [Table.set]
    rcases Nat.lt_trichotomy k n with before | rfl | later
    · have free : Table.holds ((n, a) :: t) k q = 0 := by
        rw [Table.holds_cons_other (Nat.ne_of_gt before)]
        exact Table.holds_of_below (fun e listed => before.trans (wf.1 e listed)) q
      rw [if_pos before, free, countP_cons_toNat]; omega
    · rw [if_neg (Nat.lt_irrefl k), if_pos rfl, Table.holds_cons_same, countP_cons_toNat, countP_cons_toNat]; omega
    · have rest := ih wf.2
      rw [if_neg (Nat.lt_asymm later), if_neg (Nat.ne_of_gt later), Table.holds_cons_other (Nat.ne_of_lt later),
        countP_cons_toNat, countP_cons_toNat]
      omega

/-- Freeing a number takes its record out of a count. -/
theorem Table.countP_erase (wf : t.wf = true) (q : Nat × α → Bool) (k : Nat) :
    (t.erase k).countP q + t.holds k q = t.countP q := by
  rw [Table.wf_iff] at wf
  induction t with
  | nil => rfl
  | cons e t ih =>
    obtain ⟨n, a⟩ := e
    rw [List.pairwise_cons] at wf
    have rest := ih wf.2
    rw [Table.erase] at rest ⊢
    by_cases here : n = k
    · subst here
      rw [Table.holds_of_below wf.1] at rest
      rw [List.filter_cons_of_neg (by simp), Table.holds_cons_same, countP_cons_toNat]; omega
    · rw [List.filter_cons_of_pos (by simpa using here), Table.holds_cons_other here, countP_cons_toNat, countP_cons_toNat]; omega

/-- A write keeps what is said of every two records when it is said of the new one and each other. -/
theorem Table.pairwise_set {R : Nat × α → Nat × α → Prop} (symm : ∀ x y, R x y → R y x) (wf : t.wf = true) (all : t.Pairwise R)
    (new : ∀ e ∈ t, e.1 ≠ k → R e (k, b)) : (t.set k b).Pairwise R := by
  rw [Table.wf_iff] at wf
  induction t with
  | nil => exact List.pairwise_singleton ..
  | cons x t ih =>
    rw [List.pairwise_cons] at wf
    obtain ⟨head, tail⟩ := List.pairwise_cons.1 all
    have later : ∀ e ∈ t, e.1 ≠ k → R (k, b) e := fun e listed other => symm _ _ (new e (List.mem_cons_of_mem _ listed) other)
    simp only [Table.set]
    split
    next before =>
      refine List.pairwise_cons.2 ⟨fun e listed => ?_, all⟩
      rcases List.mem_cons.1 listed with rfl | listed
      · exact symm _ _ (new _ List.mem_cons_self (by omega))
      · exact later e listed (by have := wf.1 e listed; omega)
    next =>
      split
      next here => exact List.pairwise_cons.2 ⟨fun e listed => later e listed (by have := wf.1 e listed; omega), tail⟩
      next other =>
        refine List.pairwise_cons.2 ⟨fun e listed => ?_, ih wf.2 tail (fun e listed => new e (List.mem_cons_of_mem _ listed))⟩
        rcases Table.mem_set listed with rfl | listed
        · exact new x List.mem_cons_self (by omega)
        · exact head e listed

/-- What a symmetric relation says of every two members of a list. -/
theorem pairwise_of_mem {R : α → α → Prop} {l : List α} (symm : ∀ x y, R x y → R y x) (all : l.Pairwise R) {x y : α} (mem : x ∈ l)
    (mem' : y ∈ l) (other : x ≠ y) : R x y :=
  have : Std.Symm R := ⟨symm⟩
  all.forall mem mem' other

theorem Table.length_set_of_none (free : t.get k = none) (b : α) : (t.set k b).length = t.length + 1 := by
  induction t with
  | nil => rfl
  | cons e t ih =>
    rw [Table.get_cons] at free
    split at free
    next => cases free
    next other =>
      simp only [Table.set]
      rw [if_neg (Ne.symm other)]
      split
      · rfl
      · rw [List.length_cons, List.length_cons, ih free]

theorem Table.mem_erase {e : Nat × α} : e ∈ t.erase k ↔ e ∈ t ∧ e.1 ≠ k := by
  rw [Table.erase, List.mem_filter, decide_eq_true_eq]

/-- What holds of each record of a table holds after a write, when it holds of the record written. -/
theorem Table.forall_mem_set {P : Nat × α → Prop} (all : ∀ e ∈ t, P e) (new : P (k, b)) : ∀ e ∈ t.set k b, P e := fun e listed =>
  (Table.mem_set listed).elim (fun written => written ▸ new) (all e)

end Sys2Proof.Machine
end

section
/-! The ring's law (R3, R4, R19): searches under it, and the changes of the ring that keep it. -/
namespace Sys2Proof.Machine

/-! ### Moves in probe order (R2) -/

theorem probeMoves_lt (start slot : Nat) : probeMoves start slot < 16384 := Nat.mod_lt _ (by decide)

theorem probeSlot_lt (start moves : Nat) : probeSlot start moves < 16384 := Nat.mod_lt _ (by decide)

theorem probeMoves_probeSlot {start d : Nat} (inRing : start < 16384) (short : d < 16384) : probeMoves start (probeSlot start d) = d := by
  simp only [probeMoves, probeSlot, Config.ringSlots]; omega

theorem probeSlot_probeMoves {start slot : Nat} (inRing : start < 16384) (slotInRing : slot < 16384) :
    probeSlot start (probeMoves start slot) = slot := by
  simp only [probeMoves, probeSlot, Config.ringSlots]; omega

theorem probeMoves_pos {start slot : Nat} (startInRing : start < 16384) (slotInRing : slot < 16384) (other : slot ≠ start) :
    0 < probeMoves start slot := by
  simp only [probeMoves, Config.ringSlots]; omega

theorem probeMoves_nextSlot {slot : Nat} (inRing : slot < 16384) : probeMoves slot (nextSlot slot) = 1 := by
  simp only [probeMoves, nextSlot, Config.ringSlots]; split <;> omega

theorem nextSlot_ne (slot : Nat) : nextSlot slot ≠ slot := by
  simp only [nextSlot, Config.ringSlots]; split <;> omega

/-- A run that passes a slot is as long as the run to that slot and the run on from it. -/
theorem probeMoves_add {home mid slot : Nat} (_ : mid < 16384) (passes : probeMoves home mid < probeMoves home slot) :
    probeMoves home slot = probeMoves home mid + probeMoves mid slot := by
  simp only [probeMoves, Config.ringSlots] at *; omega

/-- The slots of a run beyond one that it passes. -/
theorem probeSlot_add {home mid : Nat} (homeInRing : home < 16384) (d : Nat) :
    probeSlot home (probeMoves home mid + d) = probeSlot mid d := by
  simp only [probeMoves, probeSlot, Config.ringSlots]; omega

/-- The slot after another lies one move further from any slot, short of a full turn. -/
theorem probeMoves_nextSlot_of_ne {start slot : Nat} (inRing : start < 16384) (slotInRing : slot < 16384) (goesOn : nextSlot slot ≠ start) :
    probeMoves start (nextSlot slot) = probeMoves start slot + 1 := by
  simp only [probeMoves, nextSlot, Config.ringSlots] at *; split at goesOn <;> split <;> omega

/-! ### What a search finds (R3) -/

section
variable {g : Crg}

theorem Crg.notFree_iff (g : Crg) (slot : Nat) : g.notFree slot = true ↔ (g.ring.get slot).isSome = true ∨ g.hole = some slot := by
  rw [Crg.notFree, Bool.or_eq_true, beq_iff_eq]

theorem Crg.shift_iff_hole {k : Nat} : g.hole = some k ↔ ∃ h, g.purge.shift = some h ∧ h.hole = k := by
  rw [Crg.hole, Option.map_eq_some_iff]

/-- The HOLE holds no card. -/
theorem Crg.get_hole (lawful : g.lawful) {k : Nat} (hole : g.hole = some k) : g.ring.get k = none := by
  obtain ⟨-, -, -, -, -, shifts⟩ := lawful
  obtain ⟨h, shift, rfl⟩ := Crg.shift_iff_hole.1 hole
  exact (shifts h shift).2.2.1

/-- No two cards have one serial. -/
theorem Crg.slot_of_serial (lawful : g.lawful) {e x : Nat × Card} (listed : e ∈ g.ring) (also : x ∈ g.ring)
    (same : e.2.serial = x.2.serial) : e = x := by
  obtain ⟨-, -, -, serials, -, -⟩ := lawful
  by_contra other
  exact pairwise_of_mem (fun _ _ ne => ne.symm) serials listed also other same

theorem Crg.search_of_mem (lawful : g.lawful) {e : Nat × Card} (listed : e ∈ g.ring) : g.search e.2.serial = .found e.1 e.2 := by
  have slots := lawful.2.1 e listed
  have run := lawful.2.2.2.2.1 e listed
  have home := homeSlot_lt e.2.serial
  have here : g.ring.get (probeSlot (homeSlot e.2.serial) (probeMoves (homeSlot e.2.serial) e.1)) = some e.2 := by
    rw [probeSlot_probeMoves home slots]; exact Table.get_of_mem lawful.1 listed
  have stops : ¬ g.passes e.2.serial (probeSlot (homeSlot e.2.serial) (probeMoves (homeSlot e.2.serial) e.1)) := by
    rintro (hole | ⟨c, card, other⟩)
    · rw [Crg.get_hole lawful hole] at here; cases here
    · rw [card] at here; cases here; exact other rfl
  have searched := g.search_endOfRun e.2.serial
  cases found : g.search e.2.serial with
  | found slot c =>
    rw [found] at searched
    obtain ⟨d, -, rfl, card, serial, -⟩ := searched
    have same := Crg.slot_of_serial lawful (Table.mem_of_get card) listed serial
    exact congr (congrArg Search.found (congrArg Prod.fst same)) (congrArg Prod.snd same)
  | freeAt slot =>
    rw [found] at searched
    obtain ⟨d, -, rfl, free, noHole, before⟩ := searched
    rcases Nat.lt_trichotomy d (probeMoves (homeSlot e.2.serial) e.1) with short | rfl | beyond
    · rcases (g.notFree_iff _).1 (run d short) with card | hole
      · rw [free] at card; cases card
      · exact absurd hole noHole
    · rw [free] at here; cases here
    · exact absurd (before _ beyond) stops
  | noSlot =>
    rw [found] at searched
    exact absurd (searched _ (probeMoves_lt ..)) stops

/-! ### Changes that leave every serial in its slot -/

/-- The slots and serials of the ring. -/
def Crg.serials (g : Crg) : List (Nat × Word32) := g.ring.map fun e => (e.1, e.2.serial)

/-- The ring's law speaks of the slots, the serials, the shift and the phase alone. -/
theorem Crg.lawful_of_serials {g' : Crg} (same : g'.serials = g.serials) (purge : g'.purge = g.purge) (lawful : g.lawful) : g'.lawful := by
  obtain ⟨wf, slots, room, serials, runs, shifts⟩ := lawful
  have keys : g'.ring.keys = g.ring.keys := by
    have := congrArg (List.map Prod.fst) same
    simpa [Crg.serials, Table.keys, Function.comp_def] using this
  have occupied (k : Nat) : (g'.ring.get k).isSome = (g.ring.get k).isSome := by
    rw [Bool.eq_iff_iff, Table.get_isSome_iff, Table.get_isSome_iff, keys]
  have notFree (k : Nat) : g'.notFree k = g.notFree k := by
    rw [Crg.notFree, Crg.notFree, occupied, Crg.hole, Crg.hole, purge]
  have forall_iff (P : Nat × Word32 → Prop) : (∀ e ∈ g'.ring, P (e.1, e.2.serial)) ↔ ∀ e ∈ g.ring, P (e.1, e.2.serial) := by
    have lists := congrArg (fun l : List (Nat × Word32) => ∀ x ∈ l, P x) same
    simpa only [Crg.serials, List.forall_mem_map, eq_iff_iff] using lists
  have pairwise_iff (R : Nat × Word32 → Nat × Word32 → Prop) :
      g'.ring.Pairwise (fun a b => R (a.1, a.2.serial) (b.1, b.2.serial)) ↔ g.ring.Pairwise (fun a b => R (a.1, a.2.serial) (b.1, b.2.serial)) := by
    have lists := congrArg (List.Pairwise R) same
    simpa only [Crg.serials, List.pairwise_map, eq_iff_iff] using lists
  refine ⟨?_, (forall_iff fun x => x.1 < Config.ringSlots).2 slots, ?_, (pairwise_iff fun x y => x.2 ≠ y.2).2 serials, ?_, ?_⟩
  · rw [Table.wf_iff] at wf ⊢; exact (pairwise_iff fun x y => x.1 < y.1).2 wf
  · have := congrArg List.length same
    simp only [Crg.serials, List.length_map] at this
    exact this ▸ room
  · simp only [notFree]
    exact (forall_iff fun x => ∀ d < probeMoves (homeSlot x.2) x.1, g.notFree (probeSlot (homeSlot x.2) d) = true).2 runs
  · intro h shift
    obtain ⟨inRing, examineInRing, empty, apart, phase, between, beyond⟩ := shifts h (purge ▸ shift)
    refine ⟨inRing, examineInRing, ?_, apart, purge ▸ phase, fun d pos short => (occupied _).trans (between d pos short), ?_⟩
    · rw [← Option.not_isSome_iff_eq_none, occupied, empty]; decide
    · exact (forall_iff fun x => probeMoves (homeSlot x.2) h.hole < probeMoves (homeSlot x.2) x.1 →
        probeMoves h.hole h.examine ≤ probeMoves h.hole x.1).2 beyond

/-- A card rewritten in its slot with its serial keeps the ring's law. -/
theorem Crg.lawful_set {slot : Nat} {c c' : Card} (get : g.ring.get slot = some c) (serial : c'.serial = c.serial) (lawful : g.lawful) :
    Crg.lawful { g with ring := g.ring.set slot c' } :=
  Crg.lawful_of_serials (Table.map_set_of_same lawful.1 get (congrArg (Prod.mk slot) serial)) rfl lawful

/-- Cards changed in their slots with their serials keep the ring's law. -/
theorem Crg.lawful_mapVals {f : Card → Card} (serial : ∀ c, (f c).serial = c.serial) (lawful : g.lawful) :
    Crg.lawful { g with ring := g.ring.mapVals f } := by
  refine Crg.lawful_of_serials (g := g) ?_ rfl lawful
  simp [Crg.serials, Table.mapVals, serial]

/-- A purge that has as much of a shift and of the phase as the ring's law speaks of keeps it. -/
theorem Crg.lawful_purge {p : Purge} (idle : g.purge.shift = none → p.shift = none)
    (shifting : ∀ h walk, g.purge.shift = some h → g.purge.phase = .cards walk → p.shift = some h ∧ ∃ walk, p.phase = .cards walk)
    (lawful : g.lawful) : Crg.lawful { g with purge := p } := by
  obtain ⟨wf, slots, room, serials, runs, shifts⟩ := lawful
  have phase : ∀ h, g.purge.shift = some h → p.shift = some h ∧ ∃ walk, p.phase = .cards walk := fun h shift => by
    obtain ⟨walk, phase⟩ := (shifts h shift).2.2.2.2.1
    exact shifting h walk shift phase
  have shift : p.shift = g.purge.shift := by
    cases before : g.purge.shift with
    | none => exact idle before
    | some h => exact (phase h before).1
  have hole : Crg.hole { g with purge := p } = g.hole := by rw [Crg.hole, Crg.hole, shift]
  refine ⟨wf, slots, room, serials, ?_, fun h now => ?_⟩
  · simp only [Crg.notFree, hole] at runs ⊢; exact runs
  · have before := now
    rw [shift] at before
    obtain ⟨inRing, examineInRing, empty, apart, -, rest⟩ := shifts h before
    exact ⟨inRing, examineInRing, empty, apart, (phase h before).2, rest⟩

/-! ### A card inserted (R4, R9) -/

/-- A slot where a search ends FREE lies at or beyond the next slot that a shift examines. -/
theorem Crg.examine_le_free {h : Shift} (law : g.shiftLaw h) {slot : Nat} (inRing : slot < 16384) (free : g.ring.get slot = none)
    (noHole : h.hole ≠ slot) : probeMoves h.hole h.examine ≤ probeMoves h.hole slot := by
  obtain ⟨holeInRing, -, -, -, -, between, -⟩ := law
  by_contra short
  have occupied := between _ (probeMoves_pos holeInRing inRing noHole.symm) (Nat.lt_of_not_le short)
  rw [probeSlot_probeMoves holeInRing inRing, free] at occupied
  cases occupied

theorem Crg.lawful_insert {slot : Nat} {c : Card} (search : g.search c.serial = .freeAt slot) (live : g.ring.length < 12000)
    (lawful : g.lawful) : Crg.lawful { g with ring := g.ring.set slot c } := by
  have found_of_serial : ∀ e ∈ g.ring, e.2.serial ≠ c.serial := fun e listed same => by
    have found := Crg.search_of_mem lawful listed
    rw [same, search] at found
    cases found
  have searched := g.search_endOfRun c.serial
  rw [search] at searched
  obtain ⟨d, fuel, rfl, free, noHole, before⟩ := searched
  obtain ⟨wf, slots, room, serials, runs, shifts⟩ := lawful
  have home := homeSlot_lt c.serial
  have grows (k : Nat) (notFree : g.notFree k = true) :
      Crg.notFree { g with ring := g.ring.set (probeSlot (homeSlot c.serial) d) c } k = true := by
    rw [Crg.notFree_iff] at notFree ⊢
    refine notFree.imp (fun card => ?_) id
    rw [Table.get_set]; split
    · rfl
    · exact card
  refine ⟨Table.wf_set wf _ _, Table.forall_mem_set slots (probeSlot_lt ..), ?room, ?serials, ?runs, ?shifts⟩
  case room =>
    rw [Table.length_set_of_none free]
    show _ ≤ 12000
    omega
  case serials =>
    exact Table.pairwise_set (fun _ _ ne => ne.symm) wf serials fun e listed _ => found_of_serial e listed
  case runs =>
    refine Table.forall_mem_set (fun e listed k short => grows _ (runs e listed k short)) fun k short => grows _ ?_
    rw [probeMoves_probeSlot home fuel] at short
    rw [Crg.notFree_iff]
    exact (before k short).symm.imp (fun ⟨x, card, _⟩ => by rw [card]; rfl) id
  case shifts =>
    intro h shift
    have law := shifts h shift
    have apart : h.hole ≠ probeSlot (homeSlot c.serial) d := fun same => noHole (Crg.shift_iff_hole.2 ⟨h, shift, same⟩)
    have beyondNew := Crg.examine_le_free law (probeSlot_lt ..) free apart
    obtain ⟨inRing, examineInRing, empty, moved, phase, between, beyond⟩ := law
    refine ⟨inRing, examineInRing, ?_, moved, phase, fun k pos short => ?_, ?_⟩
    · rw [Table.get_set_other _ _ _ _ apart]; exact empty
    · show ((g.ring.set _ _).get _).isSome = true
      rw [Table.get_set]; split
      · rfl
      · exact between k pos short
    · exact Table.forall_mem_set (fun e listed => beyond e listed) fun _ => beyondNew

/-! ### A removal (R18) -/

theorem Crg.lawful_remove {slot walk : Nat} {c : Card} {counts : Removals} (get : g.ring.get slot = some c) (phase : g.purge.phase = .cards walk)
    (noShift : g.purge.shift = none) (lawful : g.lawful) :
    Crg.lawful { ring := g.ring.erase slot,
                 purge := { g.purge with shift := some { hole := slot, examine := nextSlot slot }, counts := counts } } := by
  obtain ⟨wf, slots, room, serials, runs, -⟩ := lawful
  have inRing : slot < 16384 := slots _ (Table.mem_of_get get)
  refine ⟨Table.wf_erase wf slot, fun e listed => slots e (Table.mem_erase.1 listed).1,
    (List.length_filter_le ..).trans room, serials.filter _, fun e listed d short => ?_, ?_⟩
  · have before := runs e (Table.mem_erase.1 listed).1 d short
    rw [Crg.notFree_iff] at before ⊢
    by_cases here : probeSlot (homeSlot e.2.serial) d = slot
    · exact .inr (by rw [here]; rfl)
    · refine .inl ?_
      show ((g.ring.erase slot).get _).isSome = true
      rw [Table.get_erase_other _ _ _ here]
      refine before.resolve_right fun hole => ?_
      rw [Crg.hole, noShift] at hole; cases hole
  · rintro h ⟨⟩
    refine ⟨inRing, nextSlot_lt inRing, Table.get_erase_same .., nextSlot_ne _, ⟨walk, phase⟩, fun d pos short => ?_,
      fun e listed _ => ?_⟩
    · dsimp only at short
      rw [probeMoves_nextSlot inRing] at short
      omega
    · have erased := Table.mem_erase.1 listed
      have apart := probeMoves_pos inRing (slots e erased.1) erased.2
      dsimp only
      rw [probeMoves_nextSlot inRing]
      exact apart

/-! ### A shift step (R19) -/

/-- A ring whose slots at so many moves beyond a slot are all OCCUPIED has as many cards. -/
theorem Crg.moves_le_live {start n : Nat} (inRing : start < 16384) (short : n < 16384)
    (occupied : ∀ d, 0 < d → d ≤ n → (g.ring.get (probeSlot start d)).isSome = true) : n ≤ g.ring.length := by
  have distinct : ((List.range' 1 n).map (probeSlot start)).Nodup := by
    refine List.Nodup.map_on (fun d here e there same => ?_) List.nodup_range'
    rw [List.mem_range'_1] at here there
    rw [← probeMoves_probeSlot inRing (d := d) (by omega), same, probeMoves_probeSlot inRing (by omega)]
  have listed : (List.range' 1 n).map (probeSlot start) ⊆ g.ring.keys := fun k mem => by
    obtain ⟨d, here, rfl⟩ := List.mem_map.1 mem
    rw [List.mem_range'_1] at here
    exact (Table.get_isSome_iff ..).1 (occupied d (by omega) (by omega))
  have := (distinct.subperm listed).length_le
  simpa [Table.keys] using this

section
variable {h : Shift}

/-- A slot that is FREE where the shift examines ends it: no card's run passes the HOLE any more. -/
theorem Crg.lawful_shiftEnds (shift : g.purge.shift = some h) (free : g.ring.get h.examine = none) (lawful : g.lawful) :
    Crg.lawful { g with purge := { g.purge with shift := none } } := by
  obtain ⟨wf, slots, room, serials, runs, shifts⟩ := lawful
  obtain ⟨holeInRing, examineInRing, -, apart, -, -, beyond⟩ := shifts h shift
  have noHole : ∀ e ∈ g.ring, ¬ probeMoves (homeSlot e.2.serial) h.hole < probeMoves (homeSlot e.2.serial) e.1 := fun e listed passes => by
    have home := homeSlot_lt e.2.serial
    have further := beyond e listed passes
    have length := probeMoves_add holeInRing passes
    have other : h.examine ≠ e.1 := fun same => by
      rw [same, Table.get_of_mem wf listed] at free; cases free
    have apartMoves : probeMoves h.hole h.examine ≠ probeMoves h.hole e.1 := fun same => other <| by
      rw [← probeSlot_probeMoves holeInRing examineInRing, same, probeSlot_probeMoves holeInRing (slots e listed)]
    have inRun := runs e listed (probeMoves (homeSlot e.2.serial) h.hole + probeMoves h.hole h.examine) (by omega)
    rw [probeSlot_add home, probeSlot_probeMoves holeInRing examineInRing, Crg.notFree_iff, free] at inRun
    rcases inRun with card | hole
    · cases card
    · obtain ⟨h', shift', same⟩ := Crg.shift_iff_hole.1 hole
      rw [shift] at shift'; cases shift'
      exact apart same.symm
  refine ⟨wf, slots, room, serials, fun e listed d short => ?_, fun _ now => nomatch now⟩
  have before := runs e listed d short
  rw [Crg.notFree_iff] at before ⊢
  refine .inl (before.resolve_right fun hole => noHole e listed ?_)
  obtain ⟨h', shift', same⟩ := Crg.shift_iff_hole.1 hole
  rw [shift] at shift'; cases shift'
  rw [same, probeMoves_probeSlot (homeSlot_lt _) (short.trans (probeMoves_lt ..))]
  exact short

/-- A card whose run passes the HOLE fills it, and leaves the HOLE in its own slot. -/
theorem Crg.lawful_shiftFills {c : Card} (shift : g.purge.shift = some h) (get : g.ring.get h.examine = some c)
    (fills : probeMoves (homeSlot c.serial) h.hole < probeMoves (homeSlot c.serial) h.examine) (lawful : g.lawful) :
    Crg.lawful { ring := (g.ring.erase h.examine).set h.hole c,
                 purge := { g.purge with shift := some { hole := h.examine, examine := nextSlot h.examine } } } := by
  obtain ⟨wf, slots, room, serials, runs, shifts⟩ := lawful
  obtain ⟨holeInRing, examineInRing, empty, apart, phase, -, -⟩ := shifts h shift
  have listed := Table.mem_of_get get
  have emptied : (g.ring.erase h.examine).get h.hole = none := by rw [Table.get_erase_other _ _ _ apart.symm]; exact empty
  have inRing (e : Nat × Card) (now : e ∈ (g.ring.erase h.examine).set h.hole c) : e.1 < 16384 ∧ e.1 ≠ h.examine :=
    (Table.mem_set now).elim (fun new => new ▸ ⟨holeInRing, apart.symm⟩) fun old =>
      ⟨slots e (Table.mem_erase.1 old).1, (Table.mem_erase.1 old).2⟩
  have notFree (k : Nat) (before : g.notFree k = true) :
      Crg.notFree { ring := (g.ring.erase h.examine).set h.hole c,
                    purge := { g.purge with shift := some { hole := h.examine, examine := nextSlot h.examine } } } k = true := by
    rw [Crg.notFree_iff] at before ⊢
    by_cases there : k = h.examine
    · exact .inr (congrArg some there.symm)
    · refine .inl ?_
      show (((g.ring.erase h.examine).set h.hole c).get k).isSome = true
      rw [Table.get_set]; split
      next => rfl
      next noHole =>
        rw [Table.get_erase_other _ _ _ there]
        refine before.resolve_right fun hole => noHole ?_
        obtain ⟨h', shift', same⟩ := Crg.shift_iff_hole.1 hole
        rw [shift] at shift'; cases shift'
        exact same.symm
  refine ⟨Table.wf_set (Table.wf_erase wf _) _ _, fun e now => (inRing e now).1, ?room, ?serials, ?runs, ?shifts⟩
  case room =>
    have gone := Table.countP_erase wf (fun _ => true) h.examine
    simp only [Table.holds_of_some get, List.countP_true, Bool.toNat_true] at gone
    rw [Table.length_set_of_none emptied]
    show _ ≤ 12000
    have : g.ring.length ≤ 12000 := room
    omega
  case serials =>
    refine Table.pairwise_set (fun _ _ ne => ne.symm) (Table.wf_erase wf _) (serials.filter _) fun e old _ => ?_
    have other : e ≠ (h.examine, c) := fun same => (Table.mem_erase.1 old).2 (congrArg Prod.fst same)
    exact pairwise_of_mem (R := fun a b => a.2.serial ≠ b.2.serial) (fun _ _ ne => ne.symm) serials (Table.mem_erase.1 old).1 listed other
  case runs =>
    exact Table.forall_mem_set (fun e old d short => notFree _ (runs e (Table.mem_erase.1 old).1 d short)) fun d short =>
      notFree _ (runs _ listed d (short.trans fills))
  case shifts =>
    rintro _ ⟨⟩
    refine ⟨examineInRing, nextSlot_lt examineInRing, ?_, nextSlot_ne _, phase, fun d pos short => ?_, fun e now _ => ?_⟩
    · show ((g.ring.erase h.examine).set h.hole c).get h.examine = none
      rw [Table.get_set_other _ _ _ _ apart, Table.get_erase_same]
    · dsimp only at short
      rw [probeMoves_nextSlot examineInRing] at short
      omega
    · dsimp only
      rw [probeMoves_nextSlot examineInRing]
      exact probeMoves_pos examineInRing (inRing e now).1 (inRing e now).2

/-- A card whose run does not pass the HOLE is passed over. With at most 12,000 cards the shift meets a FREE slot before it comes around to the HOLE. -/
theorem Crg.lawful_shiftPasses {c : Card} (shift : g.purge.shift = some h) (get : g.ring.get h.examine = some c)
    (stays : ¬ probeMoves (homeSlot c.serial) h.hole < probeMoves (homeSlot c.serial) h.examine) (lawful : g.lawful) :
    Crg.lawful { g with purge := { g.purge with shift := some { h with examine := nextSlot h.examine } } } := by
  obtain ⟨wf, slots, room, serials, runs, shifts⟩ := lawful
  obtain ⟨holeInRing, examineInRing, empty, apart, phase, between, beyond⟩ := shifts h shift
  have through : ∀ d, 0 < d → d ≤ probeMoves h.hole h.examine → (g.ring.get (probeSlot h.hole d)).isSome = true := fun d pos upTo => by
    rcases Nat.lt_or_eq_of_le upTo with short | rfl
    · exact between d pos short
    · rw [probeSlot_probeMoves holeInRing examineInRing, get]; rfl
  have goesOn : nextSlot h.examine ≠ h.hole := fun around => by
    have full : probeMoves h.hole h.examine = 16383 := by
      rw [← around]
      simp only [probeMoves, nextSlot, Config.ringSlots] at examineInRing ⊢
      split <;> omega
    have many := Crg.moves_le_live holeInRing (probeMoves_lt ..) through
    have : g.ring.length ≤ 12000 := room
    omega
  have further := probeMoves_nextSlot_of_ne holeInRing examineInRing goesOn
  have hole : Crg.hole { g with purge := { g.purge with shift := some { h with examine := nextSlot h.examine } } } = g.hole := by
    rw [Crg.hole, Crg.hole, shift]; rfl
  refine ⟨wf, slots, room, serials, ?_, ?_⟩
  · simp only [Crg.notFree, hole] at runs ⊢; exact runs
  · rintro _ ⟨⟩
    refine ⟨holeInRing, nextSlot_lt examineInRing, empty, goesOn, phase, fun d pos short => ?_, fun e listed passes => ?_⟩
    · dsimp only at short
      exact through d pos (by omega)
    · dsimp only at passes ⊢
      have atLeast := beyond e listed passes
      have other : probeMoves h.hole h.examine ≠ probeMoves h.hole e.1 := fun same => by
        have here : h.examine = e.1 := by
          rw [← probeSlot_probeMoves holeInRing examineInRing, same, probeSlot_probeMoves holeInRing (slots e listed)]
        rw [here, Table.get_of_mem wf listed] at get
        cases get
        exact stays (here ▸ passes)
      omega

theorem Crg.lawful_shifted (shift : g.purge.shift = some h) (lawful : g.lawful) : (g.shifted h).lawful := by
  unfold Crg.shifted
  split
  next free => exact Crg.lawful_shiftEnds shift free lawful
  next c card =>
    split
    next fills => exact Crg.lawful_shiftFills shift card (of_decide_eq_true fills) lawful
    next stays => exact Crg.lawful_shiftPasses shift card (fun passes => stays (decide_eq_true passes)) lawful

end
end

end Sys2Proof.Machine
end

section
/-! Persons, presence counts and cards (R7, R8, R157, R163): the changes that keep the laws of chapters 1.3, 6.1 and 8. -/
namespace Sys2Proof.Machine

/-! ### The presence counts (R157) -/

theorem countPlace_inj {cls cls' : PersonClass} {x x' : Presence} : countPlace cls x = countPlace cls' x' ↔ cls = cls' ∧ x = x' := by
  cases cls <;> cases cls' <;> cases x <;> cases x' <;> decide

theorem Pru.count_setCount (r : Pru) (cls cls' : PersonClass) (x x' : Presence) (k : Nat) :
    (r.setCount cls x k).count cls' x' = if cls = cls' ∧ x = x' then k else r.count cls' x' := by
  simp only [Pru.setCount, Pru.count, Fin.getElem_fin, Vector.getElem_set, ← Fin.ext_iff, countPlace_inj]

/-- The test that a presence count makes of a person (R157). -/
def countedIn (cls : PersonClass) (x : Presence) (e : Nat × Person) : Bool := decide (e.2.ident.cls = cls ∧ e.2.att.presence = x)

/-- The test that the missing count makes of a person (R163). -/
def markedMissing (e : Nat × Person) : Bool := e.2.att.missing

theorem presenceLaw_iff (s : State) : s.presenceLaw ↔ s.persons.wf = true ∧ (∀ cls x, s.pru.count cls x = s.persons.countP (countedIn cls x))
    ∧ s.pru.missingCount = s.persons.countP markedMissing ∧ ∀ e ∈ s.persons, e.2.att.missing = true → e.2.att.presence = .ashore := Iff.rfl

section
variable {s : State} {n : Nat} {p : Person}

/-- A person's record written, the counts following it. -/
theorem presenceLaw_set {r : Pru} (law : s.presenceLaw)
    (counts : ∀ cls x, r.count cls x + s.persons.holds n (countedIn cls x) = s.pru.count cls x + (countedIn cls x (n, p)).toNat)
    (missing : r.missingCount + s.persons.holds n markedMissing = s.pru.missingCount + p.att.missing.toNat)
    (marked : p.att.missing = true → p.att.presence = .ashore) : State.presenceLaw { s with persons := s.persons.set n p, pru := r } := by
  obtain ⟨wf, counted, marks, ashore⟩ := (presenceLaw_iff s).1 law
  refine (presenceLaw_iff _).2 ⟨Table.wf_set wf n p, fun cls x => ?_, ?_, Table.forall_mem_set ashore marked⟩
  · have moved := Table.countP_set wf (countedIn cls x) n p
    have now := counts cls x
    rw [counted] at now
    dsimp only
    omega
  · have moved := Table.countP_set wf markedMissing n p
    rw [marks] at missing
    dsimp only [markedMissing] at moved ⊢
    omega

/-- A person listed is counted. -/
theorem count_pos (law : s.presenceLaw) (get : s.persons.get n = some p) : 0 < s.pru.count p.ident.cls p.att.presence := by
  rw [((presenceLaw_iff s).1 law).2.1]
  exact List.countP_pos_iff.2 ⟨_, Table.mem_of_get get, decide_eq_true ⟨rfl, rfl⟩⟩

/-- One person moved between the counts of a class (R157). -/
theorem Pru.count_moveCount (r : Pru) {cls : PersonClass} {before : Presence} (counted : 0 < r.count cls before) (after : Presence)
    (cls' : PersonClass) (x : Presence) :
    (r.moveCount cls before after).count cls' x + (decide (cls = cls' ∧ before = x)).toNat
      = r.count cls' x + (decide (cls = cls' ∧ after = x)).toNat := by
  simp only [Pru.moveCount, Pru.count_setCount, true_and]
  by_cases within : cls = cls'
  · subst within
    by_cases leaves : before = x <;> by_cases enters : after = x
    · subst leaves enters; simp; omega
    · subst leaves; simp [enters]; omega
    · subst enters; simp [leaves]
    · simp [leaves, enters]
  · simp [within]

/-! ### A person's record written -/

theorem isDeparted_set (k : Nat) :
    State.isDeparted { s with persons := s.persons.set n p } k = if k = n then decide (p.att.presence = .departed) else s.isDeparted k := by
  simp only [State.isDeparted, Table.get_set]
  by_cases here : k = n <;> simp [here]

/-- The person's cards are none of them ACTIVE or SUSPENDED (R8). -/
def Crg.noLiveCard (g : Crg) (person : Nat) : Prop := ∀ e ∈ g.ring, e.2.person = person → ¬ (e.2.state = .active ∨ e.2.state = .suspended)

theorem departureLaw_set {r : Pru} (law : s.departureLaw)
    (departed : p.att.presence = .departed → s.isDeparted n = true ∨ s.crg.noLiveCard n) :
    State.departureLaw { s with persons := s.persons.set n p, pru := r } := by
  refine ⟨Table.wf_set law.1 n p, fun e listed live => (isDeparted_set (s := s) e.2.person).trans ?_⟩
  split
  next here =>
    refine decide_eq_false fun now => ?_
    rcases departed now with before | none
    · have := law.2 e listed live
      rw [here, before] at this; cases this
    · exact none e listed here live
  next => exact law.2 e listed live

theorem listsCabin_set (k cabin : Nat) :
    State.listsCabin { s with persons := s.persons.set n p } k cabin
      = if k = n then p.ident.cabins.contains cabin else s.listsCabin k cabin := by
  simp only [State.listsCabin, Table.get_set]
  by_cases here : k = n <;> simp [here]

theorem bindingLaw_set {r : Pru} (law : s.bindingLaw) (same : ∀ cabin, p.ident.cabins.contains cabin = s.listsCabin n cabin)
    (lengths : p.ident.cabins.length ≤ 4 ∧ p.ident.cabins.Nodup) :
    State.bindingLaw { s with persons := s.persons.set n p, pru := r } := by
  obtain ⟨wf, cabins, mirror, bindings, persons⟩ := law
  refine ⟨Table.wf_set wf n p, cabins, fun k cabin => (listsCabin_set (s := s) k cabin).trans ?_, bindings, Table.forall_mem_set persons lengths⟩
  rw [← show s.listsPerson k cabin = State.listsPerson { s with persons := s.persons.set n p, pru := r } k cabin from rfl, ← mirror]
  split
  next here => rw [here, same]
  next => rfl

theorem listsCabin_of_get (get : s.persons.get n = some p) (cabin : Nat) : s.listsCabin n cabin = p.ident.cabins.contains cabin := by
  rw [State.listsCabin, get]

theorem isDeparted_of_get (get : s.persons.get n = some p) : s.isDeparted n = decide (p.att.presence = .departed) := by
  rw [State.isDeparted, get]

/-- A person's record changed where the counts, the lists and R8 do not look. -/
theorem putPerson_keeps {p' : Person} (get : s.persons.get n = some p) (cls : p'.ident.cls = p.ident.cls) (cabins : p'.ident.cabins = p.ident.cabins)
    (presence : p'.att.presence = p.att.presence) (missing : p'.att.missing = p.att.missing) : Keeps s (putPerson n p' s) := by
  refine Keeps.of_persons (r := s.pru) (fun wf => Table.wf_set wf n p') (fun law => ?_) (fun laws => ?_) (fun law => ?_)
  · refine presenceLaw_set law (fun c x => ?_) ?_ ?_
    · rw [Table.holds_of_some get, countedIn, countedIn, cls, presence]
    · rw [Table.holds_of_some get, markedMissing, missing]
    · rw [missing, presence]; exact law.2.2.2 _ (Table.mem_of_get get)
  · exact departureLaw_set laws.2 fun now => .inl (by rw [isDeparted_of_get get, ← presence]; exact decide_eq_true now)
  · refine bindingLaw_set law (fun cabin => ?_) ?_
    · rw [listsCabin_of_get get, cabins]
    · rw [cabins]; exact law.2.2.2.2 _ (Table.mem_of_get get)

/-! ### Cards (R7, R8) -/

/-- A card rewritten in its slot with its serial, kept from a DEPARTED person when it is ACTIVE or SUSPENDED. -/
theorem putCard_keeps {slot : Nat} {c c' : Card} (get : s.crg.ring.get slot = some c) (serial : c'.serial = c.serial)
    (live : s.departureLaw → c'.state = .active ∨ c'.state = .suspended → s.isDeparted c'.person = false) : Keeps s (putCard slot c' s) := by
  refine Keeps.of_crg (Crg.lawful_set get serial) (fun wf => Table.wf_set wf slot c') fun law => ⟨law.1, ?_⟩
  exact Table.forall_mem_set law.2 (live law)

theorem departCards_keeps (person : Nat) (s : State) : Keeps s (departCards person s) := by
  have serial (c : Card) : (c.departedIf person).serial = c.serial := by unfold Card.departedIf; split <;> rfl
  refine Keeps.of_crg (Crg.lawful_mapVals serial) (fun wf => Table.wf_mapVals wf fun c => c.departedIf person) fun law => ⟨law.1, ?_⟩
  refine List.forall_mem_map.2 fun e listed live => ?_
  show s.isDeparted (e.2.departedIf person).person = false
  dsimp only at live
  unfold Card.departedIf at live ⊢
  split at live
  next => exact absurd live (by simp)
  next other => rw [if_neg other]; exact law.2 e listed live

theorem departCards_noLiveCard (person : Nat) (s : State) : (departCards person s).crg.noLiveCard person := by
  refine List.forall_mem_map.2 fun e _ here live => ?_
  dsimp only [Card.departedIf] at here live
  split at live
  next => exact absurd live (by simp)
  next other => rw [if_neg other] at here; exact other ⟨here, live⟩

/-- A card that a search finds stands in its slot. -/
theorem Crg.get_of_found {g : Crg} {serial : Word32} {slot : Nat} {c : Card} (found : g.search serial = .found slot c) :
    g.ring.get slot = some c ∧ c.serial = serial := by
  have searched := g.search_endOfRun serial
  rw [found] at searched
  obtain ⟨d, -, rfl, card, same, -⟩ := searched
  exact ⟨card, same⟩

theorem isDeparted_of_live {slot : Nat} {c : Card} (get : s.crg.ring.get slot = some c) (law : s.departureLaw)
    (live : c.state = .active ∨ c.state = .suspended) : s.isDeparted c.person = false :=
  law.2 _ (Table.mem_of_get get) live

theorem failureUpdate_keeps (serial : Word32) (s : State) : Keeps s (failureUpdate serial s) := by
  unfold failureUpdate
  split
  next slot c found =>
    have card := (Crg.get_of_found found).1
    have kept := putCard_keeps (c' := { c with failStreak := min 7 (c.failStreak + 1) }) card rfl (isDeparted_of_live (c := c) card)
    dsimp only
    split
    · exact Keeps.refl s
    · split
      · exact kept.trans (raise_keeps _ _ _ _)
      · exact kept
  next => exact Keeps.refl s

theorem successUpdate_keeps (serial : Word32) (s : State) : Keeps s (successUpdate serial s) := by
  unfold successUpdate
  split
  next slot c found =>
    have card := (Crg.get_of_found found).1
    split
    · exact Keeps.refl s
    · exact putCard_keeps (c' := { c with failStreak := 0, lastUse := some s.scl.voyage }) card rfl (isDeparted_of_live (c := c) card)
  next => exact Keeps.refl s

end

end Sys2Proof.Machine
end

section
/-! A change of presence (R154-R159) keeps the laws: the cards depart first, then the person's record and the counts move together. -/
namespace Sys2Proof.Machine

section
variable {s : State} {n : Nat} {p : Person} {after : Presence} {stamp : Nat} {station : Option (Fin 4)} {irregular : Bool}

/-- The person after a change of presence: a person who leaves ASHORE is MISSING no more (R156, R163). -/
def Person.movedTo (p : Person) (after : Presence) (stamp : Nat) (station : Option (Fin 4)) (irregular : Bool) : Person :=
  { p with att := { p.att with presence := after, stamp := stamp, lastStation := station, irregular := irregular,
                               missing := if p.att.presence = .ashore ∧ p.att.missing = true then false else p.att.missing } }

theorem clearMark_pru (s : State) : (clearMark s).pru = { s.pru with missingCount := s.pru.missingCount - 1 } := by
  unfold clearMark; dsimp only; split <;> simp

@[simp] theorem changePresence_persons : (changePresence n p after stamp station irregular s).persons
    = s.persons.set n (p.movedTo after stamp station irregular) := by
  unfold changePresence Person.movedTo; dsimp only; (repeat' split) <;> simp_all

theorem changePresence_pru : (changePresence n p after stamp station irregular s).pru
    = { s.pru.moveCount p.ident.cls p.att.presence after with
        missingCount := if p.att.presence = .ashore ∧ p.att.missing = true then s.pru.missingCount - 1 else s.pru.missingCount } := by
  unfold changePresence; dsimp only; (repeat' split) <;> simp [clearMark_pru, Pru.moveCount, Pru.setCount]

theorem depart_crg (n folio : Nat) (s : State) : (depart n folio s).crg = (departCards n s).crg := by
  unfold depart; dsimp only; split <;> simp

theorem changePresence_crg : (changePresence n p after stamp station irregular s).crg
    = if after = .departed then (departCards n s).crg else s.crg := by
  unfold changePresence; dsimp only; (repeat' split) <;> simp_all [depart_crg, departCards]

/-- ATTN's law is kept by the raises of a change of presence (R156, R163). -/
theorem changePresence_attention (lawful : s.atu.lawful = true) : (changePresence n p after stamp station irregular s).atu.lawful = true := by
  have clear (u : State) (law : u.atu.lawful = true) : (clearMark u).atu.lawful = true := by
    unfold clearMark; dsimp only; split
    · exact (raise_keeps _ _ _ _).attention law
    · exact law
  have leave (u : State) (law : u.atu.lawful = true) : (depart n p.ident.folio u).atu.lawful = true := by
    unfold depart; dsimp only; split
    · exact (raise_keeps _ _ _ _).attention law
    · exact law
  unfold changePresence
  dsimp only
  split
  · refine leave _ ?_
    split
    · exact clear _ lawful
    · exact lawful
  · split
    · exact clear _ lawful
    · exact lawful

/-- The person's record and the counts of a change of presence (R157, R163). -/
theorem movedTo_keeps {r : Pru} (get : s.persons.get n = some p)
    (counts : r.counts = (s.pru.moveCount p.ident.cls p.att.presence after).counts)
    (missing : r.missingCount = if p.att.presence = .ashore ∧ p.att.missing = true then s.pru.missingCount - 1 else s.pru.missingCount)
    (departed : after = .departed → s.crg.noLiveCard n) :
    Keeps s { s with persons := s.persons.set n (p.movedTo after stamp station irregular), pru := r } := by
  refine Keeps.of_persons (fun wf => Table.wf_set wf n _) (fun law => ?_) (fun laws => ?_) (fun law => ?_)
  · have counted := count_pos law get
    have marks := Table.countP_erase law.1 markedMissing n
    rw [Table.holds_of_some get, ← (presenceLaw_iff s |>.1 law).2.2.1] at marks
    have ashore : p.att.missing = true → p.att.presence = .ashore := law.2.2.2 _ (Table.mem_of_get get)
    refine presenceLaw_set law (fun cls x => ?_) ?_ (fun marked => ?_)
    · rw [Table.holds_of_some get]
      have moved := Pru.count_moveCount s.pru counted after cls x
      rw [Pru.count, ← counts] at moved
      exact moved
    · rw [missing, Table.holds_of_some get]
      dsimp only [Person.movedTo, markedMissing] at marks ⊢
      cases marked : p.att.missing
      · simp
      · rw [marked] at marks
        simp only [ashore marked, and_self, if_true, Bool.toNat_true, Bool.toNat_false] at marks ⊢
        omega
    · simp only [Person.movedTo] at marked
      split at marked
      next => cases marked
      next other => exact absurd ⟨ashore marked, marked⟩ other
  · exact departureLaw_set laws.2 fun now => .inr (departed now)
  · exact bindingLaw_set law (fun cabin => (listsCabin_of_get get cabin).symm) (law.2.2.2.2 _ (Table.mem_of_get get))

theorem changePresence_keeps (get : s.persons.get n = some p) : Keeps s (changePresence n p after stamp station irregular s) := by
  let t := changePresence n p after stamp station irregular s
  have causes : Keeps s { s with atu := t.atu } := Keeps.of_atu changePresence_attention
  have cards : Keeps { s with atu := t.atu } { s with atu := t.atu, crg := t.crg } := by
    dsimp only [t]
    rw [changePresence_crg]
    split
    · exact departCards_keeps n { s with atu := t.atu }
    · exact Keeps.refl _
  have person : Keeps { s with atu := t.atu, crg := t.crg } { s with atu := t.atu, crg := t.crg, persons := t.persons, pru := t.pru } := by
    dsimp only [t]
    rw [changePresence_persons]
    refine movedTo_keeps get (by rw [changePresence_pru]) (by rw [changePresence_pru]) fun now => ?_
    dsimp only
    rw [changePresence_crg, if_pos now]
    exact departCards_noLiveCard n s
  exact (causes.trans (cards.trans person)).trans (Keeps.of_lawData (by simp [State.lawData, t]))

theorem sighting_keeps (get : s.persons.get n = some p) (serial : Word32) (w : Sighted) : Keeps s (sighting n p serial w s) := by
  unfold sighting
  split
  · exact ((changePresence_keeps get).trans (raise_keeps _ _ _ _)).trans (offerEvent_keeps _ _)
  · exact Keeps.refl s

/-- What a lookup finds: a card in its slot, and its person (R6). -/
theorem lookup_eq_some {serial : Word32} {f : Found} (found : lookup serial s = some f) :
    s.crg.search serial = .found f.slot f.card ∧ f.card.state ≠ .withdrawn ∧ s.persons.get f.card.person = some f.person := by
  unfold lookup at found
  split at found
  next slot c search =>
    split at found
    next => cases found
    next live =>
      obtain ⟨p, person, rfl⟩ := Option.map_eq_some_iff.1 found
      exact ⟨search, live, person⟩
  next => cases found

end

end Sys2Proof.Machine
end

section
/-! Folios and holds (R65, R70, R71): the changes of a folio that keep its law, and the shared operations on folios and tills. -/
namespace Sys2Proof.Machine

/-! ### The law of one folio -/

section
variable {f : Folio} {h : Hold}

theorem Folio.length_le_reserved (amounts : ∀ h ∈ f.holds, 1 ≤ h.amount ∧ h.amount ≤ 8388607) : (f.holds.length : Int) ≤ f.reserved := by
  unfold Folio.reserved
  generalize f.holds = l at amounts ⊢
  induction l with
  | nil => simp
  | cons h l ih =>
    obtain ⟨head, tail⟩ := List.forall_mem_cons.1 amounts
    have := ih tail
    simp only [List.map_cons, List.sum_cons, List.length_cons]
    omega

/-- An OPEN folio over its limit is FROZEN, so that only the other laws need to hold before (R70). -/
theorem Folio.lawful_frozenIfOver (closed : f.state = .closed → f.holds = [])
    (lower : -1073741824 ≤ f.balance) (upper : f.balance + 8388607 * f.holds.length ≤ 1107296256)
    (limit : 0 ≤ f.limit ∧ f.limit ≤ 1073741824) (few : f.holds.length ≤ 4) (amounts : ∀ h ∈ f.holds, 1 ≤ h.amount ∧ h.amount ≤ 8388607) :
    f.frozenIfOver.lawful := by
  unfold Folio.frozenIfOver
  split
  next => exact ⟨nofun, nofun, lower, upper, limit.1, limit.2, few, amounts⟩
  next within =>
    refine ⟨fun opened => Int.not_lt.1 fun exceeds => within ⟨opened, ?_⟩, closed, lower, upper, limit.1, limit.2, few, amounts⟩
    exact decide_eq_true exceeds

theorem Folio.without_holds_sublist (f : Folio) (number : Nat) : (f.without number).holds.Sublist f.holds := List.filter_sublist

theorem Folio.reserved_without_le (amounts : ∀ h ∈ f.holds, 1 ≤ h.amount ∧ h.amount ≤ 8388607) (number : Nat) :
    (f.without number).reserved ≤ f.reserved := by
  unfold Folio.reserved Folio.without
  dsimp only
  generalize f.holds = l at amounts ⊢
  induction l with
  | nil => exact le_rfl
  | cons h l ih =>
    obtain ⟨head, tail⟩ := List.forall_mem_cons.1 amounts
    have := ih tail
    rw [List.filter_cons]
    split <;> simp only [List.map_cons, List.sum_cons] <;> omega

/-- A hold leaves the folio (R73, R75). -/
theorem Folio.lawful_without (lawful : f.lawful) (number : Nat) : (f.without number).lawful := by
  obtain ⟨opened, closed, lower, upper, limit, limit', few, amounts⟩ := lawful
  have fewer := (f.without_holds_sublist number).length_le
  have less := Folio.reserved_without_le amounts number
  refine ⟨fun o => ?_, fun c => ?_, lower, ?_, limit, limit', fewer.trans few, fun h mem => amounts h (List.mem_of_mem_filter mem)⟩
  · have := opened o
    show f.balance + (f.without number).reserved ≤ f.limit
    omega
  · show f.holds.filter _ = []
    rw [closed c]; rfl
  · show f.balance + 8388607 * ((f.without number).holds.length : Int) ≤ 1107296256
    omega

theorem Folio.lawful_markDue (lawful : f.lawful) (number : Nat) : (f.markDue number).lawful := by
  obtain ⟨opened, closed, lower, upper, limit, limit', few, amounts⟩ := lawful
  have length : (f.markDue number).holds.length = f.holds.length := List.length_map ..
  have reserved : (f.markDue number).reserved = f.reserved := by
    unfold Folio.reserved Folio.markDue
    rw [List.map_map]
    refine congrArg List.sum (List.map_congr_left fun h _ => ?_)
    rw [Function.comp_apply]; split <;> rfl
  refine ⟨fun o => reserved ▸ opened o, fun c => ?_, lower, length ▸ upper, limit, limit', length ▸ few, List.forall_mem_map.2 fun h mem => ?_⟩
  · show f.holds.map _ = []
    rw [closed c]; rfl
  · have := amounts h mem
    split <;> exact this

/-- A hold joins the folio within its limit (R65, R72). -/
theorem Folio.lawful_addHold (lawful : f.lawful) (opened : f.state = .opened) (room : f.holds.length < 4)
    (amount : 1 ≤ h.amount ∧ h.amount ≤ 8388607) (within : f.balance + f.reserved + h.amount ≤ f.limit) : (f.addHold h).lawful := by
  obtain ⟨-, closed, lower, upper, limit, limit', few, amounts⟩ := lawful
  have reserved : (f.addHold h).reserved = f.reserved + h.amount := by simp [Folio.reserved, Folio.addHold]
  have length : (f.addHold h).holds.length = f.holds.length + 1 := List.length_append ..
  have least := Folio.length_le_reserved amounts
  refine ⟨fun _ => ?_, fun c => ?_, lower, ?_, limit, limit', ?_, List.forall_mem_append.2 ⟨amounts, fun x mem => ?_⟩⟩
  · show f.balance + (f.addHold h).reserved ≤ f.limit
    omega
  · rw [show (f.addHold h).state = f.state from rfl, opened] at c; cases c
  · show f.balance + 8388607 * ((f.addHold h).holds.length : Int) ≤ 1107296256
    simp only [Config.balanceBound] at limit'
    omega
  · rw [length]; exact room
  · rw [List.mem_singleton.1 mem]; exact amount

/-- The bound of an amount posted in place of a hold (R71, R73). -/
theorem Folio.length_without_lt {number : Nat} (held : f.hold number = some h) : (f.without number).holds.length < f.holds.length := by
  have mem := List.mem_of_find?_eq_some held
  have here : (h.number == number) = true := List.find?_some (p := fun x : Hold => x.number == number) held
  refine List.length_filter_lt_length_iff_exists.2 ⟨h, mem, ?_⟩
  simpa using here

end

/-! ### Operations on folios -/

section
variable {s : State} {n : Nat} {f : Folio}

theorem lawful_of_get (get : s.fst.folios.get n = some f) (law : s.folioLaw) : f.lawful := law.1 _ (Table.mem_of_get get)

theorem putFolio_keeps (lawful : s.folioLaw → f.lawful) : Keeps s (putFolio n f s) :=
  Keeps.of_fst (fun law => Table.forall_mem_set law.1 (lawful law)) fun wf => Table.wf_set wf n f

/-- A folio in use changed in place (chapter 4.1). -/
theorem changedFolio_keeps {f' : Folio} (get : s.fst.folios.get n = some f) (lawful : f.lawful → f'.lawful) : Keeps s (putFolio n f' s) :=
  putFolio_keeps fun law => lawful (lawful_of_get get law)

theorem nearTest_keeps (n : Nat) (s : State) : Keeps s (nearTest n s) := by
  unfold nearTest
  split
  next f get =>
    split
    · refine Keeps.trans ?_ (raise_keeps _ _ _ _)
      exact changedFolio_keeps get id
    · exact Keeps.refl s
  next => exact Keeps.refl s

theorem showBalance_keeps (n : Nat) (s : State) : Keeps s (showBalance n s) := by
  unfold showBalance
  split
  next f get =>
    split
    · refine Keeps.trans ?_ (raise_keeps _ _ _ _)
      exact changedFolio_keeps get id
    · exact Keeps.refl s
  next => exact Keeps.refl s

theorem postFromTill_keeps (lawful : s.folioLaw → f.frozenIfOver.lawful) : Keeps s (postFromTill n f s) := by
  unfold postFromTill
  dsimp only
  split
  · exact (putFolio_keeps lawful).trans (raise_keeps _ _ _ _)
  · exact putFolio_keeps lawful

theorem addToDay_keeps (amount : Int) (s : State) : Keeps s (addToDay amount s) := by
  refine Keeps.of_lawData ?_
  unfold addToDay Fst.addToDay
  split
  · rfl
  · split <;> rfl

theorem changePersonCount_keeps (n : Nat) (change : Nat → Nat) (s : State) : Keeps s (changePersonCount n change s) := by
  unfold changePersonCount
  split
  next f get => exact changedFolio_keeps get id
  next => exact Keeps.refl s

theorem expireHold_keeps (folio number : Nat) (s : State) : Keeps s (expireHold folio number s) := by
  unfold expireHold
  split
  next f get =>
    split
    next h held =>
      have offered := offerMoney_keeps (expireRecord folio h) s
      have get' : (offerMoney (expireRecord folio h) s).2.fst.folios.get folio = some f := by rw [offerMoney_fst]; exact get
      split
      next t took =>
        rw [took] at offered get'
        exact (offered.trans (changedFolio_keeps get' fun law => Folio.lawful_without law number)).trans (nearTest_keeps _ _)
      next t refused =>
        rw [refused] at offered get'
        exact offered.trans (changedFolio_keeps get' fun law => Folio.lawful_markDue law number)
    next => exact Keeps.refl s
  next => exact Keeps.refl s

/-! ### Tills -/

theorem putTill_keeps {i : Fin 128} {x : Till} (lawful : s.folioLaw → x.lawful) : Keeps s (putTill i x s) := by
  refine Keeps.of_chu fun law y mem => ?_
  obtain ⟨k, inTable, rfl⟩ := List.mem_iff_getElem.1 mem
  simp only [Vector.getElem_toList, Vector.getElem_set]
  split
  · exact lawful law
  · exact law.2 _ (Vector.mem_toList_iff.2 (Vector.getElem_mem _))

theorem till_lawful (law : s.folioLaw) (i : Fin 128) : (s.till i).lawful := law.2 _ (Vector.mem_toList_iff.2 (Vector.getElem_mem _))

/-- A till that waits for nothing is within its ranges. -/
theorem Till.lawful_of_idle {x : Till} (idle : x.working = none) : x.lawful := fun w waits => by rw [idle] at waits; cases waits

theorem formed_keeps (p : Port) (f : Frame) (s : State) : Keeps s (formed p f s) := Keeps.of_lawData rfl

theorem decideTill_keeps (i : Fin 128) (kind : TillKind) (sequence : Byte) (b : AnswerBody) (s : State) :
    Keeps s (decideTill i kind sequence b s) :=
  (putTill_keeps fun _ => Till.lawful_of_idle rfl).trans (formed_keeps ..)

end

/-! ### The boundary (R26-R36, R75, R161, R165) -/

@[simp] theorem lawData_withBoundary (s : State) (b : Option Boundary) : State.lawData { s with boundary := b } = s.lawData := rfl

theorem showCounts_lawData (before : Nat) (c : Counts) (g : Fin 4) (s : State) : (showCounts before c g s).lawData = s.lawData := by
  unfold showCounts; split <;> rfl

/-- The laws speak of the presence counts alone of what the timer and the displays change (R161). -/
theorem finishBoundary_lawData (before : Nat) (s : State) : (finishBoundary before s).lawData = s.lawData := by
  have armed : State.lawData { s with pru := s.pru.arm } = s.lawData := by
    have counts : s.pru.arm.counts = s.pru.counts ∧ s.pru.arm.missingCount = s.pru.missingCount := by
      unfold Pru.arm; split <;> exact ⟨rfl, rfl⟩
    simp only [State.lawData, counts]
  rw [finishBoundary, lawData_withBoundary]
  simp only [showAll, showCounts_lawData, armed]

theorem reachTimer_lawData (before : Nat) (s : State) : (reachTimer before s).lawData = s.lawData := by
  unfold reachTimer
  split
  · rfl
  · exact finishBoundary_lawData before s

theorem reachHolds_lawData (before : Nat) (due : List (Nat × Nat)) (s : State) : (reachHolds before due s).lawData = s.lawData := by
  unfold reachHolds
  split
  · exact reachTimer_lawData before s
  · rfl

theorem reachClose_lawData (before : Nat) (s : State) : (reachClose before s).lawData = s.lawData := by
  unfold reachClose
  split
  · rfl
  · exact reachHolds_lawData ..

theorem reachZone_lawData (before : Nat) (s : State) : (reachZone before s).lawData = s.lawData := by
  unfold reachZone
  split
  · rfl
  · exact reachClose_lawData ..

theorem passTimer_lawData (before : Nat) (s : State) : (passTimer before s).lawData = s.lawData := by
  rw [passTimer, finishBoundary_lawData]
  have counts : s.pru.expire.counts = s.pru.counts ∧ s.pru.expire.missingCount = s.pru.missingCount := by
    unfold Pru.expire; split <;> exact ⟨rfl, rfl⟩
  simp only [State.lawData, counts]

theorem takeZoneShift_keeps (s : State) : Keeps s (takeZoneShift s) := by
  unfold takeZoneShift
  split
  · refine Keeps.trans (Keeps.trans ?_ (offerEvent_keeps _ _)) (raise_keeps _ _ _ _)
    exact Keeps.of_lawData rfl
  · exact Keeps.refl s

theorem makeDayClose_keeps (s : State) : Keeps s (makeDayClose s) := by
  have offered := offerMoney_keeps s.dayCloseRecord s
  unfold makeDayClose
  split
  next took =>
    rw [took] at offered
    refine Keeps.trans (offered.trans ?_) (raise_keeps _ _ _ _)
    exact Keeps.of_lawData rfl
  next refused => rw [refused] at offered; exact offered.trans (Keeps.of_lawData rfl)

theorem passZone_keeps (before : Nat) (s : State) : Keeps s (passZone before s) :=
  (takeZoneShift_keeps s).trans (Keeps.of_lawData (reachClose_lawData before _))

theorem passClose_keeps (before : Nat) (s : State) : Keeps s (passClose before s) :=
  (makeDayClose_keeps s).trans (Keeps.of_lawData (reachHolds_lawData before _ _))

theorem passHold_keeps (before : Nat) (due : List (Nat × Nat)) (s : State) : Keeps s (passHold before due s) := by
  unfold passHold
  split
  · exact Keeps.of_lawData (reachTimer_lawData before s)
  · exact (expireHold_keeps _ _ s).trans (Keeps.of_lawData (reachHolds_lawData before _ _))

theorem settleZone_keeps (s : State) : Keeps s (settleZone s) := by
  unfold settleZone
  split
  · split
    · exact passZone_keeps _ s
    · exact Keeps.refl s
  · exact Keeps.refl s

theorem settleClose_keeps (s : State) : Keeps s (settleClose s) := by
  unfold settleClose
  dsimp only
  refine (settleZone_keeps s).trans ?_
  split
  · split
    · exact passClose_keeps _ _
    · exact Keeps.refl _
  · exact Keeps.refl _

theorem settleHolds_keeps (s : State) : Keeps s (settleHolds s) := by
  unfold settleHolds
  dsimp only
  refine (settleClose_keeps s).trans ?_
  split
  · split
    · exact (Keeps.foldl (fun u (d : Nat × Nat) => expireHold_keeps d.1 d.2 u) _ _).trans (Keeps.of_lawData (reachTimer_lawData _ _))
    · exact Keeps.refl _
  · exact Keeps.refl _

theorem settle_keeps (s : State) : Keeps s (settle s) := by
  unfold settle
  dsimp only
  refine (settleHolds_keeps s).trans ?_
  split
  · split
    · exact Keeps.of_lawData (passTimer_lawData _ _)
    · exact Keeps.refl _
  · exact Keeps.refl _

theorem deliverBoundary_keeps (before after : Nat) (s : State) : Keeps s (deliverBoundary before after s) := by
  refine Keeps.of_lawData ?_
  unfold deliverBoundary
  dsimp only
  rw [reachZone_lawData]
  split <;> rfl

/-! ### Requests (R190) -/

theorem received_keeps (p : Port) (s : State) : Keeps s (received p s) := (settle_keeps s).trans (Keeps.of_lawData rfl)

theorem sendReply_keeps (code tag : Byte) (a : Answer) (ofExchange : Bool) (s : State) : Keeps s (sendReply code tag a ofExchange s) :=
  Keeps.of_lawData rfl

theorem execute_keeps {own : State → Answer × State} {s : State} (owner : Keeps s (own s).2) (code tag : Byte) :
    Keeps s (execute code tag own s) := owner.trans (Keeps.of_lawData rfl)

/-- A request keeps the laws when its owner keeps them on values that its field table decodes. -/
theorem hostRequest_keeps {code : Byte} {fields : List Field} {cross : Values → Option Nat} {own : Values → State → Answer × State}
    {tag : Byte} {body : List Byte} {s : State} (owner : ∀ v, judgeFields fields cross body = .ok v → ∀ u, Keeps u (own v u).2) :
    Keeps s (hostRequest code fields cross own tag body s) := by
  unfold hostRequest
  dsimp only
  refine (received_keeps .service s).trans ?_
  split
  · split
    · exact sendReply_keeps ..
    next v decoded => exact execute_keeps (owner v decoded _) code tag
  · exact sendReply_keeps ..

end Sys2Proof.Machine
end

section
/-! Cards, persons and the purge (chapter 1) keep the laws. -/
namespace Sys2Proof.Machine

variable {v : Values} {s : State}

/-! ### Cards (R9, R10) -/

theorem insertCard_keeps {slot : Nat} {c : Card} {p : Person} (search : s.crg.search c.serial = .freeAt slot) (live : s.crg.live < 12000)
    (person : s.persons.get c.person = some p) (present : p.att.presence ≠ .departed) : Keeps s (insertCard slot c p s) := by
  have inserted : Keeps s (putCard slot c s) := by
    refine Keeps.of_crg (Crg.lawful_insert search live) (fun wf => Table.wf_set wf slot c) fun law => ⟨law.1, ?_⟩
    refine Table.forall_mem_set law.2 fun _ => ?_
    exact (isDeparted_of_get person).trans (decide_eq_false present)
  have counted : Keeps (putCard slot c s) (putPerson c.person { p with ident := { p.ident with cardCount := p.ident.cardCount + 1 } }
      (putCard slot c s)) := putPerson_keeps (p := p) person rfl rfl rfl rfl
  unfold insertCard
  dsimp only
  split
  · exact (inserted.trans counted).trans (raise_keeps _ _ _ _)
  · exact inserted.trans counted

theorem issueCard_keeps (v : Values) (s : State) : Keeps s (issueCard v s).2 := by
  unfold issueCard
  split
  next => exact Keeps.refl s
  next p person =>
    split
    next => exact Keeps.refl s
    next present =>
      split
      next => exact Keeps.refl s
      next =>
        split
        next => exact Keeps.refl s
        next live =>
          split
          next => exact Keeps.refl s
          next => exact Keeps.refl s
          next slot search => exact insertCard_keeps (c := newCard v s.scl.voyage) search (Nat.lt_of_not_le live) person present

/-- SET CARD STATE makes no card of a DEPARTED person ACTIVE or SUSPENDED that was neither (R10). -/
theorem cardOutcome_live {state next : CardState} {action : CardAction} {departed : Bool} (outcome : cardOutcome state action departed = .ok next)
    (live : next = .active ∨ next = .suspended) : departed = false ∨ state = .active ∨ state = .suspended := by
  cases action <;> cases state <;> cases departed <;> cases outcome <;> simp_all

theorem setCardState_keeps (v : Values) (s : State) : Keeps s (setCardState v s).2 := by
  unfold setCardState
  split
  next slot c found =>
    have card := (Crg.get_of_found found).1
    split
    next => exact Keeps.refl s
    next st outcome =>
      refine putCard_keeps card rfl fun law live => ?_
      exact (cardOutcome_live outcome live).elim id fun before => isDeparted_of_live (c := c) card law before
  next => exact Keeps.refl s

/-! ### Persons (R13) -/

/-- The presence that an ADD PERSON asks for, EXPECTED when the field is absent (R13). -/
def Values.askedPresence (v : Values) : Presence :=
  match v.optNat 4 with
  | some p => presenceOf p
  | none => .expected

/-- The state with a person of ADD PERSON's class, folio and presence in use, and counted (R13). -/
def personAdded (n : Nat) (cls : PersonClass) (folio : Nat) (presence : Presence) (s : State) : State :=
  { putPerson n (newPerson cls folio presence s.scl.voyage) s with pru := s.pru.setCount cls presence (s.pru.count cls presence + 1) }

theorem addPerson_eq (v : Values) (s : State) : addPerson v s =
    if (s.persons.get (v.nat 1)).isSome then refuse .conflict s
    else if v.nat 3 ≠ 0 ∧ (s.fst.folios.get (v.nat 3)).isNone then refuse .notFound s
    else if v.askedPresence = .departed then refuse .range s
    else
      ({ status := .done },
        if v.nat 3 = 0 then personAdded (v.nat 1) (classOf (v.nat 2)) (v.nat 3) v.askedPresence s
        else changePersonCount (v.nat 3) (· + 1) (personAdded (v.nat 1) (classOf (v.nat 2)) (v.nat 3) v.askedPresence s)) := rfl

theorem personAdded_keeps {n : Nat} {cls : PersonClass} {folio : Nat} {presence : Presence} (free : s.persons.get n = none)
    (present : presence ≠ .departed) : Keeps s (personAdded n cls folio presence s) := by
  refine Keeps.of_persons (fun wf => Table.wf_set wf _ _) (fun law => ?_) (fun laws => ?_) (fun law => ?_)
  · refine presenceLaw_set law (fun cls' x => ?_) ?_ nofun
    · rw [Table.holds_of_none free, Pru.count_setCount, countedIn, newPerson]
      dsimp only
      split
      next here => rw [decide_eq_true here, here.1, here.2]; rfl
      next other => rw [decide_eq_false other]; rfl
    · rw [Table.holds_of_none free]; rfl
  · exact departureLaw_set laws.2 fun departed => absurd departed present
  · refine bindingLaw_set law (fun cabin => ?_) ⟨Nat.zero_le _, List.nodup_nil⟩
    rw [State.listsCabin, free]; rfl

theorem addPerson_keeps (v : Values) (s : State) : Keeps s (addPerson v s).2 := by
  rw [addPerson_eq]
  split
  next => exact Keeps.refl s
  next unused =>
    split
    next => exact Keeps.refl s
    next =>
      split
      next => exact Keeps.refl s
      next present =>
        have added := personAdded_keeps (cls := classOf (v.nat 2)) (folio := v.nat 3) (Option.not_isSome_iff_eq_none.1 unused) present
        dsimp only
        split
        · exact added
        · exact added.trans (changePersonCount_keeps _ _ _)

/-! ### The purge (R15-R23) -/

theorem purgeStart_keeps (v : Values) (s : State) : Keeps s (purgeStart v s).2 := by
  unfold purgeStart
  split
  next idle => exact Keeps.of_purge <| Crg.lawful_purge (fun _ => rfl) fun h walk _ phase => by rw [idle] at phase; cases phase
  next => exact Keeps.refl s

theorem purgeAbort_keeps (v : Values) (s : State) : Keeps s (purgeAbort v s).2 := by
  unfold purgeAbort
  split
  · exact Keeps.refl s
  · exact Keeps.of_purge <| Crg.lawful_purge id fun h walk shift phase => ⟨shift, walk, phase⟩

/-- A purge ends with no shift in progress, or outside phase CARDS (R22, R23). -/
theorem endPurge_keeps (e : Ending) (ends : s.crg.purge.shift = none ∨ ∀ walk, s.crg.purge.phase ≠ .cards walk) : Keeps s (endPurge e s) := by
  refine Keeps.trans ?_ (raise_keeps _ _ _ _)
  refine Keeps.of_purge <| Crg.lawful_purge (fun _ => rfl) fun h walk shift phase => ?_
  rcases ends with none | other
  · rw [none] at shift; cases shift
  · exact absurd phase (other walk)

theorem endsNow_shift {p : Purge} (ends : p.endsNow = true) : p.shift = none := by
  simp only [Purge.endsNow, Bool.and_eq_true] at ends
  exact Option.isNone_iff_eq_none.1 ends.2

theorem cardsOn_keeps (noShift : s.crg.purge.shift = none) (walk : Nat) : Keeps s (setPurge (s.crg.purge.cardsOn walk) s) :=
  Keeps.of_purge <| Crg.lawful_purge id fun h _ shift _ => by rw [noShift] at shift; cases shift

theorem removeCard_keeps {slot walk : Nat} {c : Card} (get : s.crg.ring.get slot = some c) (phase : s.crg.purge.phase = .cards walk)
    (noShift : s.crg.purge.shift = none) : Keeps s (removeCard slot c s) := by
  have removed (t : State) (crg : t.crg = s.crg) : Keeps t { t with
      crg := { ring := t.crg.ring.erase slot,
               purge := { t.crg.purge with shift := some { hole := slot, examine := nextSlot slot },
                                           counts := { t.crg.purge.counts with cards := t.crg.purge.counts.cards + 1 } } } } := by
    refine Keeps.of_crg ?_ (fun wf => Table.wf_erase wf slot) fun law => ⟨law.1, fun e listed => law.2 e (Table.mem_erase.1 listed).1⟩
    rw [crg]
    exact Crg.lawful_remove get phase noShift
  unfold removeCard
  dsimp only
  split
  next p person =>
    refine Keeps.trans ?_ (removed _ rfl)
    exact putPerson_keeps person rfl rfl rfl rfl
  next => exact removed s rfl

theorem cardsStep_keeps {walk : Nat} (phase : s.crg.purge.phase = .cards walk) (noShift : s.crg.purge.shift = none) :
    Keeps s (cardsStep walk s) := by
  unfold cardsStep
  split
  next c card =>
    split
    · exact removeCard_keeps card phase noShift
    · exact cardsOn_keeps noShift walk
  next => exact cardsOn_keeps noShift walk

theorem shifted_keeps {h : Shift} (shift : s.crg.purge.shift = some h) : Keeps s { s with crg := s.crg.shifted h } := by
  have listed (e : Nat × Card) (now : e ∈ (s.crg.shifted h).ring) : ∃ x ∈ s.crg.ring, x.2 = e.2 := by
    unfold Crg.shifted at now
    split at now
    next => exact ⟨e, now, rfl⟩
    next c card =>
      split at now
      next =>
        rcases Table.mem_set now with rfl | before
        · exact ⟨_, Table.mem_of_get card, rfl⟩
        · exact ⟨e, (Table.mem_erase.1 before).1, rfl⟩
      next => exact ⟨e, now, rfl⟩
  refine Keeps.of_crg (Crg.lawful_shifted shift) (fun wf => ?_) fun law => ⟨law.1, fun e now live => ?_⟩
  · unfold Crg.shifted
    split
    · exact wf
    · split
      · exact Table.wf_set (Table.wf_erase wf _) _ _
      · exact wf
  · obtain ⟨x, before, same⟩ := listed e now
    rw [← same] at live ⊢
    exact law.2 x before live

theorem freeFolio_keeps (n : Nat) (s : State) : Keeps s (freeFolio n s) := by
  refine Keeps.trans (t := { s with fst := { s.fst with folios := s.fst.folios.erase n } }) ?_ ?_
  · exact Keeps.of_fst (fun law e listed => law.1 e (Table.mem_erase.1 listed).1) fun wf => Table.wf_erase wf n
  · exact Keeps.of_purge <| Crg.lawful_purge id fun h walk shift phase => ⟨shift, walk, phase⟩

theorem foliosStep_keeps {walk : Nat} (phase : s.crg.purge.phase = .folios walk) : Keeps s (foliosStep walk s) := by
  have goesOn (t : State) (kept : Keeps s t) (phase : t.crg.purge.phase = .folios walk) :
      Keeps s (if walk + 1 > Config.folios then endPurge .complete t else setPurge { t.crg.purge with phase := .folios (walk + 1) } t) := by
    have inFolios (w : Nat) : t.crg.purge.phase ≠ .cards w := by rw [phase]; nofun
    refine kept.trans ?_
    split
    · exact endPurge_keeps _ (.inr inFolios)
    · exact Keeps.of_purge <| Crg.lawful_purge id fun h w _ cards => absurd cards (inFolios w)
  unfold foliosStep
  cases get : s.fst.folios.get walk with
  | none => exact goesOn s (Keeps.refl s) phase
  | some f =>
    cases free : f.freeable with
    | false => simp only [free]; exact goesOn s (Keeps.refl s) phase
    | true => simp only [free]; exact goesOn _ (freeFolio_keeps walk s) phase

end Sys2Proof.Machine
end

section
/-! The binding lists (R111) and the lock addresses (R110): what the laws of the cabins say number by number, and the changes that keep them. -/
namespace Sys2Proof.Machine

/-! ### Tables by their numbers -/

section
variable {α β : Type} {t u : Table α}

theorem Table.nodup_of_wf (wf : t.wf = true) : t.Nodup := (Table.wf_iff t |>.1 wf).imp fun before same => by subst same; omega

/-- In the canonical form a table is what its numbers read. -/
theorem Table.ext_of_get (wf : t.wf = true) (wf' : u.wf = true) (same : ∀ k, t.get k = u.get k) : t = u := by
  have members : t.Perm u := (List.perm_ext_iff_of_nodup (Table.nodup_of_wf wf) (Table.nodup_of_wf wf')).2 fun e => by
    rw [Table.mem_iff_get wf, Table.mem_iff_get wf', same]
  refine members.eq_of_pairwise (fun a b _ _ before after => ?_) (Table.wf_iff t |>.1 wf) (Table.wf_iff u |>.1 wf')
  omega

/-- The table of one part of every record. -/
def Table.project (g : α → β) (t : Table α) : Table β := t.map fun e => (e.1, g e.2)

theorem Table.get_project (g : α → β) (t : Table α) (k : Nat) : (t.project g).get k = (t.get k).map g := by
  induction t with
  | nil => rfl
  | cons e t ih =>
    rw [Table.project, List.map_cons, Table.get_cons, Table.get_cons]
    split
    · rfl
    · exact ih

theorem Table.wf_project (g : α → β) (wf : t.wf = true) : (t.project g).wf = true := by
  rw [Table.wf_iff] at *
  exact List.pairwise_map.2 wf

/-- Two tables whose numbers read the same part have that part in the same order. -/
theorem Table.project_congr {g : α → β} (wf : t.wf = true) (wf' : u.wf = true) (same : ∀ k, (t.get k).map g = (u.get k).map g) :
    t.project g = u.project g :=
  Table.ext_of_get (Table.wf_project g wf) (Table.wf_project g wf') fun k => by rw [Table.get_project, Table.get_project, same]

theorem Table.forall_iff_get (wf : t.wf = true) {P : Nat → α → Prop} : (∀ e ∈ t, P e.1 e.2) ↔ ∀ k a, t.get k = some a → P k a :=
  ⟨fun all _ _ get => all _ (Table.mem_of_get get), fun all _ listed => all _ _ (Table.get_of_mem wf listed)⟩

end

/-! ### The presence laws and the bound-cabin lists -/

/-- The class and the presence part of a person: what the laws of presence speak of. -/
def Person.standing (p : Person) : PersonClass × Attendance := (p.ident.cls, p.att)

section
variable {s : State} {ps : Table Person} {c : Cau} {ls : Vector Lsc 8}

/-- A change of the bound-cabin lists is no matter to the presence laws. -/
theorem presence_of_standing (wf : s.persons.wf = true → ps.wf = true) (same : ∀ k, (ps.get k).map Person.standing = (s.persons.get k).map Person.standing)
    (laws : s.presenceLaw ∧ s.departureLaw) :
    State.presenceLaw { s with persons := ps, cau := c, lscs := ls } ∧ State.departureLaw { s with persons := ps, cau := c, lscs := ls } := by
  obtain ⟨⟨persons, counts, missing, ashore⟩, -, departed⟩ := laws
  have project := Table.project_congr (wf persons) persons same
  have countP (q : PersonClass × Attendance → Bool) :
      ps.countP (fun e => q e.2.standing) = s.persons.countP (fun e => q e.2.standing) := by
    have := congrArg (List.countP fun e => q e.2) project
    rwa [Table.project, List.countP_map, Table.project, List.countP_map] at this
  refine ⟨⟨wf persons, fun cls x => ?_, ?_, ?_⟩, wf persons, fun e listed live => ?_⟩
  · exact (counts cls x).trans (countP fun a => decide (a.1 = cls ∧ a.2.presence = x)).symm
  · exact missing.trans (countP fun a => a.2.missing).symm
  · have part (t : Table Person) : (∀ e ∈ t, e.2.att.missing = true → e.2.att.presence = .ashore) ↔
        ∀ x ∈ t.project Person.standing, x.2.2.missing = true → x.2.2.presence = .ashore := by
      rw [Table.project, List.forall_mem_map]; rfl
    dsimp only
    rw [part, project, ← part]
    exact ashore
  · have stands := same e.2.person
    have before := departed e listed live
    rw [State.isDeparted] at before ⊢
    dsimp only
    cases now : ps.get e.2.person with
    | none => rfl
    | some p =>
      rw [now] at stands
      obtain ⟨q, was, standing⟩ := Option.map_eq_some_iff.1 stands.symm
      rw [was] at before
      have att : q.att = p.att := congrArg Prod.snd standing
      dsimp only at before ⊢
      rw [← att]; exact before

end

/-! ### The laws of the cabins, number by number -/

section
variable {s : State}

theorem bindingLaw_iff (s : State) : s.bindingLaw ↔ s.persons.wf = true ∧ s.cau.cabins.wf = true
    ∧ (∀ person cabin, s.listsCabin person cabin = s.listsPerson person cabin)
    ∧ (∀ k c, s.cau.cabins.get k = some c → c.bindings.length ≤ 6 ∧ (c.bindings.map (·.person)).Nodup)
    ∧ ∀ k p, s.persons.get k = some p → p.ident.cabins.length ≤ 4 ∧ p.ident.cabins.Nodup := by
  refine and_congr_right fun persons => and_congr_right fun cabins => and_congr_right fun _ => and_congr ?_ ?_
  · exact Table.forall_iff_get cabins (P := fun _ c => c.bindings.length ≤ 6 ∧ (c.bindings.map (·.person)).Nodup)
  · exact Table.forall_iff_get persons (P := fun _ p => p.ident.cabins.length ≤ 4 ∧ p.ident.cabins.Nodup)

theorem listsPerson_of_get {k : Nat} {c : Cabin} (get : s.cau.cabins.get k = some c) (person : Nat) :
    s.listsPerson person k = (c.bindings.map (·.person)).contains person := by
  rw [State.listsPerson, get]
  simp only [List.contains_eq_any_beq, List.any_map, Function.comp_def, Bool.beq_comm]

/-- The lock address of a cabin. -/
def Cabin.address (c : Cabin) : Fin 8 × Nat := (c.segment, c.node)

theorem cabinAt_isSome_iff (c : Cau) (i : Fin 8) (node : Nat) : (c.cabinAt i node).isSome = true ↔ (i, node) ∈ c.cabins.map (·.2.address) := by
  simp only [Cau.cabinAt, List.find?_isSome, Bool.and_eq_true, beq_iff_eq, List.mem_map, Cabin.address, Prod.mk.injEq]

theorem pollLaw_iff (s : State) : s.pollLaw ↔
    (∀ (i : Fin 8) (node : Nat), (s.lscs[i].nodes.get node).isSome = true ↔ (i, node) ∈ s.cau.cabins.map (·.2.address))
      ∧ s.cau.cabins.wf = true ∧ (s.cau.cabins.map (·.2.address)).Nodup := by
  have apart : (s.cau.cabins.map (·.2.address)).Nodup ↔
      s.cau.cabins.Pairwise (fun a b => ¬ (a.2.segment = b.2.segment ∧ a.2.node = b.2.node)) := by
    simp only [List.Nodup, List.pairwise_map, Cabin.address, ne_eq, Prod.mk.injEq]
  simp only [← cabinAt_isSome_iff, ← Bool.eq_iff_iff, apart]
  exact Iff.rfl

theorem address_of_project (t : Table Cabin) : t.map (·.2.address) = (t.project Cabin.address).map (·.2) := by
  rw [Table.project, List.map_map]; rfl

/-- A change that leaves the lock addresses keeps the poll law, when the poll lists list what they did. -/
theorem pollLaw_of_address {ps : Table Person} {c : Cau} {ls : Vector Lsc 8} (wf : s.cau.cabins.wf = true → c.cabins.wf = true)
    (same : ∀ k, (c.cabins.get k).map Cabin.address = (s.cau.cabins.get k).map Cabin.address)
    (nodes : ∀ (i : Fin 8) (node : Nat), (ls[i].nodes.get node).isSome = (s.lscs[i].nodes.get node).isSome) (law : s.pollLaw) :
    State.pollLaw { s with persons := ps, cau := c, lscs := ls } := by
  rw [pollLaw_iff] at law ⊢
  obtain ⟨lists, cabins, addresses⟩ := law
  have project : c.cabins.map (·.2.address) = s.cau.cabins.map (·.2.address) := by
    rw [address_of_project, address_of_project, Table.project_congr (wf cabins) cabins same]
  dsimp only
  rw [project]
  exact ⟨fun i node => by rw [nodes]; exact lists i node, wf cabins, addresses⟩

end

/-! ### Changes that keep the laws -/

section
variable {s : State}

theorem Keeps.of_registry {ps : Table Person} {r : Pru} {c : Cau} {ls : Vector Lsc 8} (persons : s.persons.wf = true → ps.wf = true)
    (cabins : s.cau.cabins.wf = true → c.cabins.wf = true)
    (nodes : (∀ i : Fin 8, s.lscs[i].nodes.wf = true) → ∀ i : Fin 8, ls[i].nodes.wf = true)
    (presence : s.presenceLaw ∧ s.departureLaw →
      State.presenceLaw { s with persons := ps, pru := r, cau := c, lscs := ls }
        ∧ State.departureLaw { s with persons := ps, pru := r, cau := c, lscs := ls })
    (laws : s.bindingLaw ∧ s.pollLaw →
      State.bindingLaw { s with persons := ps, pru := r, cau := c, lscs := ls }
        ∧ State.pollLaw { s with persons := ps, pru := r, cau := c, lscs := ls }) :
    Keeps s { s with persons := ps, pru := r, cau := c, lscs := ls } where
  attention := id
  journal := id
  tables := by
    simp only [canonical_iff]
    exact fun ⟨ring, known, folios, wf, jnl, lists⟩ => ⟨ring, persons known, folios, cabins wf, jnl, nodes lists⟩
  folios := id
  presence := presence
  cabins := laws
  ring := id

/-- The binding lists changed, every person's standing and every lock address as it was. -/
theorem Keeps.of_bindings {ps : Table Person} {c : Cau} (persons : s.persons.wf = true → ps.wf = true)
    (cabins : s.cau.cabins.wf = true → c.cabins.wf = true)
    (standing : ∀ k, (ps.get k).map Person.standing = (s.persons.get k).map Person.standing)
    (address : ∀ k, (c.cabins.get k).map Cabin.address = (s.cau.cabins.get k).map Cabin.address)
    (law : s.bindingLaw → State.bindingLaw { s with persons := ps, cau := c }) : Keeps s { s with persons := ps, cau := c } :=
  Keeps.of_registry (r := s.pru) (ls := s.lscs) persons cabins id (presence_of_standing persons standing)
    fun laws => ⟨law laws.1, pollLaw_of_address cabins address (fun _ _ => rfl) laws.2⟩

/-- Bindings leave the lists of cabins and persons together (R111). -/
theorem bindingLaw_unlinked {ps : Table Person} {r : Pru} {c : Cau} {ls : Vector Lsc 8} (law : s.bindingLaw) (persons : ps.wf = true)
    (cabins : c.cabins.wf = true) (unlinked : Nat → Nat → Bool)
    (known : ∀ k p, ps.get k = some p → ∃ q, s.persons.get k = some q ∧ p.ident.cabins.Sublist q.ident.cabins)
    (inUse : ∀ k x, c.cabins.get k = some x → ∃ y, s.cau.cabins.get k = some y ∧ x.bindings.Sublist y.bindings)
    (offPerson : ∀ k cabin, State.listsCabin { s with persons := ps, pru := r, cau := c, lscs := ls } k cabin
      = (s.listsCabin k cabin && !unlinked k cabin))
    (offCabin : ∀ k cabin, State.listsPerson { s with persons := ps, pru := r, cau := c, lscs := ls } k cabin
      = (s.listsPerson k cabin && !unlinked k cabin)) :
    State.bindingLaw { s with persons := ps, pru := r, cau := c, lscs := ls } := by
  obtain ⟨-, -, mirror, bindings, lists⟩ := (bindingLaw_iff s).1 law
  refine (bindingLaw_iff _).2 ⟨persons, cabins, fun k cabin => ?_, fun k x get => ?_, fun k p get => ?_⟩
  · rw [offPerson, offCabin, mirror]
  · obtain ⟨y, before, fewer⟩ := inUse k x get
    exact ⟨fewer.length_le.trans (bindings k y before).1, (bindings k y before).2.sublist (fewer.map _)⟩
  · obtain ⟨q, before, fewer⟩ := known k p get
    exact ⟨fewer.length_le.trans (lists k q before).1, (lists k q before).2.sublist fewer⟩

/-- A cabin's record changed beside its lock address and the persons bound. -/
theorem putCabin_keeps {n : Nat} {x y : Cabin} (get : s.cau.cabins.get n = some x) (address : y.address = x.address)
    (persons : y.bindings.map (·.person) = x.bindings.map (·.person)) : Keeps s (putCabin n y s) := by
  refine Keeps.of_bindings (ps := s.persons) id (fun wf => Table.wf_set wf n y) (fun _ => rfl) (fun k => ?_) fun law => ?_
  · dsimp only
    rw [Table.get_set]
    split
    next here => rw [here, get]; exact congrArg some address
    next => rfl
  · obtain ⟨known, wf, mirror, bindings, lists⟩ := (bindingLaw_iff s).1 law
    refine (bindingLaw_iff _).2 ⟨known, Table.wf_set wf n y, fun k cabin => (mirror k cabin).trans ?_, fun k z now => ?_, lists⟩
    · by_cases here : cabin = n
      · subst here
        rw [listsPerson_of_get get, listsPerson_of_get (Table.get_set_same ..), persons]
      · simp only [State.listsPerson, Table.get_set_other _ _ _ _ here]
    · dsimp only at now
      rw [Table.get_set] at now
      split at now
      next here =>
        cases now; subst here
        have before := bindings k x get
        rw [← List.length_map (f := (·.person)), ← persons, List.length_map] at before
        exact ⟨before.1, before.2⟩
      next => exact bindings k z now

end

end Sys2Proof.Machine
end

section
/-! The poll lists (R131-R143) and the cabins' requests (R113-R115, R124, R127, R128) keep the laws; so does the freeing of a person (R21). -/
namespace Sys2Proof.Machine

variable {s : State} {i : Fin 8}

/-! ### The segment controllers -/

theorem lscs_set (ls : Vector Lsc 8) (i k : Fin 8) (l : Lsc) : (ls.set i l)[k] = if k = i then l else ls[k] := by
  simp only [Fin.getElem_fin, Vector.getElem_set, Fin.ext_iff, eq_comm]

@[simp] theorem lsc_putLsc_same (i : Fin 8) (l : Lsc) (s : State) : (putLsc i l s).lsc i = l := (lscs_set ..).trans (if_pos rfl)

/-- Every list lists what it did. -/
theorem listed_putLsc {l : Lsc} (same : ∀ a, (l.nodes.get a).isSome = ((s.lsc i).nodes.get a).isSome) (k : Fin 8) (a : Nat) :
    ((s.lscs.set i l)[k].nodes.get a).isSome = (s.lscs[k].nodes.get a).isSome := by
  rw [lscs_set]
  split
  next here => rw [here]; exact same a
  next => rfl

theorem putLsc_keeps {l : Lsc} (same : ∀ a, (l.nodes.get a).isSome = ((s.lsc i).nodes.get a).isSome)
    (wf : (s.lsc i).nodes.wf = true → l.nodes.wf = true) : Keeps s (putLsc i l s) := by
  refine Keeps.of_cabins (c := s.cau) id (fun lists k => ?_) fun laws => ⟨laws.1, ?_⟩
  · rw [lscs_set]
    split
    next here => exact wf (here ▸ lists k)
    next => exact lists k
  · exact pollLaw_of_address (ps := s.persons) id (fun _ => rfl) (listed_putLsc same) laws.2

/-- A segment controller changed beside its poll list. -/
theorem putLsc_keeps_of_nodes {l : Lsc} (same : l.nodes = (s.lsc i).nodes) : Keeps s (putLsc i l s) :=
  putLsc_keeps (fun a => by rw [same]) fun wf => same ▸ wf

theorem beginTurn_keeps (i : Fin 8) (address : Nat) (n : Node) (s : State) : Keeps s (beginTurn i address n s) := by
  refine Keeps.trans (t := putLsc i ((s.lsc i).withTurn address n) s) ?_ (formed_keeps ..)
  exact putLsc_keeps_of_nodes rfl

theorem beginCycle_keeps (i : Fin 8) (s : State) : Keeps s (beginCycle i s) := by
  unfold beginCycle
  dsimp only
  split
  · refine Keeps.trans ?_ (beginTurn_keeps _ _ _ _)
    exact putLsc_keeps_of_nodes rfl
  · exact putLsc_keeps_of_nodes rfl

theorem endCycle_keeps (i : Fin 8) (s : State) : Keeps s (endCycle i s) := by
  have cycle : Keeps s (putLsc i (s.lsc i).cycleOver s) := by
    refine putLsc_keeps (fun a => ?_) fun wf => Table.wf_mapVals wf fun n => { n with isNew := false }
    rw [Lsc.cycleOver, Table.get_mapVals, Option.isSome_map]
  unfold endCycle
  dsimp only
  split
  · exact cycle
  · exact cycle.trans (beginCycle_keeps _ _)

theorem endTurn_keeps (i : Fin 8) (s : State) : Keeps s (endTurn i s) := by
  have ended : Keeps s (putLsc i { s.lsc i with turn := none } s) := putLsc_keeps_of_nodes rfl
  unfold endTurn
  dsimp only
  split
  · exact ended.trans (beginTurn_keeps _ _ _ _)
  · exact ended.trans (endCycle_keeps _ _)

theorem changeNode_keeps (i : Fin 8) (address : Nat) (f : Node → Node) (s : State) : Keeps s (changeNode i address f s) := by
  unfold changeNode
  split
  next n get =>
    refine putLsc_keeps (fun a => ?_) fun wf => Table.wf_set wf _ _
    dsimp only
    rw [Table.get_set]
    split
    next here => rw [here, get]; rfl
    next => rfl
  next => exact Keeps.refl s

theorem replaceMode_keeps (i : Fin 8) (address : Nat) (m : LockMode) (s : State) : Keeps s (replaceMode i address m s) := by
  refine Keeps.trans (changeNode_keeps i address (fun n => { n with pendingMode := m }) s) ?_
  exact putLsc_keeps_of_nodes rfl

/-! ### Bindings (R113-R115) -/

theorem contains_withoutCabin (p : Person) (cabin k : Nat) :
    (p.withoutCabin cabin).ident.cabins.contains k = (p.ident.cabins.contains k && decide (k ≠ cabin)) := by
  rw [Bool.eq_iff_iff]
  simp [Person.withoutCabin]

/-- Of bindings of different persons, those that stay are a person's when one was and none that goes is. -/
theorem any_filter_of_nodup {l : List Binding} (distinct : (l.map (·.person)).Nodup) (goes : Binding → Bool) (person : Nat) :
    (l.filter (fun b => !goes b)).any (fun b => b.person == person)
      = (l.any (fun b => b.person == person) && !l.any (fun b => goes b && b.person == person)) := by
  induction l with
  | nil => rfl
  | cons b l ih =>
    obtain ⟨head, tail⟩ := List.nodup_cons.1 distinct
    have later : b.person = person → l.any (fun x => x.person == person) = false := fun here => by
      rw [List.any_eq_false]
      rintro x listed same
      refine head (List.mem_map.2 ⟨x, listed, ?_⟩)
      exact (beq_iff_eq.1 same).trans here.symm
    have laterGone : b.person = person → l.any (fun x => goes x && x.person == person) = false := fun here => by
      rw [List.any_eq_false]
      rintro x listed same
      rw [Bool.and_eq_true] at same
      exact List.any_eq_false.1 (later here) x listed same.2
    rw [List.filter_cons, List.any_cons, List.any_cons]
    by_cases here : b.person = person
    · cases gone : goes b <;> simp [here, ih tail, later here, laterGone here]
    · rw [beq_false_of_ne here, Bool.false_or, Bool.and_false, Bool.false_or, ← ih tail]
      cases gone : goes b <;> simp [here]

section
variable {cabin : Nat} {c : Cabin}

/-- Bindings taken off a cabin's list and off their persons' lists, whichever they are (R114, R115). -/
theorem unlink_keeps {ps : Table Person} (get : s.cau.cabins.get cabin = some c) (goes : Binding → Bool) (wf : s.persons.wf = true → ps.wf = true)
    (persons : ∀ k, ps.get k = (s.persons.get k).map fun q => if c.bindings.any (fun b => goes b && b.person == k) then q.withoutCabin cabin else q) :
    Keeps s { putCabin cabin { c with bindings := c.bindings.filter (fun b => !goes b) } s with persons := ps } := by
  refine Keeps.of_bindings wf (fun wf => Table.wf_set wf _ _) (fun k => ?_) (fun k => ?_) fun law => ?_
  · rw [persons, Option.map_map]
    refine Option.map_congr fun q _ => ?_
    rw [Function.comp_apply]; split <;> rfl
  · rw [putCabin_cau, Table.get_set]
    split
    next here => rw [here, get]; rfl
    next => rfl
  · obtain ⟨known, cabins, -, bindings, -⟩ := (bindingLaw_iff s).1 law
    refine bindingLaw_unlinked (ls := s.lscs) (r := s.pru) law (wf known) (Table.wf_set cabins _ _)
      (fun k x => decide (x = cabin) && c.bindings.any fun b => goes b && b.person == k) (fun k p now => ?_) (fun k x now => ?_)
      (fun k x => ?_) (fun k x => ?_)
    · rw [persons] at now
      obtain ⟨q, before, rfl⟩ := Option.map_eq_some_iff.1 now
      refine ⟨q, before, ?_⟩
      split
      · exact List.filter_sublist
      · exact List.Sublist.refl _
    · rw [putCabin_cau, Table.get_set] at now
      split at now
      next here => cases now; exact ⟨c, here ▸ get, List.filter_sublist⟩
      next => exact ⟨x, now, List.Sublist.refl _⟩
    · simp only [State.listsCabin, persons]
      cases s.persons.get k with
      | none => rfl
      | some q =>
        dsimp only [Option.map_some]
        cases gone : c.bindings.any fun b => goes b && b.person == k
        · simp
        · rw [if_pos rfl, contains_withoutCabin, Bool.and_true, decide_not]
    · by_cases here : x = cabin
      · subst here
        simp only [State.listsPerson, putCabin_cau, Table.get_set_same, get, decide_true, Bool.true_and]
        exact any_filter_of_nodup (bindings x c get).2 goes k
      · simp [State.listsPerson, putCabin_cau, Table.get_set_other _ _ _ _ here, here]

theorem dropFromPerson_wf (person : Nat) (wf : s.persons.wf = true) : (dropFromPerson person cabin s).persons.wf = true := by
  unfold dropFromPerson
  split
  · exact Table.wf_set wf _ _
  · exact wf

theorem dropFromPersons_wf (bs : List Binding) (wf : s.persons.wf = true) :
    (bs.foldl (fun t b => dropFromPerson b.person cabin t) s).persons.wf = true := by
  induction bs generalizing s with
  | nil => exact wf
  | cons b bs ih => exact ih (dropFromPerson_wf b.person wf)

theorem sweep_keeps (get : s.cau.cabins.get cabin = some c) : Keeps s (sweep cabin c s) := by
  rw [sweep_frame]
  exact unlink_keeps get (fun b => b.expired s.scl.voyage) (fun wf => dropFromPersons_wf (s := putCabin cabin (c.swept s.scl.voyage) s) _ wf)
    (sweep_persons_get cabin c s)

/-- A binding joins the lists of its cabin and its person (R111, R114). -/
theorem append_keeps {b : Binding} {p : Person} (get : s.cau.cabins.get cabin = some c) (known : s.persons.get b.person = some p)
    (unbound : ∀ x ∈ c.bindings, x.person ≠ b.person) (room : c.bindings.length < 6) (roomFor : p.ident.cabins.length < 4) :
    Keeps s (putPerson b.person (p.withCabin cabin) (putCabin cabin { c with bindings := c.bindings ++ [b] } s)) := by
  refine Keeps.of_bindings (ps := s.persons.set b.person (p.withCabin cabin)) (fun wf => Table.wf_set wf _ _) (fun wf => Table.wf_set wf _ _)
    (fun k => ?_) (fun k => ?_) fun law => ?_
  · rw [Table.get_set]
    split
    next here => rw [here, known]; rfl
    next => rfl
  · rw [putCabin_cau, Table.get_set]
    split
    next here => rw [here, get]; rfl
    next => rfl
  · obtain ⟨persons, cabins, mirror, bindings, lists⟩ := (bindingLaw_iff s).1 law
    have absent : p.ident.cabins.contains cabin = false := by
      rw [← listsCabin_of_get known, mirror, State.listsPerson, get]
      exact List.any_eq_false.2 fun x listed same => unbound x listed (beq_iff_eq.1 same)
    refine (bindingLaw_iff _).2 ⟨Table.wf_set persons _ _, Table.wf_set cabins _ _, fun k x => ?_, fun k x now => ?_, fun k q now => ?_⟩
    · have before := mirror k x
      simp only [State.listsCabin, State.listsPerson] at before ⊢
      rw [putCabin_cau, Table.get_set, Table.get_set]
      by_cases person : k = b.person
      · subst person
        by_cases here : x = cabin
        · subst here; simp [Person.withCabin]
        · simp only [if_neg here, if_true, ← before, known, Person.withCabin]
          rw [Bool.eq_iff_iff]; simp [here]
      · rw [if_neg person, before]
        by_cases here : x = cabin
        · subst here; simp [get, Ne.symm person]
        · simp only [if_neg here]
    · rw [putCabin_cau, Table.get_set] at now
      split at now
      next =>
        cases now
        refine ⟨(List.length_append ..).trans_le room, ?_⟩
        rw [List.map_append, List.nodup_append]
        refine ⟨(bindings cabin c get).2, List.nodup_singleton _, fun x listed y new same => ?_⟩
        obtain ⟨z, there, rfl⟩ := List.mem_map.1 listed
        exact unbound z there (same.trans (List.mem_singleton.1 new))
      next => exact bindings k x now
    · dsimp only at now
      rw [Table.get_set] at now
      split at now
      next =>
        cases now
        refine ⟨(List.length_append ..).trans_le roomFor, ?_⟩
        refine List.nodup_append.2 ⟨(lists _ p known).2, List.nodup_singleton _, fun x listed y new same => ?_⟩
        rw [List.mem_singleton.1 new] at same
        subst same
        rw [← List.contains_iff_mem, absent] at listed
        cases listed
      next => exact lists k q now

theorem appendBinding_keeps {b : Binding} {swept : Nat} (get : s.cau.cabins.get cabin = some c) (unbound : ∀ x ∈ c.bindings, x.person ≠ b.person)
    (room : c.bindings.length < 6) : Keeps s (appendBinding b cabin swept s).2 := by
  cases known : s.persons.get b.person with
  | none => simp only [appendBinding, get, known]; exact Keeps.refl s
  | some p =>
    by_cases full : 4 ≤ p.ident.cabins.length
    · rw [appendBinding_of_personFull get known full]; exact Keeps.refl s
    · rw [appendBinding_of_room get known (Nat.lt_of_not_le full)]
      exact append_keeps get known unbound room (Nat.lt_of_not_le full)

theorem completeBind_keeps {b : Binding} (get : s.cau.cabins.get cabin = some c) : Keeps s (completeBind b cabin c s).2 := by
  by_cases bound : ∃ x ∈ c.bindings, x.person = b.person
  · rw [completeBind_of_bound bound]
    refine putCabin_keeps get rfl ?_
    rw [Cabin.rewrite, List.map_map]
    refine List.map_congr_left fun x _ => ?_
    rw [Function.comp_apply]
    split
    next same => exact same.symm
    next => rfl
  · have unbound : ∀ x ∈ c.bindings, x.person ≠ b.person := fun x listed same => bound ⟨x, listed, same⟩
    by_cases full : 6 ≤ c.bindings.length
    · rw [completeBind_of_full unbound full]
      dsimp only
      split
      next => exact sweep_keeps get
      next made =>
        refine (sweep_keeps get).trans (appendBinding_keeps (c := c.swept s.scl.voyage) ?_ (fun x stays => ?_) (Nat.lt_of_not_le made))
        · rw [sweep_cau]; exact Table.get_set_same ..
        · exact unbound x (List.mem_of_mem_filter stays)
    · rw [completeBind_of_room unbound (Nat.lt_of_not_le full)]
      exact appendBinding_keeps get unbound (Nat.lt_of_not_le full)

end

theorem bind_keeps (v : Values) (s : State) : Keeps s (bind v s).2 := by
  unfold bind
  dsimp only
  split
  · exact Keeps.refl s
  · split
    · exact Keeps.refl s
    · exact Keeps.refl s
    next c p get known =>
      split
      · exact Keeps.refl s
      · exact completeBind_keeps get

theorem unbind_keeps (v : Values) (s : State) : Keeps s (unbind v s).2 := by
  cases get : s.cau.cabins.get (v.nat 2) with
  | none => rw [unbind_of_unknown_cabin get]; exact Keeps.refl s
  | some c =>
    by_cases bound : ∃ x ∈ c.bindings, x.person = v.nat 1
    · have taken : (unbind v s).2 = dropFromPerson (v.nat 1) (v.nat 2)
          (putCabin (v.nat 2) { c with bindings := c.bindings.filter (fun b => !decide (b.person = v.nat 1)) } s) := by
        simp only [unbind, get, if_pos ((c.bindingOf_isSome_iff _).2 bound), ne_eq, decide_not]
      have own (k : Nat) : (c.bindings.any fun b => decide (b.person = v.nat 1) && b.person == k) = decide (v.nat 1 = k) := by
        obtain ⟨x, listed, same⟩ := bound
        rw [Bool.eq_iff_iff]
        simp only [List.any_eq_true, Bool.and_eq_true, decide_eq_true_eq, beq_iff_eq]
        exact ⟨fun ⟨_, _, here, there⟩ => here.symm.trans there, fun here => ⟨x, listed, same, same.trans here⟩⟩
      rw [taken, dropFromPerson_frame]
      refine unlink_keeps get (fun b => decide (b.person = v.nat 1)) (fun wf => dropFromPerson_wf _ wf) fun k => ?_
      rw [dropFromPerson_persons_get, own, putCabin_persons]
      simp only [decide_eq_true_eq]
    · rw [unbind_of_unbound get fun x listed same => bound ⟨x, listed, same⟩]; exact Keeps.refl s

end Sys2Proof.Machine
end

section
/-! Persons freed, cabins added and removed, and cabin states set (R21, R124, R127, R128) keep the laws. -/
namespace Sys2Proof.Machine

variable {s : State}

/-! ### Freeing a person (R21) -/

theorem dropFromCabin_frame (person cabin : Nat) (s : State) :
    dropFromCabin person cabin s = { s with cau := (dropFromCabin person cabin s).cau } := by
  unfold dropFromCabin; split <;> rfl

theorem dropFromCabin_get (person cabin k : Nat) (s : State) :
    (dropFromCabin person cabin s).cau.cabins.get k
      = (s.cau.cabins.get k).map fun c => if k = cabin then c.unbound person else c := by
  unfold dropFromCabin
  split
  next c get =>
    rw [putCabin_cau, Table.get_set]
    split
    next here => rw [here, get]; simp
    next => simp
  next free =>
    by_cases here : k = cabin
    · rw [here, free]; rfl
    · simp [here]

theorem dropFromCabin_wf (person cabin : Nat) (wf : s.cau.cabins.wf = true) : (dropFromCabin person cabin s).cau.cabins.wf = true := by
  unfold dropFromCabin
  split
  · exact Table.wf_set wf _ _
  · exact wf

/-- A person taken off the lists of so many cabins. -/
def dropFromCabins (person : Nat) (cabins : List Nat) (s : State) : State := cabins.foldl (fun t cabin => dropFromCabin person cabin t) s

theorem dropFromCabins_frame (person : Nat) (cabins : List Nat) (s : State) :
    dropFromCabins person cabins s = { s with cau := (dropFromCabins person cabins s).cau } := by
  induction cabins generalizing s with
  | nil => rfl
  | cons x cabins ih =>
    rw [show dropFromCabins person (x :: cabins) s = dropFromCabins person cabins (dropFromCabin person x s) from rfl, ih,
      dropFromCabin_frame]

theorem Cabin.unbound_unbound (c : Cabin) (person : Nat) : (c.unbound person).unbound person = c.unbound person := by
  simp [Cabin.unbound]

theorem dropFromCabins_get (person : Nat) (cabins : List Nat) (k : Nat) (s : State) :
    (dropFromCabins person cabins s).cau.cabins.get k
      = (s.cau.cabins.get k).map fun c => if cabins.contains k then c.unbound person else c := by
  induction cabins generalizing s with
  | nil => simp [dropFromCabins]
  | cons x cabins ih =>
    rw [show dropFromCabins person (x :: cabins) s = dropFromCabins person cabins (dropFromCabin person x s) from rfl, ih,
      dropFromCabin_get, Option.map_map]
    refine Option.map_congr fun c _ => ?_
    rw [Function.comp_apply]
    by_cases here : k = x
    · by_cases later : k ∈ cabins <;> simp [here ▸ later, here, Cabin.unbound_unbound]
    · simp [here]

theorem dropFromCabins_wf (person : Nat) (cabins : List Nat) (wf : s.cau.cabins.wf = true) :
    (dropFromCabins person cabins s).cau.cabins.wf = true := by
  induction cabins generalizing s with
  | nil => exact wf
  | cons x cabins ih => exact ih (dropFromCabin_wf person x wf)

/-- A DEPARTED person off every list and count (R21). -/
def State.withoutPerson (n : Nat) (p : Person) (s : State) : State :=
  { s with persons := s.persons.erase n, pru := s.pru.setCount p.ident.cls .departed (s.pru.count p.ident.cls .departed - 1),
           cau := (dropFromCabins n p.ident.cabins s).cau }

theorem freePerson_eq (n : Nat) (p : Person) (s : State) :
    freePerson n p s =
      (let t := if p.ident.folio = 0 then s.withoutPerson n p else changePersonCount p.ident.folio (· - 1) (s.withoutPerson n p)
       setPurge { t.crg.purge with counts := { t.crg.purge.counts with persons := t.crg.purge.counts.persons + 1 } } t) := by
  unfold freePerson State.withoutPerson
  rw [← show dropFromCabins n p.ident.cabins s = p.ident.cabins.foldl (fun t cabin => dropFromCabin n cabin t) s from rfl, dropFromCabins_frame]
  dsimp only
  split
  · rfl
  · unfold changePersonCount
    dsimp only
    split <;> rfl

section
variable {n : Nat} {p : Person}

theorem get_erase (k : Nat) : (s.persons.erase n).get k = if k = n then none else s.persons.get k := by
  split
  next here => rw [here, Table.get_erase_same]
  next other => exact Table.get_erase_other _ _ _ other

theorem withoutPerson_presence (get : s.persons.get n = some p) (departed : p.att.presence = .departed) (laws : s.presenceLaw ∧ s.departureLaw) :
    (s.withoutPerson n p).presenceLaw ∧ (s.withoutPerson n p).departureLaw := by
  obtain ⟨presence, -, cards⟩ := laws
  obtain ⟨wf, counts, marks, ashore⟩ := (presenceLaw_iff s).1 presence
  have unmarked : p.att.missing = false := by
    cases marked : p.att.missing
    · rfl
    · exact absurd (ashore _ (Table.mem_of_get get) marked) (by rw [departed]; decide)
  refine ⟨(presenceLaw_iff _).2 ⟨Table.wf_erase wf n, fun cls x => ?_, ?_, fun e listed => ashore e (Table.mem_erase.1 listed).1⟩,
    Table.wf_erase wf n, fun e listed live => ?_⟩
  · have fewer := Table.countP_erase wf (countedIn cls x) n
    have before := counts cls x
    rw [Table.holds_of_some get, countedIn, departed] at fewer
    simp only [State.withoutPerson, Pru.count_setCount]
    split
    next same =>
      rw [same.1, same.2]
      simp only [same.1, same.2, and_self, decide_true, Bool.toNat_true] at fewer
      omega
    next other =>
      rw [decide_eq_false other, Bool.toNat_false] at fewer
      omega
  · have fewer := Table.countP_erase wf markedMissing n
    rw [Table.holds_of_some get, markedMissing, unmarked, ← marks] at fewer
    exact (Nat.add_zero _ ▸ fewer).symm
  · have before := cards e listed live
    simp only [State.isDeparted, State.withoutPerson, get_erase] at before ⊢
    by_cases here : e.2.person = n
    · simp [here]
    · simpa [here] using before

theorem withoutPerson_binding (get : s.persons.get n = some p) (law : s.bindingLaw) : (s.withoutPerson n p).bindingLaw := by
  obtain ⟨persons, cabins, mirror, -, -⟩ := (bindingLaw_iff s).1 law
  refine bindingLaw_unlinked (ls := s.lscs) law (Table.wf_erase persons n) (dropFromCabins_wf n _ cabins) (fun k _ => decide (k = n))
    (fun k q now => ?_) (fun k x now => ?_) (fun k cabin => ?_) (fun k cabin => ?_)
  · rw [get_erase] at now
    split at now
    next => cases now
    next => exact ⟨q, now, List.Sublist.refl _⟩
  · rw [dropFromCabins_get] at now
    obtain ⟨c, before, rfl⟩ := Option.map_eq_some_iff.1 now
    refine ⟨c, before, ?_⟩
    split
    · exact List.filter_sublist
    · exact List.Sublist.refl _
  · simp only [State.listsCabin, get_erase]
    by_cases here : k = n <;> simp [here]
  · have own := mirror n cabin
    rw [listsCabin_of_get get] at own
    simp only [State.listsPerson, dropFromCabins_get] at own ⊢
    cases c : s.cau.cabins.get cabin with
    | none => rfl
    | some x =>
      rw [c] at own
      dsimp only [Option.map_some] at own ⊢
      rw [Bool.eq_iff_iff]
      by_cases bound : p.ident.cabins.contains cabin = true
      · rw [if_pos bound]
        simp only [Cabin.unbound, ne_eq, decide_not, List.any_filter, List.any_eq_true, Bool.and_eq_true, Bool.not_eq_true',
          decide_eq_false_iff_not, beq_iff_eq]
        constructor
        · rintro ⟨b, listed, other, rfl⟩; exact ⟨⟨b, listed, rfl⟩, other⟩
        · rintro ⟨⟨b, listed, rfl⟩, other⟩; exact ⟨b, listed, other, rfl⟩
      · rw [if_neg bound]
        rw [Bool.eq_false_iff.2 bound] at own
        by_cases here : k = n
        · subst here; simp [← own]
        · simp [here]

theorem withoutPerson_keeps (get : s.persons.get n = some p) (departed : p.att.presence = .departed) : Keeps s (s.withoutPerson n p) := by
  refine Keeps.of_registry (ls := s.lscs) (fun wf => Table.wf_erase wf n) (dropFromCabins_wf n _) id (withoutPerson_presence get departed) fun laws => ?_
  refine ⟨withoutPerson_binding get laws.1, pollLaw_of_address (ps := s.persons.erase n) (dropFromCabins_wf n _) (fun k => ?_) (fun _ _ => rfl) laws.2⟩
  rw [dropFromCabins_get, Option.map_map]
  refine Option.map_congr fun c _ => ?_
  rw [Function.comp_apply]; split <;> rfl

theorem freePerson_keeps (get : s.persons.get n = some p) (departed : p.att.presence = .departed) : Keeps s (freePerson n p s) := by
  rw [freePerson_eq]
  dsimp only
  refine Keeps.trans ?_ (Keeps.of_purge <| Crg.lawful_purge id fun h walk shift phase => ⟨shift, walk, phase⟩)
  split
  · exact withoutPerson_keeps get departed
  · exact (withoutPerson_keeps get departed).trans (changePersonCount_keeps _ _ _)

theorem freePerson_crg_phase : (freePerson n p s).crg.purge.phase = s.crg.purge.phase := by
  rw [freePerson_eq]
  dsimp only [setPurge]
  split
  · rfl
  · unfold changePersonCount; split <;> rfl

end

theorem personsStep_keeps {walk : Nat} (phase : s.crg.purge.phase = .persons walk) : Keeps s (personsStep walk s) := by
  have goesOn (t : State) (kept : Keeps s t) (same : t.crg.purge.phase = s.crg.purge.phase) : Keeps s
      (setPurge { t.crg.purge with phase := if walk + 1 > Config.persons then .folios 1 else .persons (walk + 1) } t) := by
    refine kept.trans (Keeps.of_purge <| Crg.lawful_purge id fun h w _ cards => ?_)
    rw [same, phase] at cards; cases cards
  unfold personsStep
  cases get : s.persons.get walk with
  | none => exact goesOn s (Keeps.refl s) rfl
  | some p =>
    by_cases freed : p.att.presence = .departed ∧ p.ident.cardCount = 0
    · simp only [if_pos freed]; exact goesOn _ (freePerson_keeps get freed.1) freePerson_crg_phase
    · simp only [if_neg freed]; exact goesOn s (Keeps.refl s) rfl

/-! ### Cabins removed and added (R127, R128) -/

theorem nodes_putLsc_wf {i : Fin 8} {l : Lsc} (wf : (s.lsc i).nodes.wf = true → l.nodes.wf = true) (lists : ∀ k : Fin 8, s.lscs[k].nodes.wf = true)
    (k : Fin 8) : (s.lscs.set i l)[k].nodes.wf = true := by
  rw [lscs_set]
  split
  next here => exact wf (lists i)
  next => exact lists k

section
variable {cabin : Nat} {c : Cabin}

theorem address_mem_erase (get : s.cau.cabins.get cabin = some c) (distinct : (s.cau.cabins.map (·.2.address)).Nodup) (wf : s.cau.cabins.wf = true)
    (a : Fin 8 × Nat) : a ∈ (s.cau.cabins.erase cabin).map (·.2.address) ↔ a ∈ s.cau.cabins.map (·.2.address) ∧ a ≠ c.address := by
  simp only [List.mem_map, Table.mem_erase]
  constructor
  · rintro ⟨e, ⟨listed, other⟩, rfl⟩
    refine ⟨⟨e, listed, rfl⟩, fun same => other ?_⟩
    exact congrArg Prod.fst (List.inj_on_of_nodup_map distinct listed (Table.mem_of_get get) same)
  · rintro ⟨⟨e, listed, rfl⟩, other⟩
    refine ⟨e, ⟨listed, fun here => other ?_⟩, rfl⟩
    have here' : s.cau.cabins.get cabin = some e.2 := here ▸ Table.get_of_mem wf listed
    rw [get] at here'
    rw [Option.some.inj here']

/-- The poll law when a cabin leaves with the record of its node (R128, R143). -/
theorem pollLaw_erase {ps : Table Person} {l : Lsc} (get : s.cau.cabins.get cabin = some c)
    (nodes : l.nodes = (s.lsc c.segment).nodes.erase c.node) (law : s.pollLaw) :
    State.pollLaw { s with persons := ps, cau := { s.cau with cabins := s.cau.cabins.erase cabin }, lscs := s.lscs.set c.segment l } := by
  obtain ⟨lists, wf, distinct⟩ := (pollLaw_iff s).1 law
  refine (pollLaw_iff _).2 ⟨fun i a => ?_, Table.wf_erase wf cabin, distinct.sublist (List.filter_sublist.map _)⟩
  dsimp only
  rw [address_mem_erase get distinct wf, ← lists, lscs_set]
  by_cases here : i = c.segment
  · subst here
    rw [if_pos rfl, nodes]
    by_cases own : a = c.node
    · subst own; simp [Cabin.address]
    · rw [Table.get_erase_other _ _ _ own]
      simp [Cabin.address, own, State.lsc]
  · rw [if_neg here]
    simp [Cabin.address, here]

theorem removeCabin_keeps (v : Values) (s : State) : Keeps s (removeCabin v s).2 := by
  unfold removeCabin
  split
  next => exact Keeps.refl s
  next c get =>
    dsimp only
    rw [dropFromPersons_frame]
    refine Keeps.of_registry (r := s.pru) (fun wf => dropFromPersons_wf _ wf) (fun wf => Table.wf_erase wf (v.nat 1))
      (nodes_putLsc_wf fun wf => Table.wf_erase wf c.node)
      (presence_of_standing (fun wf => dropFromPersons_wf _ wf) fun k => ?_) fun laws => ⟨?_, pollLaw_erase get rfl laws.2⟩
    · rw [dropFromPersons_persons_get, Option.map_map]
      refine Option.map_congr fun q _ => ?_
      rw [Function.comp_apply]; split <;> rfl
    · obtain ⟨persons, cabins, mirror, -, -⟩ := (bindingLaw_iff s).1 laws.1
      refine bindingLaw_unlinked laws.1 (dropFromPersons_wf _ persons) (Table.wf_erase cabins _) (fun _ x => decide (x = v.nat 1))
        (fun k q now => ?_) (fun k x now => ?_) (fun k x => ?_) (fun k x => ?_)
      · rw [dropFromPersons_persons_get] at now
        obtain ⟨p, before, rfl⟩ := Option.map_eq_some_iff.1 now
        refine ⟨p, before, ?_⟩
        split
        · exact List.filter_sublist
        · exact List.Sublist.refl _
      · by_cases here : k = v.nat 1
        · rw [here, Table.get_erase_same] at now; cases now
        · rw [Table.get_erase_other _ _ _ here] at now; exact ⟨x, now, List.Sublist.refl _⟩
      · have own := mirror k (v.nat 1)
        simp only [State.listsCabin, State.listsPerson, get, dropFromPersons_persons_get] at own ⊢
        cases known : s.persons.get k with
        | none => rfl
        | some q =>
          rw [known] at own
          dsimp only [Option.map_some] at own ⊢
          cases bound : c.bindings.any fun b => b.person == k
          · rw [bound] at own
            by_cases here : x = v.nat 1
            · rw [here]; simpa using own
            · simp [here]
          · rw [if_pos rfl, contains_withoutCabin, decide_not]
      · simp only [State.listsPerson]
        by_cases here : x = v.nat 1
        · rw [here, Table.get_erase_same]; simp
        · rw [Table.get_erase_other _ _ _ here]; simp [here]

theorem listNode_keeps (free : s.cau.cabins.get cabin = none) (noBinding : c.bindings = [])
    (unlisted : (c.segment, c.node) ∉ s.cau.cabins.map (·.2.address)) (st : CabinState) :
    Keeps s (listNode c.segment c.node st (putCabin cabin c s)) := by
  have listed : Keeps s (putLsc c.segment { s.lsc c.segment with
      nodes := (s.lsc c.segment).nodes.set c.node (newNode st (s.lsc c.segment).running) } (putCabin cabin c s)) := by
    refine Keeps.of_cabins (fun wf => Table.wf_set wf _ _) (nodes_putLsc_wf fun wf => Table.wf_set wf _ _) fun laws => ⟨?_, ?_⟩
    · obtain ⟨persons, cabins, mirror, bindings, lists⟩ := (bindingLaw_iff s).1 laws.1
      refine (bindingLaw_iff _).2 ⟨persons, Table.wf_set cabins _ _, fun k x => (mirror k x).trans ?_, fun k x now => ?_, lists⟩
      · simp only [State.listsPerson, putCabin_cau, Table.get_set]
        by_cases here : x = cabin
        · subst here; simp [free, noBinding]
        · simp [here]
      · rw [putCabin_cau, Table.get_set] at now
        split at now
        next => cases now; simp [noBinding]
        next => exact bindings k x now
    · obtain ⟨lists, wf, distinct⟩ := (pollLaw_iff s).1 laws.2
      have members (a : Fin 8 × Nat) :
          a ∈ (s.cau.cabins.set cabin c).map (·.2.address) ↔ a = c.address ∨ a ∈ s.cau.cabins.map (·.2.address) := by
        simp only [List.mem_map, Table.mem_iff_get (Table.wf_set wf _ _), Table.mem_iff_get wf, Table.get_set, Prod.exists]
        constructor
        · rintro ⟨k, x, now, rfl⟩
          split at now
          next => cases now; exact .inl rfl
          next => exact .inr ⟨k, x, now, rfl⟩
        · rintro (rfl | ⟨k, x, before, rfl⟩)
          · exact ⟨cabin, c, if_pos rfl, rfl⟩
          · refine ⟨k, x, (if_neg fun here => ?_).trans before, rfl⟩
            rw [here, free] at before; cases before
      refine (pollLaw_iff _).2 ⟨fun i a => ?_, Table.wf_set wf _ _, ?_⟩
      · rw [putCabin_cau, members, ← lists, putCabin_lscs, lscs_set]
        by_cases here : i = c.segment
        · subst here
          rw [if_pos rfl, Table.get_set]
          by_cases own : a = c.node
          · simp [own, Cabin.address]
          · simp [own, Cabin.address, State.lsc]
        · simp [here, Cabin.address]
      · refine List.pairwise_map.2 (Table.pairwise_set (fun _ _ apart => Ne.symm apart) wf (List.pairwise_map.1 distinct) fun e before _ same => ?_)
        exact unlisted (List.mem_map.2 ⟨e, before, same⟩)
  unfold listNode
  dsimp only
  split
  · exact listed
  · exact listed.trans (beginCycle_keeps _ _)

end

theorem addCabin_keeps (v : Values) (s : State) : Keeps s (addCabin v s).2 := by
  unfold addCabin
  dsimp only
  split
  next => exact Keeps.refl s
  next free =>
    split
    next => exact Keeps.refl s
    next unlisted =>
      split
      next => exact Keeps.refl s
      next =>
        rw [cabinAt_isSome_iff] at unlisted
        rw [Bool.not_eq_true, Option.isSome_eq_false_iff, Option.isNone_iff_eq_none] at free
        refine listNode_keeps (c := { segment := segmentOf (v.nat 2), node := v.nat 3, state := _, entry := .unknown, privacy := false, bindings := [] })
          free rfl unlisted _

/-! ### A cabin's record changed at its lock address -/

/-- Without the canonical form of the cabin table no law speaks of the cabins. -/
theorem Keeps.of_broken_cabins {c : Cau} {ls : Vector Lsc 8} (broken : s.cau.cabins.wf ≠ true) : Keeps s { s with cau := c, lscs := ls } where
  attention := id
  journal := id
  tables := fun canonical => absurd ((canonical_iff s).1 canonical).2.2.2.1 broken
  folios := id
  presence := id
  cabins := fun laws => absurd laws.2.2.1 broken
  ring := id

theorem putAddressed_keeps {i : Fin 8} {a n : Nat} {x y : Cabin} (found : s.cau.cabinAt i a = some (n, x)) (address : y.address = x.address)
    (persons : y.bindings.map (·.person) = x.bindings.map (·.person)) : Keeps s (putCabin n y s) := by
  by_cases wf : s.cau.cabins.wf = true
  · exact putCabin_keeps (Table.get_of_mem wf (List.mem_of_find?_eq_some found)) address persons
  · exact Keeps.of_broken_cabins (ls := s.lscs) wf

theorem takeReport_keeps (r : EntryReport) (s : State) : Keeps s (takeReport r s) := by
  unfold takeReport
  split
  next => exact Keeps.refl s
  next number c found =>
    have kept := putAddressed_keeps (y := { c with entry := r.entry, privacy := r.privacy }) found rfl rfl
    dsimp only
    split
    · exact kept.trans (raise_keeps _ _ _ _)
    · exact kept

theorem changeNode_cau (i : Fin 8) (a : Nat) (f : Node → Node) (s : State) : (changeNode i a f s).cau = s.cau := by
  unfold changeNode; split <;> rfl

theorem restartNode_keeps (i : Fin 8) (a : Nat) (s : State) : Keeps s (restartNode i a s) := by
  unfold restartNode
  split
  next number c found =>
    refine Keeps.trans ?_ (raise_keeps _ _ _ _)
    refine (changeNode_keeps i a (fun n => { n with pendingMode := c.state.mode }) s).trans ?_
    exact putAddressed_keeps (x := c) ((congrArg (·.cabinAt i a) (changeNode_cau ..)).trans found) rfl rfl
  next => exact Keeps.refl s

/-! ### Cabin states (R124) -/

theorem setOneCabin_cabins (n : Nat) (c : Cabin) (st : CabinState) (s : State) :
    (setOneCabin n c st s).cau.cabins = s.cau.cabins.set n { c with state := st } := by
  unfold setOneCabin replaceMode changeNode; dsimp only; split <;> rfl

theorem setOneCabin_frame (n : Nat) (c : Cabin) (st : CabinState) (s : State) :
    setOneCabin n c st s = { s with cau := (setOneCabin n c st s).cau, lscs := (setOneCabin n c st s).lscs } := by
  unfold setOneCabin replaceMode changeNode; dsimp only; split <;> rfl

theorem setOneCabin_keeps {n : Nat} {c x : Cabin} (get : s.cau.cabins.get n = some x) (address : c.address = x.address)
    (bindings : c.bindings = x.bindings) (st : CabinState) : Keeps s (setOneCabin n c st s) :=
  (putCabin_keeps (y := { c with state := st }) get address (congrArg _ bindings)).trans (replaceMode_keeps _ _ _ _)

/-- The record, read before, of a cabin in use: its lock address and bindings are still the cabin's. -/
def State.holdsCabin (s : State) (e : Nat × Cabin) : Prop :=
  ∃ x, s.cau.cabins.get e.1 = some x ∧ e.2.address = x.address ∧ e.2.bindings = x.bindings

theorem holdsCabin_setOneCabin {e d : Nat × Cabin} (held : s.holdsCabin e) (also : s.holdsCabin d) (st : CabinState) :
    (setOneCabin e.1 e.2 st s).holdsCabin d := by
  obtain ⟨x, get, address, bindings⟩ := held
  obtain ⟨y, get', address', bindings'⟩ := also
  rw [State.holdsCabin, setOneCabin_cabins, Table.get_set]
  split
  next here =>
    rw [here, get] at get'
    cases get'
    exact ⟨_, rfl, address'.trans address.symm, bindings'.trans bindings.symm⟩
  next => exact ⟨y, get', address', bindings'⟩

theorem setCabins_keeps (st : CabinState) (es : List (Nat × Cabin)) (held : ∀ e ∈ es, s.holdsCabin e) :
    Keeps s (es.foldl (fun t e => setOneCabin e.1 e.2 st t) s) := by
  induction es generalizing s with
  | nil => exact Keeps.refl s
  | cons e es ih =>
    have front := held e List.mem_cons_self
    have kept : Keeps s (setOneCabin e.1 e.2 st s) := by
      obtain ⟨x, get, address, bindings⟩ := front
      exact setOneCabin_keeps get address bindings st
    exact kept.trans (ih fun d later => holdsCabin_setOneCabin front (held d (List.mem_cons_of_mem _ later)) st)

theorem setCabins_frame (st : CabinState) (es : List (Nat × Cabin)) (s : State) :
    ∃ c ls, es.foldl (fun t e => setOneCabin e.1 e.2 st t) s = { s with cau := c, lscs := ls } := by
  induction es generalizing s with
  | nil => exact ⟨_, _, rfl⟩
  | cons e es ih =>
    obtain ⟨c, ls, same⟩ := ih (setOneCabin e.1 e.2 st s)
    refine ⟨c, ls, ?_⟩
    rw [List.foldl_cons, same, setOneCabin_frame]

theorem setCabinState_keeps (v : Values) (s : State) : Keeps s (setCabinState v s).2 := by
  unfold setCabinState
  dsimp only
  split
  next n =>
    split
    · exact Keeps.refl s
    next c get => exact setOneCabin_keeps get rfl rfl _
  next =>
    by_cases wf : s.cau.cabins.wf = true
    · refine setCabins_keeps _ _ fun e listed => ⟨e.2, Table.get_of_mem wf (List.mem_filter.1 listed).1, rfl, rfl⟩
    · obtain ⟨c, ls, same⟩ := setCabins_frame (cabinStateOf (v.nat 4)) (s.cau.onSegment (segmentOf (v.nat 3))) s
      exact same ▸ Keeps.of_broken_cabins wf

end Sys2Proof.Machine
end

section
/-! The lock turns and the access decision (R116-R140), and the gangways (R147-R169), keep the laws. -/
namespace Sys2Proof.Machine

variable {s : State}

theorem send_keeps (p : Port) (f : Frame) (s : State) : Keeps s (send p f s) := Keeps.of_lawData rfl

theorem setRx_keeps (p : Port) (r : Receiver) (s : State) : Keeps s (setRx p r s) := Keeps.of_lawData rfl

/-! ### Outcomes of a turn (R136-R140) -/

theorem missNode_keeps (i : Fin 8) (a : Nat) (s : State) : Keeps s (missNode i a s) := by
  have missed := changeNode_keeps i a Node.missed s
  unfold missNode
  dsimp only
  split
  · split
    · exact (missed.trans (raise_keeps _ _ _ _)).trans (offerEvent_keeps _ _)
    · exact missed
  · exact Keeps.refl s

theorem missTurn_keeps (i : Fin 8) (tr : Turn) (s : State) : Keeps s (missTurn i tr s) := by
  refine Keeps.trans ?_ (endTurn_keeps _ _)
  split
  · exact Keeps.refl s
  · exact missNode_keeps _ _ _

theorem discardOnSegment_keeps (i : Fin 8) (s : State) : Keeps s (discardOnSegment i s) := by
  have hunts := setRx_keeps (.segment i) .hunting s
  unfold discardOnSegment
  dsimp only
  split
  · split
    · exact hunts.trans (missTurn_keeps _ _ _)
    · exact hunts
  · exact hunts

theorem answerNode_keeps (i : Fin 8) (tr : Turn) (acknowledges : Bool) (s : State) : Keeps s (answerNode i tr acknowledges s) := by
  unfold answerNode
  dsimp only
  split
  · exact Keeps.refl s
  · split
    · refine Keeps.trans ?_ (changeNode_keeps _ _ _ _)
      split
      · exact offerEvent_keeps _ _
      · exact Keeps.refl s
    · exact Keeps.refl s

theorem putTurn_keeps (i : Fin 8) (tr : Turn) (s : State) : Keeps s (putTurn i tr s) := putLsc_keeps_of_nodes rfl

theorem windowEnds_keeps (i : Fin 8) (tr : Turn) (s : State) : Keeps s (windowEnds i tr s) := by
  unfold windowEnds
  split
  · exact putTurn_keeps _ _ _
  · exact missTurn_keeps _ _ _

/-! ### The access decision (R116-R122) -/

theorem presenceLine_keeps (number : Nat) (c : Cabin) {f : Found} (person : s.persons.get f.card.person = some f.person) :
    Keeps s (presenceLine number c f s).state := by
  unfold presenceLine
  split
  · exact Keeps.refl s
  · exact Keeps.refl s
  · split
    · exact raise_keeps _ _ _ _
    · exact sighting_keeps person _ _

theorem decideServing_keeps (i : Fin 8) (node : Nat) (serial : Word32) (s : State) : Keeps s (decideServing i node serial s).state := by
  unfold decideServing
  split
  · exact Keeps.refl s
  · split
    · exact Keeps.refl s
    next f found =>
      split
      · dsimp only
        split
        · exact raise_keeps _ _ _ _
        · exact Keeps.refl s
      · exact presenceLine_keeps _ _ (lookup_eq_some found).2.2

theorem accessUpdate_keeps (d : AccessDecision) (serial : Word32) (s : State) : Keeps s (accessUpdate d serial s) := by
  unfold accessUpdate
  split
  · exact successUpdate_keeps _ _
  · exact successUpdate_keeps _ _
  · exact Keeps.refl s
  · exact failureUpdate_keeps _ _

theorem logAccess_keeps (d : AccessDecision) (r : Record) (s : State) : Keeps s (logAccess d r s) := by
  unfold logAccess
  split
  · exact offerEvent_keeps _ _
  · exact Keeps.refl s

theorem present_keeps (i : Fin 8) (node : Nat) (serial : Word32) (s : State) : Keeps s (present i node serial s).2 := by
  unfold present
  dsimp only
  split
  · exact logAccess_keeps _ _ _
  · exact ((decideServing_keeps _ _ _ _).trans (accessUpdate_keeps _ _ _)).trans (logAccess_keeps _ _ _)

theorem acceptQuiet_keeps (i : Fin 8) (tr : Turn) (s : State) : Keeps s (acceptQuiet i tr s) :=
  (answerNode_keeps i tr true s).trans (endTurn_keeps _ _)

theorem acceptCard_keeps (i : Fin 8) (tr : Turn) (serial : Word32) (s : State) : Keeps s (acceptCard i tr serial s) :=
  (((answerNode_keeps i tr true s).trans (present_keeps _ _ _ _)).trans (send_keeps _ _ _)).trans (endTurn_keeps _ _)

theorem acceptEntry_keeps (i : Fin 8) (tr : Turn) (e : EntryState) (privacy : Bool) (s : State) : Keeps s (acceptEntry i tr e privacy s) := by
  refine Keeps.trans ?_ (endTurn_keeps _ _)
  exact (answerNode_keeps i tr true s).trans (Keeps.of_lawData rfl)

theorem acceptRestarted_keeps (i : Fin 8) (tr : Turn) (s : State) : Keeps s (acceptRestarted i tr s) := by
  have answered := answerNode_keeps i tr false s
  refine Keeps.trans ?_ (endTurn_keeps _ _)
  split
  · exact answered
  · exact answered.trans (restartNode_keeps _ _ _)

theorem setPollWindow_keeps (v : Values) (s : State) : Keeps s (setPollWindow v s).2 := by
  unfold setPollWindow
  split
  · exact putLsc_keeps_of_nodes rfl
  · refine Keeps.of_lawData ?_
    simp only [State.lawData, LawData.mk.injEq, and_self, and_true, true_and]
    funext i
    rw [Fin.getElem_fin, mapVec_getElem]
    rfl

/-! ### Stations and fetches (R147-R151) -/

theorem putStation_keeps (g : Fin 4) (t : Station) (s : State) : Keeps s (putStation g t s) := Keeps.of_lawData rfl

theorem startFetch_keeps (g : Fin 4) (s : State) : Keeps s (startFetch g s) := Keeps.of_lawData rfl

theorem judgeFetch_keeps (g : Fin 4) (s : State) : Keeps s (judgeFetch g s) := by
  unfold judgeFetch
  split
  · exact startFetch_keeps g s
  · exact Keeps.refl s

theorem failFetch_keeps (g : Fin 4) (s : State) : Keeps s (failFetch g s) := by
  have failed := putStation_keeps g (s.station g).failed s
  unfold failFetch
  dsimp only
  split
  · exact failed.trans (raise_keeps _ _ _ _)
  · exact failed

theorem fetchFails_keeps (g : Fin 4) (s : State) : Keeps s (fetchFails g s) := (failFetch_keeps g s).trans (judgeFetch_keeps g _)

theorem discardOnStation_keeps (g : Fin 4) (s : State) : Keeps s (discardOnStation g s) := by
  have hunts := setRx_keeps (.station g) .hunting s
  unfold discardOnStation
  dsimp only
  split
  · exact hunts.trans (fetchFails_keeps _ _)
  · exact hunts

theorem endFetch_keeps (g : Fin 4) (done : List (Word16 × PassageVerdict)) (s : State) : Keeps s (endFetch g done s) := by
  have verdicts : Keeps s (if (s.station g).attached = .detached then s else send (.station g) (.verdicts done) s) := by
    split
    · exact Keeps.refl s
    · exact send_keeps _ _ _
  exact (verdicts.trans (putStation_keeps _ _ _)).trans (judgeFetch_keeps _ _)

theorem acceptPassages_keeps (g : Fin 4) (records : List Passage) (s : State) : Keeps s (acceptPassages g records s) := by
  unfold acceptPassages
  split
  · exact (putStation_keeps _ _ _).trans (endFetch_keeps _ _ _)
  · exact putStation_keeps _ _ _

/-! ### Judging a passage (R152-R155) -/

theorem movePassage_keeps (g : Fin 4) (r : Passage) {f : Found} (after : Presence) (person : s.persons.get f.card.person = some f.person) :
    Keeps s (movePassage g r f after s) :=
  ((changePresence_keeps person).trans (putStation_keeps _ _ _)).trans (offerEvent_keeps _ _)

theorem judgeCard_keeps (g : Fin 4) (r : Passage) (s : State) : Keeps s (judgeCard g r s).2 := by
  unfold judgeCard
  split
  · exact Keeps.refl s
  next f found =>
    split
    · exact raise_keeps _ _ _ _
    · exact raise_keeps _ _ _ _
    · exact Keeps.refl s
    · split
      · exact movePassage_keeps g r _ (lookup_eq_some found).2.2
      · exact offerEvent_keeps _ _

theorem takeSequence_keeps (g : Fin 4) (r : Passage) (d : Nat) (s : State) : Keeps s (takeSequence g r d s) := by
  refine Keeps.trans ?_ (putStation_keeps _ _ _)
  split
  · exact Keeps.refl s
  · exact raise_keeps _ _ _ _

theorem judgeRecord_keeps (g : Fin 4) (r : Passage) (s : State) : Keeps s (judgeRecord g r s).2 := by
  have taken := takeSequence_keeps g r (gapOf (s.station g).expected r.sequence) s
  unfold judgeRecord
  dsimp only
  split
  · exact Keeps.refl s
  · split
    · exact taken
    · exact taken.trans (judgeCard_keeps _ _ _)

/-! ### Requests of chapter 8 -/

/-- A request that names a person in use keeps the laws when its act on that person does. -/
theorem withPerson_keeps {n : Nat} {act : Person → State → Answer × State} (acts : ∀ p, s.persons.get n = some p → Keeps s (act p s).2) :
    Keeps s (withPerson n act s).2 := by
  unfold withPerson
  split
  next p person => exact acts p person
  next => exact Keeps.refl s

theorem setStation_keeps (v : Values) (s : State) : Keeps s (setStation v s).2 := putStation_keeps _ _ _

theorem queryStation_keeps (v : Values) (s : State) : Keeps s (queryStation v s).2 := putStation_keeps _ _ _

theorem setPerson_keeps (v : Values) (s : State) : Keeps s (setPerson v s).2 :=
  withPerson_keeps fun _ person => putPerson_keeps person rfl rfl rfl rfl

theorem setPresence_keeps (v : Values) (s : State) : Keeps s (setPresence v s).2 := by
  refine withPerson_keeps fun p person => ?_
  dsimp only
  split
  · exact Keeps.refl s
  · exact changePresence_keeps person

theorem queryPerson_keeps (v : Values) (s : State) : Keeps s (queryPerson v s).2 := withPerson_keeps fun _ _ => Keeps.refl s

theorem queryCounts_keeps (v : Values) (s : State) : Keeps s (queryCounts v s).2 := by
  unfold queryCounts
  dsimp only
  split
  · exact Keeps.of_lawData rfl
  · exact Keeps.refl s

theorem setTimer_keeps (t : Timer) (s : State) : Keeps s (setTimer t s) := Keeps.of_lawData rfl

theorem setAllAboard_keeps (v : Values) (s : State) : Keeps s (setAllAboard v s).2 := by
  unfold setAllAboard
  split
  · exact Keeps.of_lawData rfl
  · exact Keeps.of_lawData rfl
  · exact setTimer_keeps _ _
  · exact setTimer_keeps _ _
  · exact Keeps.refl s

theorem cancelAllAboard_keeps (v : Values) (s : State) : Keeps s (cancelAllAboard v s).2 := by
  unfold cancelAllAboard
  split
  · exact setTimer_keeps _ _
  · exact setTimer_keeps _ _
  · exact Keeps.refl s
  · exact Keeps.refl s

theorem clearTimer_keeps (v : Values) (s : State) : Keeps s (clearTimer v s).2 := by
  unfold clearTimer
  split
  · exact setTimer_keeps _ _
  · exact Keeps.refl s
  · exact Keeps.refl s

/-- Every MISSING mark cleared, and the count with them (R163). -/
theorem unmarkAll_keeps (s : State) :
    Keeps s { s with persons := s.persons.mapVals Person.unmarked, pru := { s.pru with missingCount := 0 } } := by
  have get (k : Nat) := Table.get_mapVals Person.unmarked s.persons k
  refine Keeps.of_persons (fun wf => Table.wf_mapVals wf Person.unmarked) (fun law => ?_) (fun laws => ?_) (fun law => ?_)
  · obtain ⟨wf, counts, -, -⟩ := (presenceLaw_iff s).1 law
    refine (presenceLaw_iff _).2 ⟨Table.wf_mapVals wf _, fun cls x => ?_, ?_, fun e listed marked => ?_⟩
    · dsimp only
      rw [Table.mapVals, List.countP_map]
      exact counts cls x
    · dsimp only
      rw [Table.mapVals, List.countP_map]
      exact (List.countP_eq_zero.2 fun e _ => Bool.false_ne_true).symm
    · obtain ⟨x, -, rfl⟩ := List.mem_map.1 listed
      cases marked
  · refine ⟨Table.wf_mapVals laws.2.1 _, fun e listed live => ?_⟩
    have before := laws.2.2 e listed live
    simp only [State.isDeparted, get] at before ⊢
    cases person : s.persons.get e.2.person with
    | none => rfl
    | some p => rw [person] at before; exact before
  · obtain ⟨wf, cabins, mirror, bindings, lists⟩ := (bindingLaw_iff s).1 law
    refine (bindingLaw_iff _).2 ⟨Table.wf_mapVals wf _, cabins, fun k cabin => ?_, bindings, fun k q now => ?_⟩
    · refine Eq.trans ?_ (mirror k cabin)
      simp only [State.listsCabin, get]
      cases s.persons.get k <;> rfl
    · rw [get] at now
      obtain ⟨p, before, rfl⟩ := Option.map_eq_some_iff.1 now
      exact lists k p before

theorem clearMissing_keeps (v : Values) (s : State) : Keeps s (clearMissing v s).2 := by
  unfold clearMissing
  split
  · exact Keeps.refl s
  · exact unmarkAll_keeps s

theorem markMissing_keeps (n : Nat) (s : State) : Keeps s (markMissing n s) := by
  unfold markMissing
  split
  next p person =>
    split
    next ashore =>
      refine Keeps.of_persons (fun wf => Table.wf_set wf n _) (fun law => ?_) (fun laws => ?_) (fun law => ?_)
      · refine presenceLaw_set law (fun cls x => ?_) ?_ (fun _ => ashore.1)
        · rw [Table.holds_of_some person]; rfl
        · rw [Table.holds_of_some person, markedMissing, ashore.2]; rfl
      · exact departureLaw_set laws.2 fun now => .inl (by rw [isDeparted_of_get person]; exact decide_eq_true now)
      · exact bindingLaw_set law (fun cabin => (listsCabin_of_get person cabin).symm) (law.2.2.2.2 _ (Table.mem_of_get person))
    next => exact Keeps.refl s
  next => exact Keeps.refl s

theorem endWalk_keeps (deadline : Nat) (s : State) : Keeps s (endWalk deadline s) :=
  ((setTimer_keeps _ s).trans (raise_keeps _ _ _ _)).trans (offerEvent_keeps _ _)

end Sys2Proof.Machine
end

section
/-! The tills (R91-R108) keep the laws: what a take leaves waiting is within its kind's ranges, and every settlement keeps the folio's law. -/
namespace Sys2Proof.Machine

variable {s : State}

/-! ### Till and venue requests (R91-R102) -/

theorem setTill_keeps (v : Values) (s : State) : Keeps s (setTill v s).2 := by
  unfold setTill
  dsimp only
  split
  · exact Keeps.refl s
  · exact putTill_keeps fun _ => Till.lawful_of_idle rfl

theorem setVenue_keeps (v : Values) (s : State) : Keeps s (setVenue v s).2 := Keeps.of_lawData rfl

theorem stageVenuePricing_keeps (v : Values) (s : State) : Keeps s (stageVenuePricing v s).2 := by
  unfold stageVenuePricing
  dsimp only
  split
  · exact Keeps.of_lawData rfl
  · split
    · exact Keeps.refl s
    · exact Keeps.of_lawData rfl

theorem stagePortRate_keeps (v : Values) (s : State) : Keeps s (stagePortRate v s).2 := by
  unfold stagePortRate
  split
  · exact Keeps.of_lawData rfl
  · split
    · exact Keeps.refl s
    · exact Keeps.of_lawData rfl

theorem setTillPolicy_keeps (v : Values) (s : State) : Keeps s (setTillPolicy v s).2 := Keeps.of_lawData rfl

/-! ### What waits is within its ranges (R52, R88) -/

/-- The work is within the ranges of its kind (R52, R88). -/
def Work.lawful (w : Work) : Prop :=
  (∀ a, w = .openTab a → 1 ≤ a ∧ a ≤ 8388607) ∧ ∀ n sums lines, w = .closeTab n sums lines → 0 ≤ sums.s ∧ sums.s ≤ 8388607

theorem priceTab_range {p : Pricing} {rate : Nat} {lines : List Line} {sums : Sums} (priced : priceTab p rate lines = .ok sums) :
    0 ≤ sums.s ∧ sums.s ≤ 8388607 := by
  unfold priceTab at priced
  split at priced
  next => cases priced
  next charge charged =>
    split at priced
    next => cases priced
    next nonneg =>
      cases priced
      refine ⟨Int.not_lt.1 nonneg, ?_⟩
      unfold priceCharge at charged
      split at charged
      next => cases charged
      next as _ =>
        unfold sumCheck at charged
        split at charged
        next => cases charged
        next within =>
          have upper : sumOf LineAmounts.l as ≤ 8388607 := by
            simp only [outOfRange, Bool.or_eq_true, decide_eq_true_eq, not_or, Int.not_lt] at within
            exact within.1
          split at charged
          next => cases charged
          next =>
            split at charged
            next => cases charged
            next =>
              split at charged
              next => cases charged
              next => cases charged; exact upper

theorem tillAskOf_amount {kind : TillKind} {body : List Byte} {amount : Int} (asked : tillAskOf kind body = .ok (.openTab amount)) :
    1 ≤ amount ∧ amount ≤ 8388607 := by
  unfold tillAskOf at asked
  dsimp only at asked
  split at asked
  · split at asked <;> cases asked
  · split at asked
    next within => cases asked; exact within
    next => cases asked
  · split at asked
    · split at asked <;> cases asked
    · cases asked
  · cases asked

theorem tillRequestOf_amount {kind : TillKind} {body : List Byte} {r : TillRequest} (read : tillRequestOf kind body = .ok r) (amount : Int)
    (ask : r.ask = .openTab amount) : 1 ≤ amount ∧ amount ≤ 8388607 := by
  unfold tillRequestOf at read
  dsimp only at read
  split at read
  · split at read
    · split at read
      · cases read
      · split at read
        next => cases read
        next asked => cases read; cases ask; exact tillAskOf_amount asked
    · cases read
  · cases read

theorem workOf_lawful {p : Pricing} {rate : Nat} {ask : TillAsk} {of : Option Approved} {w : Work}
    (amounts : ∀ a, ask = .openTab a → 1 ≤ a ∧ a ≤ 8388607) (work : workOf p rate ask of = .ok w) : w.lawful := by
  unfold workOf at work
  split at work
  · split at work
    · cases work
    · cases work; exact ⟨nofun, nofun⟩
  · cases work
    exact ⟨fun a same => by cases same; exact amounts _ rfl, nofun⟩
  · split at work
    next => cases work
    next priced =>
      cases work
      exact ⟨nofun, fun _ _ _ same => by cases same; exact priceTab_range priced⟩
  · split at work
    · cases work; exact ⟨nofun, nofun⟩
    · cases work

section
variable {n : Fin 128} {vn : Fin 64} {sequence : Byte} {r : TillRequest}

theorem priceTake_lawful {f : Found} {lenient : Bool} {w : Waiting} (amounts : ∀ a, r.ask = .openTab a → 1 ≤ a ∧ a ≤ 8388607)
    (passed : priceTake n vn sequence r f lenient s = .passed w) : w.work.lawful := by
  unfold priceTake at passed
  split at passed
  next => cases passed
  next work => cases passed; exact workOf_lawful amounts work

theorem voidTake_lawful {charge : Word32} {f : Found} {w : Waiting} (passed : voidTake n vn sequence r charge f s = .passed w) : w.work.lawful := by
  unfold voidTake at passed
  split at passed
  · cases passed
  · split at passed
    · cases passed
    · cases passed; exact ⟨nofun, nofun⟩

theorem presenceCheck_keeps {f : Found} (person : s.persons.get f.card.person = some f.person) : Keeps s (presenceCheck n vn f s).2.2 := by
  unfold presenceCheck
  split
  · exact Keeps.refl s
  · split
    · exact Keeps.refl s
    · exact Keeps.refl s
    · split
      · exact raise_keeps _ _ _ _
      · exact sighting_keeps person _ _

theorem purchaseTake_keeps {f : Found} (person : s.persons.get f.card.person = some f.person) : Keeps s (purchaseTake n vn sequence r f s).2 := by
  have checked := presenceCheck_keeps (n := n) (vn := vn) person
  unfold purchaseTake
  split
  · exact failureUpdate_keeps _ _
  · split
    · exact failureUpdate_keeps _ _
    · split
      next check => rw [check] at checked; exact checked.trans (failureUpdate_keeps _ _)
      next check => rw [check] at checked; exact checked

theorem purchaseTake_lawful {f : Found} {w : Waiting} (amounts : ∀ a, r.ask = .openTab a → 1 ≤ a ∧ a ≤ 8388607)
    (passed : (purchaseTake n vn sequence r f s).1 = .passed w) : w.work.lawful := by
  unfold purchaseTake at passed
  split at passed
  · cases passed
  · split at passed
    · cases passed
    · split at passed
      · cases passed
      · exact priceTake_lawful amounts passed

theorem takeChecks_keeps : Keeps s (takeChecks n vn sequence r s).2 := by
  unfold takeChecks
  split
  · exact Keeps.refl s
  · split
    · exact Keeps.refl s
    next f found =>
      split
      next =>
        have lost : Keeps s (if f.card.state = .lost then raise .lostCardPresented r.serial (detail 2 n.val) s else s) := by
          split
          · exact raise_keeps _ _ _ _
          · exact Keeps.refl s
        dsimp only
        split
        · exact lost
        · exact lost.trans (failureUpdate_keeps _ _)
      next =>
        split
        · exact Keeps.refl s
        · exact purchaseTake_keeps (lookup_eq_some found).2.2

theorem takeChecks_lawful {w : Waiting} (amounts : ∀ a, r.ask = .openTab a → 1 ≤ a ∧ a ≤ 8388607)
    (passed : (takeChecks n vn sequence r s).1 = .passed w) : w.work.lawful := by
  unfold takeChecks at passed
  split at passed
  · cases passed
  · split at passed
    · cases passed
    · split at passed
      · cases passed
      · split at passed
        · exact voidTake_lawful passed
        · exact purchaseTake_lawful amounts passed

theorem take_keeps (amounts : ∀ a, r.ask = .openTab a → 1 ≤ a ∧ a ≤ 8388607) : Keeps s (take n vn sequence r s) := by
  have checked := takeChecks_keeps (s := s) (n := n) (vn := vn) (sequence := sequence) (r := r)
  unfold take
  split
  next check => rw [check] at checked; exact checked.trans (decideTill_keeps ..)
  next w t check =>
    have lawful := takeChecks_lawful amounts (congrArg Prod.fst check)
    rw [check] at checked
    refine checked.trans (putTill_keeps fun _ x waits => ?_)
    cases waits
    exact lawful

end

theorem answerTill_keeps (kind sequence till : Byte) (repeated : Bool) (b : AnswerBody) (s : State) :
    Keeps s (answerTill kind sequence till repeated b s) := send_keeps _ _ _

theorem answerMalformed_keeps (kind sequence : Byte) (body : List Byte) (f : TillFault) (s : State) :
    Keeps s (answerMalformed kind sequence body f s) := by
  unfold answerMalformed
  dsimp only
  split
  · exact answerTill_keeps ..
  · exact Keeps.of_lawData rfl

theorem tillGate_keeps {r : TillRequest} (amounts : ∀ a, r.ask = .openTab a → 1 ≤ a ∧ a ≤ 8388607) (sequence : Byte) (s : State) :
    Keeps s (tillGate sequence r s) := by
  unfold tillGate
  dsimp only
  split
  · exact answerTill_keeps ..
  · split
    · exact answerTill_keeps ..
    · split
      · exact answerTill_keeps ..
      · split
        · exact answerTill_keeps ..
        · exact take_keeps amounts

theorem tillFrame_keeps (kind : TillKind) (sequence : Byte) (body : List Byte) (s : State) : Keeps s (tillFrame kind sequence body s) := by
  refine (received_keeps .till s).trans ?_
  unfold tillFrame
  dsimp only
  split
  · exact answerMalformed_keeps ..
  next read => exact tillGate_keeps (tillRequestOf_amount read) _ _

/-! ### Settlements (R104-R108) -/

theorem changeSpending_keeps (person : Nat) (f : Spending → Spending) (s : State) : Keeps s (changeSpending person f s) := by
  unfold changeSpending
  split
  next get => exact putPerson_keeps get rfl rfl rfl rfl
  next => exact Keeps.refl s

theorem setApproved_keeps (n : Fin 128) (a : Option Approved) (s : State) : Keeps s (setApproved n a s) :=
  putTill_keeps fun law => till_lawful law n

theorem changeFolio_keeps {n : Nat} {f : Folio → Folio} (lawful : ∀ x, s.fst.folios.get n = some x → x.lawful → (f x).lawful) :
    Keeps s (changeFolio n f s) := by
  unfold changeFolio
  split
  next x get => exact changedFolio_keeps get (lawful x get)
  next => exact Keeps.refl s

theorem postToFolio_keeps {n : Nat} {f : Folio → Folio} (lawful : ∀ x, s.fst.folios.get n = some x → x.lawful → (f x).frozenIfOver.lawful) :
    Keeps s (postToFolio n f s) := by
  unfold postToFolio
  split
  next x get => exact postFromTill_keeps fun law => lawful x get (lawful_of_get get law)
  next => exact Keeps.refl s

/-- A CHARGE that check 7 passes leaves its folio within its laws (R67, R104). -/
theorem plus_lawful_of_chargeDecline {w : Waiting} {amount : Int} {f : Folio} (passes : chargeDecline w amount s = none)
    (get : s.fst.folios.get w.folio = some f) (lawful : f.lawful) : (f.plus amount).lawful := by
  obtain ⟨opened, closed, lower, upper, limit, limit', few, amounts⟩ := lawful
  have least := Folio.length_le_reserved amounts
  simp only [Config.balanceBound, Config.maxHolds] at *
  have bounds : (f.state = .opened → f.balance + f.reserved + amount ≤ f.limit) ∧ -1073741824 ≤ f.balance + amount
      ∧ f.balance + amount + 8388607 * f.holds.length ≤ 1107296256 := by
    unfold chargeDecline at passes
    rw [get] at passes
    dsimp only at passes
    split at passes
    next positive =>
      split at passes
      · cases passes
      · split at passes
        · cases passes
        · split at passes
          next => cases passes
          next within => exact ⟨fun _ => by omega, by omega, by omega⟩
    next nonpositive =>
      split at passes
      · cases passes
      · split at passes
        · cases passes
        · split at passes
          next => cases passes
          next above =>
            simp only [Config.balanceBound] at above
            exact ⟨fun o => by have := opened o; omega, by omega, by omega⟩
  refine ⟨fun o => ?_, closed, bounds.2.1, bounds.2.2, limit, limit', few, amounts⟩
  have := bounds.1 o
  show f.balance + amount + f.reserved ≤ f.limit
  omega

theorem settleCharge_keeps (n : Fin 128) (w : Waiting) (sums : Sums) (lines : Nat) (s : State) : Keeps s (settleCharge n w sums lines s) := by
  unfold settleCharge
  split
  next => exact decideTill_keeps ..
  next passes =>
    have offered := offerMoney_keeps (chargeRecord n w sums lines) s
    have folios := congrArg Fst.folios (offerMoney_fst (chargeRecord n w sums lines) s)
    split
    next t refused => rw [refused] at offered; exact offered.trans (decideTill_keeps ..)
    next number t took =>
      rw [took] at offered folios
      refine (offered.trans ?_).trans (decideTill_keeps ..)
      refine Keeps.trans ?_ (successUpdate_keeps _ _)
      refine Keeps.trans ?_ (setApproved_keeps _ _ _)
      refine Keeps.trans ?_ (nearTest_keeps _ _)
      refine Keeps.trans ?_ (changeSpending_keeps _ _ _)
      refine Keeps.trans ?_ (addToDay_keeps _ _)
      refine changeFolio_keeps fun x get => plus_lawful_of_chargeDecline passes (?_ : s.fst.folios.get w.folio = some x)
      exact folios ▸ get

/-- An OPEN TAB that check 7 passes finds an OPEN folio with room and credit (R72). -/
theorem addHold_lawful_of_openTabDecline {w : Waiting} {amount : Int} {f : Folio} {h : Hold} (passes : openTabDecline w amount s = none)
    (get : s.fst.folios.get w.folio = some f) (held : h.amount = amount) (range : 1 ≤ amount ∧ amount ≤ 8388607) (lawful : f.lawful) :
    (f.addHold h).lawful := by
  unfold openTabDecline at passes
  rw [get] at passes
  dsimp only at passes
  split at passes
  next => cases passes
  next unfrozen =>
    split at passes
    next => cases passes
    next unclosed =>
      split at passes
      next => cases passes
      next room =>
        split at passes
        next => cases passes
        next within =>
          refine Folio.lawful_addHold lawful ?_ (Nat.not_le.1 room) (held ▸ range) (by rw [held]; omega)
          cases state : f.state with
          | opened => rfl
          | frozen => exact absurd state unfrozen
          | closed => exact absurd state unclosed

theorem settleOpenTab_keeps (n : Fin 128) (w : Waiting) {amount : Int} (range : s.folioLaw → 1 ≤ amount ∧ amount ≤ 8388607) :
    Keeps s (settleOpenTab n w amount s) := by
  unfold settleOpenTab
  split
  next => exact decideTill_keeps ..
  next passes =>
    have offered := offerMoney_keeps (openTabRecord n w amount s.fst.holdNumber) s
    have folios := offerMoney_fst (openTabRecord n w amount s.fst.holdNumber) s
    have tills := offerMoney_chu (openTabRecord n w amount s.fst.holdNumber) s
    split
    next t refused => rw [refused] at offered; exact offered.trans (decideTill_keeps ..)
    next t took =>
      rw [took] at offered folios tills
      refine (offered.trans ?_).trans (decideTill_keeps ..)
      refine Keeps.trans ?_ (successUpdate_keeps _ _)
      refine Keeps.trans ?_ (nearTest_keeps _ _)
      refine Keeps.trans (t := changeFolio w.folio (·.addHold _) t) ?_ (Keeps.of_lawData rfl)
      unfold changeFolio
      split
      next x get =>
        refine putFolio_keeps fun law => ?_
        have before : s.folioLaw := (folioLaw_congr (congrArg Fst.folios folios) (congrArg Chu.tills tills)).1 law
        refine addHold_lawful_of_openTabDecline passes ?_ rfl (range before) (lawful_of_get get law)
        exact folios ▸ get
      next => exact Keeps.refl t

theorem settleCloseTab_keeps (n : Fin 128) (w : Waiting) (hold : Nat) {sums : Sums} (range : s.folioLaw → 0 ≤ sums.s ∧ sums.s ≤ 8388607) :
    Keeps s (settleCloseTab n w hold sums s) := by
  unfold settleCloseTab
  split
  next => exact decideTill_keeps ..
  next h found =>
    have offered := offerMoney_keeps (closeTabRecord n w h sums) s
    have folios := offerMoney_fst (closeTabRecord n w h sums) s
    have tills := offerMoney_chu (closeTabRecord n w h sums) s
    split
    next t refused => rw [refused] at offered; exact offered.trans (decideTill_keeps ..)
    next number t took =>
      rw [took] at offered folios tills
      refine (offered.trans ?_).trans (decideTill_keeps ..)
      refine Keeps.trans ?_ (successUpdate_keeps _ _)
      refine Keeps.trans ?_ (setApproved_keeps _ _ _)
      refine Keeps.trans ?_ (changeSpending_keeps _ _ _)
      refine Keeps.trans ?_ (nearTest_keeps _ _)
      refine Keeps.trans ?_ (addToDay_keeps _ _)
      unfold postToFolio
      split
      next f get =>
        refine postFromTill_keeps fun law => ?_
        have before : s.folioLaw := (folioLaw_congr (congrArg Fst.folios folios) (congrArg Chu.tills tills)).1 law
        have get' : s.fst.folios.get w.folio = some f := folios ▸ get
        have total := range before
        have fewer : (f.without hold).holds.length < f.holds.length := by
          unfold closeTabHold at found
          rw [get'] at found
          dsimp only at found
          split at found
          next => cases found
          next =>
            split at found
            next => cases found
            next held => exact Folio.length_without_lt held
        obtain ⟨-, closed, lower, upper, limit, limit', few, amounts⟩ := lawful_of_get get law
        simp only [Config.balanceBound, Config.maxHolds] at *
        refine Folio.lawful_frozenIfOver (fun c => ?_) (?_ : (-1073741824 : Int) ≤ f.balance + sums.s)
          (?_ : f.balance + sums.s + 8388607 * ((f.without hold).holds.length : Int) ≤ 1107296256) ⟨limit, limit'⟩
          (fewer.le.trans few) fun x mem => amounts x (List.mem_of_mem_filter mem)
        · exact (Folio.lawful_without (lawful_of_get get law) hold).2.1 c
        · omega
        · omega
      next => exact Keeps.refl t

theorem settleVoid_keeps (n : Fin 128) (w : Waiting) (a : Approved) (s : State) : Keeps s (settleVoid n w a s) := by
  unfold settleVoid
  split
  next => exact decideTill_keeps ..
  next passes =>
    have offered := offerMoney_keeps (voidRecord n w a) s
    have folios := offerMoney_fst (voidRecord n w a) s
    split
    next t refused => rw [refused] at offered; exact offered.trans (decideTill_keeps ..)
    next number t took =>
      rw [took] at offered folios
      refine (offered.trans ?_).trans (decideTill_keeps ..)
      refine Keeps.trans ?_ (setApproved_keeps _ _ _)
      refine Keeps.trans ?_ (nearTest_keeps _ _)
      refine Keeps.trans ?_ (changeSpending_keeps _ _ _)
      refine Keeps.trans ?_ (addToDay_keeps _ _)
      refine postToFolio_keeps fun f get lawful => ?_
      have get' : s.fst.folios.get w.folio = some f := folios ▸ get
      unfold voidDecline at passes
      rw [get'] at passes
      dsimp only at passes
      split at passes
      next => cases passes
      next =>
        split at passes
        next => cases passes
        next within =>
          obtain ⟨-, closed, lower, upper, limit, limit', few, amounts⟩ := lawful
          simp only [Config.balanceBound, Config.maxHolds, voidOutOfRange, Bool.or_eq_true, Bool.and_eq_true, decide_eq_true_eq, not_or, not_and,
            Int.not_lt] at *
          refine Folio.lawful_frozenIfOver closed (?_ : (-1073741824 : Int) ≤ f.balance + -a.total)
            (?_ : f.balance + -a.total + 8388607 * (f.holds.length : Int) ≤ 1107296256) ⟨limit, limit'⟩ few amounts
          · omega
          · omega

end Sys2Proof.Machine
end

section
/-! The folio requests (R78-R84), the journal requests (R178-R181), the transfers (R191-R194) and the service states (R199-R202) keep the laws. -/
namespace Sys2Proof.Machine

variable {s : State}

/-! ### Folio requests (R78-R84) -/

/-- A request that names a folio in use keeps the laws when its act on that folio does. -/
theorem withFolio_keeps {n : Nat} {act : Folio → State → Answer × State} (acts : ∀ f, s.fst.folios.get n = some f → Keeps s (act f s).2) :
    Keeps s (withFolio n act s).2 := by
  unfold withFolio
  split
  next f get => exact acts f get
  next => exact Keeps.refl s

theorem openFolioFields_range {v : Values} (fits : fitsAll openFolioFields v = true) :
    (0 ≤ v.int 2 ∧ v.int 2 ≤ 1073741824) ∧ -1073741824 ≤ v.int 3 ∧ v.int 3 ≤ 1107296256 := by
  match v with
  | [_, some limit, some initial] =>
    simp only [fitsAll, openFolioFields, limitField, Field.fits, Form.admits, Bool.and_eq_true, decide_eq_true_eq] at fits
    exact ⟨fits.2.1, fits.2.2.1⟩
  | [] | [_] | [_, _] | [_, none, _] | [_, some _, none] | _ :: _ :: _ :: _ :: _ => simp [fitsAll, openFolioFields, limitField, Field.fits] at fits

theorem openedFolio_lawful {limit initial : Int} (limits : 0 ≤ limit ∧ limit ≤ 1073741824)
    (range : -1073741824 ≤ initial ∧ initial ≤ 1107296256) : (openedFolio limit initial).lawful := by
  refine ⟨fun opened => ?_, fun _ => rfl, range.1, ?_, limits.1, limits.2, Nat.zero_le _, nofun⟩
  · have within : initial ≤ limit := by
      by_contra exceeds
      rw [openedFolio, if_neg exceeds] at opened
      cases opened
    simpa [openedFolio, Folio.reserved] using within
  · simpa [openedFolio] using range.2

theorem bringFolio_keeps {limit initial : Int} (limits : 0 ≤ limit ∧ limit ≤ 1073741824)
    (range : -1073741824 ≤ initial ∧ initial ≤ 1107296256) (n : Nat) : Keeps s (bringFolio n limit initial s).2 :=
  (putFolio_keeps fun _ => openedFolio_lawful limits range).trans (nearTest_keeps _ _)

theorem openFolio_keeps {v : Values} (fits : fitsAll openFolioFields v = true) (s : State) : Keeps s (openFolio v s).2 := by
  obtain ⟨limits, range⟩ := openFolioFields_range fits
  unfold openFolio
  dsimp only
  split
  · exact Keeps.refl s
  · split
    · exact bringFolio_keeps limits (by decide) _
    · have offered := offerMoney_keeps (creditRecord (v.nat 1) (v.int 3) (v.int 3)) s
      split
      next refused => rw [refused] at offered; exact offered
      next took => rw [took] at offered; exact (offered.trans (bringFolio_keeps limits range _)).trans (showBalance_keeps _ _)

theorem setLimitFields_range {v : Values} (fits : fitsAll setLimitFields v = true) : 0 ≤ v.int 2 ∧ v.int 2 ≤ 1073741824 := by
  match v with
  | [_, some limit] =>
    simp only [fitsAll, setLimitFields, limitField, Field.fits, Form.admits, Bool.and_eq_true, decide_eq_true_eq] at fits
    exact fits.2.1
  | [] | [_] | [_, none] | _ :: _ :: _ :: _ => simp [fitsAll, setLimitFields, limitField, Field.fits] at fits

theorem setLimit_keeps {v : Values} (fits : fitsAll setLimitFields v = true) (s : State) : Keeps s (setLimit v s).2 := by
  refine withFolio_keeps fun f get => Keeps.trans ?_ (nearTest_keeps _ _)
  refine changedFolio_keeps get fun ⟨_, closed, lower, upper, _, _, few, amounts⟩ => ?_
  exact Folio.lawful_frozenIfOver closed lower upper (setLimitFields_range fits) few amounts

theorem postCredit_keeps (v : Values) (s : State) : Keeps s (postCredit v s).2 := by
  refine withFolio_keeps fun f get => ?_
  dsimp only
  split
  next => exact Keeps.refl s
  next within =>
    have offered := offerMoney_keeps (creditRecord (v.nat 1) (v.int 2) (f.balance + v.int 2)) s
    have folios := offerMoney_fst (creditRecord (v.nat 1) (v.int 2) (f.balance + v.int 2)) s
    split
    next refused => rw [refused] at offered; exact offered
    next took =>
      rw [took] at offered folios
      refine (offered.trans (Keeps.trans ?_ (nearTest_keeps _ _))).trans (showBalance_keeps _ _)
      refine changedFolio_keeps (folios ▸ get) fun ⟨_, closed, lower, upper, limit, limit', few, amounts⟩ => ?_
      simp only [Config.balanceBound, Config.maxHolds, creditOutOfRange, Bool.or_eq_true, Bool.and_eq_true, decide_eq_true_eq, not_or, not_and,
        Int.not_lt] at *
      refine Folio.lawful_frozenIfOver closed (?_ : (-1073741824 : Int) ≤ f.balance + v.int 2)
        (?_ : f.balance + v.int 2 + 8388607 * (f.holds.length : Int) ≤ 1107296256) ⟨limit, limit'⟩ few amounts
      · omega
      · omega

theorem freeze_keeps (v : Values) (s : State) : Keeps s (freeze v s).2 := by
  refine withFolio_keeps fun f get => ?_
  split
  · exact Keeps.refl s
  · exact Keeps.refl s
  · exact changedFolio_keeps get fun ⟨_, _, rest⟩ => ⟨nofun, nofun, rest⟩

theorem thaw_keeps (v : Values) (s : State) : Keeps s (thaw v s).2 := by
  refine withFolio_keeps fun f get => ?_
  split
  · exact Keeps.refl s
  · exact Keeps.refl s
  · split
    next => exact Keeps.refl s
    next within =>
      refine changedFolio_keeps get fun ⟨_, _, rest⟩ => ⟨fun _ => ?_, nofun, rest⟩
      exact Int.not_lt.1 fun exceeds => within (decide_eq_true exceeds)

theorem closeFolio_keeps (v : Values) (s : State) : Keeps s (closeFolio v s).2 := by
  refine withFolio_keeps fun f get => ?_
  split
  next empty => exact changedFolio_keeps get fun ⟨_, _, rest⟩ => ⟨nofun, fun _ => List.isEmpty_iff.1 empty, rest⟩
  next => exact Keeps.refl s

theorem reopen_keeps (v : Values) (s : State) : Keeps s (reopen v s).2 := by
  refine withFolio_keeps fun f get => ?_
  split
  next closed =>
    refine changedFolio_keeps get fun ⟨_, empty, rest⟩ => ⟨fun opened => ?_, fun _ => empty closed, rest⟩
    have within : f.balance ≤ f.limit := by
      by_contra exceeds
      rw [Folio.reopened, if_neg exceeds] at opened
      cases opened
    have none : f.reopened.reserved = 0 := by rw [Folio.reserved, show f.reopened.holds = f.holds from rfl, empty closed]; rfl
    rw [none, Int.add_zero]
    exact within
  next => exact Keeps.refl s

theorem queryFolio_keeps (v : Values) (s : State) : Keeps s (queryFolio v s).2 := by
  refine withFolio_keeps fun f _ => ?_
  dsimp only
  split
  · exact (showBalance_keeps _ _).trans (Keeps.of_lawData rfl)
  · exact showBalance_keeps _ _

theorem queryFolioSplit_keeps (v : Values) (s : State) : Keeps s (queryFolioSplit v s).2 := withFolio_keeps fun _ _ => Keeps.refl s

theorem clearFlags_keeps (v : Values) (s : State) : Keeps s (clearFlags v s).2 :=
  withFolio_keeps fun _ get => changedFolio_keeps get id

theorem setFolioPolicy_keeps (v : Values) (s : State) : Keeps s (setFolioPolicy v s).2 :=
  Keeps.of_fst (fun law => law.1) id

/-! ### The journal (R178-R181) -/

theorem setTransfer_keeps (t : Option Transfer) (s : State) : Keeps s (setTransfer t s) := Keeps.of_lawData rfl

section
variable {j : Jnl}

/-- The delivery point moves within the unreleased records (R179). -/
theorem Jnl.lawful_carried {position : Word32} {remaining : Nat} (some : j.frameCount position remaining ≠ 0) (lawful : j.lawful) :
    (j.carried (position + BitVec.ofNat 32 (j.frameCount position remaining))).lawful := by
  obtain ⟨delivered, used, rest⟩ := lawful
  simp only [Config.journalSlots] at used
  have count : j.ahead position + j.frameCount position remaining ≤ j.used := by unfold Jnl.frameCount at *; omega
  rw [Jnl.carried_eq]
  refine ⟨?_, used, rest⟩
  dsimp only
  split
  · exact (j.ahead_add position (by omega)).trans_le count
  · exact delivered

theorem drainFrame_keeps (position : Word32) (remaining : Nat) (last : Word32) (s : State) : Keeps s (drainFrame position remaining last s).2 := by
  unfold drainFrame
  dsimp only
  refine Keeps.trans (t := { s with jnl := _ }) ?_ (setTransfer_keeps _ _)
  refine Keeps.of_jnl (fun lawful => ?_) fun wf => ?_
  · split
    · exact lawful
    next some => exact Jnl.lawful_carried some lawful
  · split
    · exact wf
    · rw [Jnl.carried_eq]; exact wf

theorem Jnl.ahead_release {n : Nat} {q : Word32} (held : n ≤ j.ahead q) : (j.release n).ahead q = j.ahead q - n := by
  simp only [Jnl.ahead, Jnl.release, BitVec.toNat_sub, BitVec.toNat_add, BitVec.toNat_ofNat] at *
  omega

/-- Released records leave the journal in order (R181). -/
theorem Jnl.lawful_release {n : Nat} (delivered : n ≤ j.ahead j.delivered) (lawful : j.lawful) : (j.release n).lawful := by
  obtain ⟨inOrder, full, drops, unreleased, slots⟩ := lawful
  simp only [Config.journalSlots] at full
  have used := j.release_used (delivered.trans inOrder)
  refine ⟨?_, ?_, drops, fun i short => ?_, fun e listed => ?_⟩
  · rw [used, show (j.release n).delivered = j.delivered from rfl, Jnl.ahead_release delivered]; omega
  · rw [used]; simp only [Config.journalSlots]; omega
  · have held : n + i < j.used := by omega
    have sequence : (j.release n).released + BitVec.ofNat 32 i = j.released + BitVec.ofNat 32 (n + i) := by
      rw [Jnl.release, BitVec.ofNat_add, ← BitVec.add_assoc]
    rw [Jnl.recordAt, sequence, j.release_ring_get n (by omega), if_pos (Nat.le_add_right n i)]
    exact unreleased (n + i) held
  · obtain ⟨before, kept⟩ := List.mem_filter.1 listed
    obtain ⟨slot, short⟩ := slots e before
    refine ⟨slot, ?_⟩
    have distance : (e.1 + (16384 - slotOf j.released)) % 16384 = j.ahead e.2.sequence := by
      have bound : slotOf j.released < 16384 := Nat.mod_lt _ (by decide)
      rw [slot]
      conv_lhs => rw [← j.released_add_ahead e.2.sequence, slotOf_add]
      omega
    have held : n ≤ j.ahead e.2.sequence := by
      rw [← distance]
      exact of_decide_eq_true kept
    rw [used, Jnl.ahead_release held]
    omega

end

theorem drain_keeps (v : Values) (s : State) : Keeps s (drain v s).2 := by
  unfold drain
  split
  · exact drainFrame_keeps _ _ _ _
  · exact Keeps.refl s

theorem release_keeps (v : Values) (s : State) : Keeps s (release v s).2 := by
  unfold release
  dsimp only
  split
  next delivered => exact Keeps.of_jnl (Jnl.lawful_release delivered) fun wf => Table.wf_filter wf _
  next =>
    split
    · exact Keeps.refl s
    · exact Keeps.refl s

/-! ### Transfers (R86, R164, R191-R194) -/

theorem nextFrame_keeps (tr : Transfer) (s : State) : Keeps s (nextFrame tr s).2 := by
  unfold nextFrame
  split
  · exact drainFrame_keeps _ _ _ _
  · exact setTransfer_keeps _ _
  · exact setTransfer_keeps _ _
  · exact Keeps.refl s

theorem singleRequest_keeps {table : LoadTable} {v : Values} (fits : fitsAll (itemFields table) v = true) (s : State) :
    Keeps s (singleRequest table v s).2 := by
  cases table with
  | persons => exact addPerson_keeps v s
  | cards => exact issueCard_keeps v s
  | folios => exact openFolio_keeps fits s
  | cabins => exact addCabin_keeps v s
  | bindings => exact bind_keeps v s

theorem takeItem_keeps (table : LoadTable) (count index : Nat) (stored : Option StoredVerdict) (item : List Byte) (s : State) :
    Keeps s (takeItem table count index stored item s).2 := by
  unfold takeItem
  split
  next => exact setTransfer_keeps _ _
  next decoded => exact (singleRequest_keeps (fitsAll_of_decodeFieldsFrom decoded) s).trans (setTransfer_keeps _ _)

theorem loadItem_keeps (table : LoadTable) (count next : Nat) (stored : Option StoredVerdict) (index : Nat) (item : List Byte) (s : State) :
    Keeps s (loadItem table count next stored index item s).2 := by
  unfold loadItem
  split
  · exact takeItem_keeps ..
  · split
    · split
      · exact Keeps.refl s
      · exact Keeps.refl s
    · exact Keeps.refl s

theorem transferRequest_keeps {α : Type} {code : Byte} {judged : Except Nat α} {own : α → State → Answer × State} {tag : Byte}
    (owner : ∀ a u, Keeps u (own a u).2) : Keeps s (transferRequest code judged own tag s) := by
  unfold transferRequest
  split
  · exact sendReply_keeps ..
  · split
    · exact sendReply_keeps ..
    · exact Keeps.trans (t := stopWindow s) (Keeps.of_lawData rfl) (execute_keeps (owner _ _) code tag)

theorem raiseOverrun_keeps (tr : Transfer) (s : State) : Keeps s (raiseOverrun tr s) := by
  unfold raiseOverrun
  split
  · exact raise_keeps _ _ _ _
  · exact raise_keeps _ _ _ _
  · exact Keeps.refl s
  · exact Keeps.refl s

theorem setPriorityFields_range {v : Values} (fits : fitsAll setPriorityFields v = true) : v.nat 2 ≤ 7 := by
  match v with
  | [_, some priority] =>
    simp only [fitsAll, setPriorityFields, Field.fits, Form.admits, Bool.and_eq_true, decide_eq_true_eq] at fits
    have := fits.2.1.2
    simp only [Values.nat, Values.int, Values.opt, List.getD_cons_succ, List.getD_cons_zero, Option.getD_some]
    omega
  | [] | [_] | [_, none] | _ :: _ :: _ :: _ => simp [fitsAll, setPriorityFields, Field.fits] at fits

/-! ### Service states (R199-R202) -/

theorem startService_keeps (v : Values) (s : State) : Keeps s (startService v s).2 := by
  unfold startService
  split
  · exact Keeps.refl s
  · refine Keeps.trans ?_ (judgeFetch_keeps _ _)
    refine Keeps.trans ?_ (judgeFetch_keeps _ _)
    refine Keeps.trans ?_ (judgeFetch_keeps _ _)
    refine Keeps.trans ?_ (judgeFetch_keeps _ _)
    exact Keeps.of_lawData rfl

/-- Every part that the laws speak of but the journal stands as after power-on. -/
structure State.Emptied (s : State) : Prop where
  atu     : s.atu = Atu.reset
  crg     : s.crg = Crg.reset
  persons : s.persons = []
  folios  : s.fst.folios = []
  tills   : s.chu.tills = Vector.replicate 128 Till.reset
  cabins  : s.cau.cabins = []
  lscs    : s.lscs = Vector.replicate 8 Lsc.reset
  counts  : s.pru.counts = Vector.replicate 16 0
  missing : s.pru.missingCount = 0

section
variable {t : State}

theorem Atu.lawful_reset : Atu.reset.lawful = true := by decide

theorem Crg.lawful_reset : Crg.reset.lawful := ⟨rfl, nofun, Nat.zero_le _, List.Pairwise.nil, nofun, nofun⟩

theorem Jnl.lawful_reset : Jnl.reset.lawful :=
  ⟨Nat.le_refl _, Nat.zero_le _, Nat.zero_le _, fun _ short => absurd short (Nat.not_lt_zero _), nofun⟩

theorem State.Emptied.nodes (emptied : t.Emptied) (i : Fin 8) : t.lscs[i].nodes = [] := by
  rw [emptied.lscs, Fin.getElem_fin, Vector.getElem_replicate]; rfl

theorem State.Emptied.folioLaw (emptied : t.Emptied) : t.folioLaw := by
  refine ⟨by rw [emptied.folios]; exact nofun, fun x listed => Till.lawful_of_idle ?_⟩
  rw [emptied.tills, Vector.mem_toList_iff] at listed
  rw [Vector.eq_of_mem_replicate listed]; rfl

theorem State.Emptied.presenceLaw (emptied : t.Emptied) : t.presenceLaw := by
  refine (presenceLaw_iff t).2 ⟨by rw [emptied.persons]; rfl, fun cls x => ?_, by rw [emptied.missing, emptied.persons]; rfl,
    by rw [emptied.persons]; exact List.forall_mem_nil _⟩
  rw [Pru.count, emptied.counts, emptied.persons, Fin.getElem_fin, Vector.getElem_replicate]; rfl

theorem State.Emptied.departureLaw (emptied : t.Emptied) : t.departureLaw := by
  refine ⟨by rw [emptied.persons]; rfl, ?_⟩
  rw [emptied.crg]
  exact nofun

theorem State.Emptied.bindingLaw (emptied : t.Emptied) : t.bindingLaw := by
  refine ⟨by rw [emptied.persons]; rfl, by rw [emptied.cabins]; rfl, fun person cabin => ?_, by rw [emptied.cabins]; exact List.forall_mem_nil _,
    by rw [emptied.persons]; exact List.forall_mem_nil _⟩
  rw [State.listsCabin, State.listsPerson, emptied.persons, emptied.cabins]; rfl

theorem State.Emptied.pollLaw (emptied : t.Emptied) : t.pollLaw := by
  refine ⟨fun i node => ?_, by rw [emptied.cabins]; rfl, by rw [emptied.cabins]; exact List.Pairwise.nil⟩
  rw [emptied.nodes, Cau.cabinAt, emptied.cabins]; rfl

theorem State.Emptied.canonical_iff (emptied : t.Emptied) : t.canonical = true ↔ t.jnl.ring.wf = true := by
  rw [Machine.canonical_iff, emptied.crg, emptied.persons, emptied.folios, emptied.cabins]
  exact ⟨fun ⟨_, _, _, _, jnl, _⟩ => jnl, fun jnl => ⟨rfl, rfl, rfl, rfl, jnl, fun i => by rw [emptied.nodes]; rfl⟩⟩

/-- Tables emptied as at RESTART, the journal as it was or as after power-on (R201, R202). -/
theorem State.Emptied.keeps (emptied : t.Emptied) (jnl : t.jnl = s.jnl ∨ t.jnl = Jnl.reset) : Keeps s t where
  attention _ := emptied.atu ▸ Atu.lawful_reset
  journal lawful := jnl.elim (fun same => same ▸ lawful) (fun reset => reset ▸ Jnl.lawful_reset)
  tables canonical := emptied.canonical_iff.2 <|
    jnl.elim (fun same => same ▸ ((Machine.canonical_iff s).1 canonical).2.2.2.2.1) (fun reset => by rw [reset]; rfl)
  folios _ := emptied.folioLaw
  presence _ := ⟨emptied.presenceLaw, emptied.departureLaw⟩
  cabins _ := ⟨emptied.bindingLaw, emptied.pollLaw⟩
  ring _ := emptied.crg ▸ Crg.lawful_reset

end

theorem dismissTill_jnl (n : Fin 128) (s : State) : (dismissTill n s).jnl = s.jnl := by
  unfold dismissTill; split <;> rfl

theorem dismissTurn_jnl (i : Fin 8) (s : State) : (dismissTurn i s).jnl = s.jnl := by
  unfold dismissTurn; split
  · split <;> rfl
  · rfl

theorem foldl_jnl {α : Type} {f : State → α → State} (each : ∀ s a, (f s a).jnl = s.jnl) (l : List α) (s : State) : (l.foldl f s).jnl = s.jnl := by
  induction l generalizing s with
  | nil => rfl
  | cons a l ih => exact (ih _).trans (each s a)

theorem restarted_jnl (s : State) : (restarted s).jnl = s.jnl := rfl

theorem restartEvent_emptied (s : State) : (restartEvent s).Emptied := ⟨rfl, rfl, rfl, rfl, rfl, rfl, rfl, rfl, rfl⟩

theorem restartEvent_keeps (s : State) : Keeps s (restartEvent s) := by
  refine (restartEvent_emptied s).keeps (.inl ?_)
  rw [restartEvent, restarted_jnl, foldl_jnl fun t i => dismissTurn_jnl i t, foldl_jnl fun t n => dismissTill_jnl n t]

theorem powerOn_emptied (lines : Vector Bool 4) : (State.powerOn lines).Emptied := ⟨rfl, rfl, rfl, rfl, rfl, rfl, rfl, rfl, rfl⟩

theorem powerOn_keeps (lines : Vector Bool 4) (free : Nat) (events : List (Port × LineEvent)) (pending : List Instr) :
    Keeps s { State.powerOn lines with free := free, lines := events, pending := pending } :=
  ((powerOn_emptied lines).keeps (.inr rfl)).trans (Keeps.of_lawData rfl)

/-! ### Framing events (R185, R186) -/

theorem discardOn_keeps (p : Port) (s : State) : Keeps s (discardOn p s) := by
  cases p with
  | segment i => exact discardOnSegment_keeps i s
  | station g => exact discardOnStation_keeps g s
  | service => exact setRx_keeps _ _ _
  | till => exact setRx_keeps _ _ _

theorem startTurnWindow_keeps (i : Fin 8) (s : State) : Keeps s (startTurnWindow i s) := by
  unfold startTurnWindow
  split
  · split
    · exact putTurn_keeps _ _ _
    · exact Keeps.refl s
  · exact Keeps.refl s

theorem startFetchWindow_keeps (g : Fin 4) (s : State) : Keeps s (startFetchWindow g s) := by
  unfold startFetchWindow
  split
  · exact putStation_keeps _ _ _
  · exact Keeps.refl s

theorem frameSent_keeps (p : Port) (f : Frame) (later : List Frame) (s : State) : Keeps s (frameSent p f later s) := by
  unfold frameSent
  split
  · split
    · split
      · exact Keeps.of_lawData rfl
      · exact Keeps.refl s
    · exact Keeps.refl s
  · exact Keeps.refl s
  · split
    · exact startTurnWindow_keeps _ _
    · exact Keeps.refl s
  · split
    · exact startFetchWindow_keeps _ _
    · exact Keeps.refl s

theorem takeLine_keeps (p : Port) (e : LineEvent) (s : State) : Keeps s (takeLine p e s) := by
  refine Keeps.of_lawData ?_
  unfold takeLine
  split
  · unfold huntByte; split <;> rfl
  · rfl
  · unfold collectBytes; split <;> rfl
  · rfl

end Sys2Proof.Machine
end

section
/-! O53-O60: every step keeps the laws, command by command, and with no command waiting. -/
namespace Sys2Proof.Machine

variable {s t : State}

theorem Keeps.of_next {u : State} (kept : Keeps s u) (runs : (Host.Outcome.next u : Out) = .next t) : Keeps s t := by
  cases runs; exact kept

/-- A request that changes nothing keeps the laws. -/
theorem reading_keeps (f : State → Payload) (v : Values) (s : State) : Keeps s (reading f v s).2 := Keeps.refl s

/-! ### The commands that are no request -/

section
variable (s)

theorem execPurgeCardsStep_keeps (runs : execPurgeCardsStep s = .next t) : Keeps s t := by
  refine Keeps.of_next ((settle_keeps s).trans ?_) runs
  split
  next ends => exact endPurge_keeps _ (.inl (endsNow_shift ends))
  next =>
    split
    next phase shift => exact cardsStep_keeps phase shift
    next => exact Keeps.refl _

theorem execShiftStep_keeps (runs : execShiftStep s = .next t) : Keeps s t := by
  refine Keeps.of_next ((settle_keeps s).trans ?_) runs
  split
  next shift =>
    refine (shifted_keeps shift).trans ?_
    dsimp only
    split
    next ends => exact endPurge_keeps _ (.inl (endsNow_shift ends))
    next => exact Keeps.refl _
  next => exact Keeps.refl _

theorem execPurgePersonsStep_keeps (runs : execPurgePersonsStep s = .next t) : Keeps s t := by
  refine Keeps.of_next ((settle_keeps s).trans ?_) runs
  split
  next ends => exact endPurge_keeps _ (.inl (endsNow_shift ends))
  next =>
    split
    next phase => exact personsStep_keeps phase
    next => exact Keeps.refl _

theorem execPurgeFoliosStep_keeps (runs : execPurgeFoliosStep s = .next t) : Keeps s t := by
  refine Keeps.of_next ((settle_keeps s).trans ?_) runs
  split
  next ends => exact endPurge_keeps _ (.inl (endsNow_shift ends))
  next =>
    split
    next phase => exact foliosStep_keeps phase
    next => exact Keeps.refl _

theorem execPurgeEndsAborted_keeps (runs : execPurgeEndsAborted s = .next t) : Keeps s t := by
  refine Keeps.of_next ((settle_keeps s).trans ?_) runs
  split
  next ends => exact endPurge_keeps _ (.inl (endsNow_shift ends))
  next => exact Keeps.refl _

theorem execTick_keeps (runs : execTick s = .next t) : Keeps s t := by
  refine Keeps.of_next ((settle_keeps s).trans ?_) runs
  split
  · exact Keeps.of_lawData rfl
  · split
    · exact deliverBoundary_keeps _ _ _
    · exact Keeps.refl _

theorem execHoldExpiry_keeps (runs : execHoldExpiry s = .next t) : Keeps s t := by
  refine Keeps.of_next ((settleClose_keeps s).trans ?_) runs
  split
  · split
    · exact passHold_keeps _ _ _
    · exact Keeps.refl _
  · exact Keeps.refl _

theorem execWalkStep_keeps (runs : execWalkStep s = .next t) : Keeps s t := by
  refine Keeps.of_next ((settle_keeps s).trans ?_) runs
  split
  next deadline walk timer =>
    have marked := markMissing_keeps walk (settle s)
    dsimp only
    split
    · exact marked.trans (endWalk_keeps _ _)
    · exact marked.trans (setTimer_keeps _ _)
  next => exact Keeps.refl _

/-- TRIM (R29, R30). -/
theorem trim_keeps (v : Values) : Keeps s (trim v s).2 := by
  unfold trim
  split
  · unfold trimForward
    split
    · exact Keeps.of_lawData rfl
    · dsimp only
      split
      · exact Keeps.refl s
      · exact Keeps.trans (t := { s with scl := { s.scl with trimHold := 0 } }) (Keeps.of_lawData rfl) (deliverBoundary_keeps _ _ _)
  · split
    · unfold trimBack
      split
      · exact Keeps.refl s
      · exact Keeps.of_lawData rfl
    · exact Keeps.refl s

theorem setTime_keeps (v : Values) : Keeps s (setTime v s).2 := by
  unfold setTime
  split
  · exact Keeps.refl s
  · exact Keeps.of_lawData rfl

theorem cancelZoneShift_keeps (v : Values) : Keeps s (cancelZoneShift v s).2 := by
  unfold cancelZoneShift
  split
  · exact Keeps.of_lawData rfl
  · exact Keeps.refl s

theorem setDayCloseHour_keeps (v : Values) : Keeps s (setDayCloseHour v s).2 := by
  unfold setDayCloseHour
  split
  · exact Keeps.refl s
  · exact Keeps.of_lawData rfl

theorem queryCard_keeps (v : Values) : Keeps s (queryCard v s).2 := by
  unfold queryCard; split <;> exact Keeps.refl s

theorem queryCabin_keeps (v : Values) : Keeps s (queryCabin v s).2 := by
  unfold queryCabin; split <;> exact Keeps.refl s

/-! ### Settlements -/

theorem execChargeSettlement_keeps (n : Fin 128) (runs : execChargeSettlement n s = .next t) : Keeps s t := by
  refine Keeps.of_next ((settle_keeps s).trans ?_) runs
  split
  · split
    · exact settleCharge_keeps _ _ _ _ _
    · exact Keeps.refl _
  · exact Keeps.refl _

theorem execOpenTabSettlement_keeps (n : Fin 128) (runs : execOpenTabSettlement n s = .next t) : Keeps s t := by
  refine Keeps.of_next ((settle_keeps s).trans ?_) runs
  split
  next w waits =>
    split
    next work => exact settleOpenTab_keeps n w fun law => (till_lawful law n w waits).1 _ work
    next => exact Keeps.refl _
  next => exact Keeps.refl _

theorem execCloseTabSettlement_keeps (n : Fin 128) (runs : execCloseTabSettlement n s = .next t) : Keeps s t := by
  refine Keeps.of_next ((settle_keeps s).trans ?_) runs
  split
  next w waits =>
    split
    next work => exact settleCloseTab_keeps n w _ fun law => (till_lawful law n w waits).2 _ _ _ work
    next => exact Keeps.refl _
  next => exact Keeps.refl _

theorem execVoidSettlement_keeps (n : Fin 128) (runs : execVoidSettlement n s = .next t) : Keeps s t := by
  refine Keeps.of_next ((settle_keeps s).trans ?_) runs
  split
  · split
    · exact settleVoid_keeps _ _ _ _
    · exact Keeps.refl _
  · exact Keeps.refl _

theorem execMalformed_keeps (kind sequence : Byte) (body : List Byte) (runs : execMalformed kind sequence body s = .next t) : Keeps s t := by
  refine Keeps.of_next ?_ runs
  split
  · exact settle_keeps s
  · exact (received_keeps .till s).trans (answerMalformed_keeps ..)

/-! ### Node frames, turns and reports -/

theorem execQuiet_keeps (i : Fin 8) (body : List Byte) (runs : execQuiet i body s = .next t) : Keeps s t := by
  refine Keeps.of_next ((settle_keeps s).trans ?_) runs
  split
  · exact (setRx_keeps _ _ _).trans (acceptQuiet_keeps _ _ _)
  · exact discardOnSegment_keeps _ _

theorem execCard_keeps (i : Fin 8) (body : List Byte) (runs : execCard i body s = .next t) : Keeps s t := by
  refine Keeps.of_next ((settle_keeps s).trans ?_) runs
  split
  · exact (setRx_keeps _ _ _).trans (acceptCard_keeps _ _ _ _)
  · exact discardOnSegment_keeps _ _

theorem execEntry_keeps (i : Fin 8) (body : List Byte) (runs : execEntry i body s = .next t) : Keeps s t := by
  refine Keeps.of_next ((settle_keeps s).trans ?_) runs
  split
  · exact (setRx_keeps _ _ _).trans (acceptEntry_keeps _ _ _ _ _)
  · exact discardOnSegment_keeps _ _

theorem execRestarted_keeps (i : Fin 8) (body : List Byte) (runs : execRestarted i body s = .next t) : Keeps s t := by
  refine Keeps.of_next ((settle_keeps s).trans ?_) runs
  split
  · exact (setRx_keeps _ _ _).trans (acceptRestarted_keeps _ _ _)
  · exact discardOnSegment_keeps _ _

theorem execMiss_keeps (i : Fin 8) (runs : execMiss i s = .next t) : Keeps s t := by
  refine Keeps.of_next ((settle_keeps s).trans ?_) runs
  split
  · split
    · exact windowEnds_keeps _ _ _
    · exact Keeps.refl _
  · exact Keeps.refl _

theorem execCycleWait_keeps (i : Fin 8) (runs : execCycleWait i s = .next t) : Keeps s t := by
  refine Keeps.of_next ((settle_keeps s).trans ?_) runs
  split
  · exact endCycle_keeps _ _
  · exact Keeps.refl _

theorem execEntryReport_keeps (runs : execEntryReport s = .next t) : Keeps s t := by
  refine Keeps.of_next ((settle_keeps s).trans ?_) runs
  split
  · exact Keeps.refl _
  · refine Keeps.trans ?_ (takeReport_keeps _ _)
    exact Keeps.of_lawData rfl

/-! ### Stations -/

theorem execRequestPulse_keeps (g : Fin 4) (lowMs : Nat) (runs : execRequestPulse g lowMs s = .next t) : Keeps s t := by
  refine Keeps.of_next ((settle_keeps s).trans ?_) runs
  split
  · exact (putStation_keeps _ _ _).trans (judgeFetch_keeps _ _)
  · exact Keeps.refl _

theorem execRestartPulse_keeps (g : Fin 4) (lowMs : Nat) (runs : execRestartPulse g lowMs s = .next t) : Keeps s t := by
  refine Keeps.of_next ((settle_keeps s).trans ?_) runs
  split
  · exact ((putStation_keeps _ _ _).trans (raise_keeps _ _ _ _)).trans (judgeFetch_keeps _ _)
  · exact Keeps.refl _

theorem execDetach_keeps (g : Fin 4) (runs : execDetach g s = .next t) : Keeps s t := by
  refine Keeps.of_next ((settle_keeps s).trans ?_) runs
  split
  · exact Keeps.refl _
  · have detached : Keeps (settle s) (raise .stationDetached (stationSubject g) {} (putStation g ((settle s).station g).detachedNow (settle s))) :=
      (putStation_keeps _ _ _).trans (raise_keeps _ _ _ _)
    dsimp only
    split
    · exact (detached.trans (setRx_keeps _ _ _)).trans (fetchFails_keeps _ _)
    · exact detached

theorem execAttach_keeps (g : Fin 4) (runs : execAttach g s = .next t) : Keeps s t := by
  refine Keeps.of_next ((settle_keeps s).trans ?_) runs
  split
  · exact putStation_keeps _ _ _
  · exact Keeps.refl _

theorem execRetryFetch_keeps (g : Fin 4) (runs : execRetryFetch g s = .next t) : Keeps s t := by
  refine Keeps.of_next ((settle_keeps s).trans ?_) runs
  split
  · exact startFetch_keeps _ _
  · exact Keeps.refl _

theorem execPassages_keeps (g : Fin 4) (body : List Byte) (runs : execPassages g body s = .next t) : Keeps s t := by
  refine Keeps.of_next ((settle_keeps s).trans ?_) runs
  split
  · split
    · exact (setRx_keeps _ _ _).trans (acceptPassages_keeps _ _ _)
    · exact discardOnStation_keeps _ _
  · exact discardOnStation_keeps _ _

theorem execFetchFailure_keeps (g : Fin 4) (runs : execFetchFailure g s = .next t) : Keeps s t := by
  refine Keeps.of_next ((settle_keeps s).trans ?_) runs
  split
  · split
    · exact putStation_keeps _ _ _
    · exact fetchFails_keeps _ _
  · exact Keeps.refl _

theorem execJudgingAPassage_keeps (g : Fin 4) (runs : execJudgingAPassage g s = .next t) : Keeps s t := by
  refine Keeps.of_next ((settle_keeps s).trans ?_) runs
  split
  · dsimp only
    split
    · exact (judgeRecord_keeps _ _ _).trans (endFetch_keeps _ _ _)
    · exact (judgeRecord_keeps _ _ _).trans (putStation_keeps _ _ _)
  · exact Keeps.refl _

/-! ### Transfers, RESTART and framing -/

theorem execNext_keeps (tag : Byte) (body : List Byte) (runs : execNext tag body s = .next t) : Keeps s t := by
  refine Keeps.of_next ((received_keeps .service s).trans ?_) runs
  split
  · exact sendReply_keeps ..
  · exact sendReply_keeps ..
  · exact transferRequest_keeps fun _ u => nextFrame_keeps _ u

theorem execStop_keeps (tag : Byte) (body : List Byte) (runs : execStop tag body s = .next t) : Keeps s t := by
  refine Keeps.of_next ((received_keeps .service s).trans ?_) runs
  split
  · exact sendReply_keeps ..
  · exact transferRequest_keeps fun _ u => setTransfer_keeps _ u

theorem execLoadItem_keeps (tag : Byte) (body : List Byte) (runs : execLoadItem tag body s = .next t) : Keeps s t := by
  refine Keeps.of_next ((received_keeps .service s).trans ?_) runs
  split
  · exact transferRequest_keeps fun _ u => loadItem_keeps _ _ _ _ _ _ u
  · exact sendReply_keeps ..

theorem execServiceWindowExpiry_keeps (runs : execServiceWindowExpiry s = .next t) : Keeps s t := by
  refine Keeps.of_next ((settle_keeps s).trans ?_) runs
  split
  · exact (setTransfer_keeps _ _).trans (raiseOverrun_keeps _ _)
  · exact Keeps.refl _

theorem execRestart_keeps (tag : Byte) (body : List Byte) (runs : execRestart tag body s = .next t) : Keeps s t := by
  refine Keeps.of_next ((received_keeps .service s).trans ?_) runs
  split
  · exact sendReply_keeps ..
  · split
    · exact sendReply_keeps ..
    · exact execute_keeps (restartEvent_keeps _) _ _

theorem execInvalid_keeps (kind tag : Byte) (body : List Byte) (runs : execInvalid kind tag body s = .next t) : Keeps s t := by
  refine Keeps.of_next ?_ runs
  split
  · exact settle_keeps s
  · exact (received_keeps .service s).trans (sendReply_keeps ..)

theorem execDiscardedFrame_keeps (p : Port) (why : Discard) (runs : execDiscardedFrame p why s = .next t) : Keeps s t := by
  refine Keeps.of_next ((settle_keeps s).trans ?_) runs
  split
  · exact discardOn_keeps _ _
  · exact Keeps.refl _

theorem execEndOfTransmission_keeps (p : Port) (runs : execEndOfTransmission p s = .next t) : Keeps s t := by
  refine Keeps.of_next ((settle_keeps s).trans ?_) runs
  split
  · refine Keeps.trans ?_ (frameSent_keeps _ _ _ _)
    exact Keeps.of_lawData rfl
  · exact Keeps.refl _

theorem execStartByte_keeps (p : Port) (runs : execStartByte p s = .next t) : Keeps s t := by
  refine Keeps.of_next ((settle_keeps s).trans ?_) runs
  split
  · exact setRx_keeps _ _ _
  · exact Keeps.refl _

end

/-! ### Every command, and every step -/

/-- A request keeps the laws when its owner keeps them whatever the values. -/
theorem request_keeps {code : Byte} {fields : List Field} {cross : Values → Option Nat} {own : Values → State → Answer × State} {tag : Byte}
    {body : List Byte} (owner : ∀ v u, Keeps u (own v u).2) (runs : (.next (hostRequest code fields cross own tag body s) : Out) = .next t) :
    Keeps s t := Keeps.of_next (hostRequest_keeps fun v _ u => owner v u) runs

/-- A request keeps the laws when its owner keeps them on values that fit its fields. -/
theorem request_keeps_of_fits {code : Byte} {fields : List Field} {own : Values → State → Answer × State} {tag : Byte} {body : List Byte}
    (owner : ∀ v, fitsAll fields v = true → ∀ u, Keeps u (own v u).2)
    (runs : (.next (hostRequest code fields noCross own tag body s) : Out) = .next t) : Keeps s t := by
  refine Keeps.of_next (hostRequest_keeps fun v judged u => owner v ?_ u) runs
  rw [judgeFields_noCross] at judged
  exact fitsAll_of_decodeFields judged

theorem exec_keeps (c : Instr) (runs : exec c s = .next t) : Keeps s t := by
  cases c with
  | powerOn => exact Keeps.of_next (powerOn_keeps _ _ _ _) runs
  | restart tag body => exact execRestart_keeps s tag body runs
  | discardedFrame p why => exact execDiscardedFrame_keeps s p why runs
  | invalid kind tag body => exact execInvalid_keeps s kind tag body runs
  | issueCard tag body => exact request_keeps issueCard_keeps runs
  | setCardState tag body => exact request_keeps setCardState_keeps runs
  | queryCard tag body => exact request_keeps (fun v u => queryCard_keeps u v) runs
  | addPerson tag body => exact request_keeps addPerson_keeps runs
  | purgeStart tag body => exact request_keeps purgeStart_keeps runs
  | purgeAbort tag body => exact request_keeps purgeAbort_keeps runs
  | queryPurge tag body => exact request_keeps (reading_keeps _) runs
  | purgeCardsStep => exact execPurgeCardsStep_keeps s runs
  | shiftStep => exact execShiftStep_keeps s runs
  | purgePersonsStep => exact execPurgePersonsStep_keeps s runs
  | purgeFoliosStep => exact execPurgeFoliosStep_keeps s runs
  | tick => exact execTick_keeps s runs
  | zoneShiftTaken => exact Keeps.of_next (settleZone_keeps s) runs
  | dayClose => exact Keeps.of_next (settleClose_keeps s) runs
  | holdExpiry => exact execHoldExpiry_keeps s runs
  | allAboardExpiry => exact Keeps.of_next (settle_keeps s) runs
  | walkStep => exact execWalkStep_keeps s runs
  | setTime tag body => exact request_keeps (fun v u => setTime_keeps u v) runs
  | trim tag body => exact request_keeps (fun v u => trim_keeps u v) runs
  | zoneShift tag body => exact request_keeps (fun _ _ => Keeps.of_lawData rfl) runs
  | cancelZoneShift tag body => exact request_keeps (fun v u => cancelZoneShift_keeps u v) runs
  | setDayCloseHour tag body => exact request_keeps (fun v u => setDayCloseHour_keeps u v) runs
  | queryTime tag body => exact request_keeps (reading_keeps _) runs
  | queryDayTotal tag body => exact request_keeps (reading_keeps _) runs
  | openFolio tag body => exact request_keeps_of_fits (fun _ fits u => openFolio_keeps fits u) runs
  | setLimit tag body => exact request_keeps_of_fits (fun _ fits u => setLimit_keeps fits u) runs
  | postCredit tag body => exact request_keeps postCredit_keeps runs
  | freeze tag body => exact request_keeps freeze_keeps runs
  | thaw tag body => exact request_keeps thaw_keeps runs
  | closeFolio tag body => exact request_keeps closeFolio_keeps runs
  | reopen tag body => exact request_keeps reopen_keeps runs
  | queryFolio tag body => exact request_keeps queryFolio_keeps runs
  | queryFolioSplit tag body => exact request_keeps queryFolioSplit_keeps runs
  | clearFlags tag body => exact request_keeps clearFlags_keeps runs
  | setFolioPolicy tag body => exact request_keeps setFolioPolicy_keeps runs
  | queryFolioPolicy tag body => exact request_keeps (reading_keeps _) runs
  | scanFolios tag body => exact request_keeps (fun _ u => setTransfer_keeps _ u) runs
  | setTill tag body => exact request_keeps setTill_keeps runs
  | setVenue tag body => exact request_keeps setVenue_keeps runs
  | stageVenuePricing tag body => exact request_keeps stageVenuePricing_keeps runs
  | stagePortRate tag body => exact request_keeps stagePortRate_keeps runs
  | queryVenue tag body => exact request_keeps (fun _ u => Keeps.refl u) runs
  | queryPortRate tag body => exact request_keeps (reading_keeps _) runs
  | queryTill tag body => exact request_keeps (fun _ u => Keeps.refl u) runs
  | setTillPolicy tag body => exact request_keeps setTillPolicy_keeps runs
  | charge sequence body => exact Keeps.of_next (tillFrame_keeps _ _ _ _) runs
  | openTab sequence body => exact Keeps.of_next (tillFrame_keeps _ _ _ _) runs
  | closeTab sequence body => exact Keeps.of_next (tillFrame_keeps _ _ _ _) runs
  | void sequence body => exact Keeps.of_next (tillFrame_keeps _ _ _ _) runs
  | malformed kind sequence body => exact execMalformed_keeps s kind sequence body runs
  | chargeSettlement till => exact execChargeSettlement_keeps s till runs
  | openTabSettlement till => exact execOpenTabSettlement_keeps s till runs
  | closeTabSettlement till => exact execCloseTabSettlement_keeps s till runs
  | voidSettlement till => exact execVoidSettlement_keeps s till runs
  | addCabin tag body => exact request_keeps addCabin_keeps runs
  | removeCabin tag body => exact request_keeps removeCabin_keeps runs
  | bind tag body => exact request_keeps bind_keeps runs
  | unbind tag body => exact request_keeps unbind_keeps runs
  | setCabinState tag body => exact request_keeps setCabinState_keeps runs
  | setAccessPolicy tag body => exact request_keeps (fun _ _ => Keeps.of_lawData rfl) runs
  | queryAccessPolicy tag body => exact request_keeps (reading_keeps _) runs
  | queryCabin tag body => exact request_keeps (fun v u => queryCabin_keeps u v) runs
  | setPollWindow tag body => exact request_keeps setPollWindow_keeps runs
  | querySegment tag body => exact request_keeps (fun _ u => Keeps.refl u) runs
  | quiet segment body => exact execQuiet_keeps s segment body runs
  | card segment body => exact execCard_keeps s segment body runs
  | entry segment body => exact execEntry_keeps s segment body runs
  | restarted segment body => exact execRestarted_keeps s segment body runs
  | miss segment => exact execMiss_keeps s segment runs
  | cycleWait segment => exact execCycleWait_keeps s segment runs
  | entryReport => exact execEntryReport_keeps s runs
  | requestPulse station lowMs => exact execRequestPulse_keeps s station lowMs runs
  | restartPulse station lowMs => exact execRestartPulse_keeps s station lowMs runs
  | detach station => exact execDetach_keeps s station runs
  | attach station => exact execAttach_keeps s station runs
  | retryFetch station => exact execRetryFetch_keeps s station runs
  | passages station body => exact execPassages_keeps s station body runs
  | fetchFailure station => exact execFetchFailure_keeps s station runs
  | judgingAPassage station => exact execJudgingAPassage_keeps s station runs
  | setStation tag body => exact request_keeps setStation_keeps runs
  | queryStation tag body => exact request_keeps queryStation_keeps runs
  | setPerson tag body => exact request_keeps setPerson_keeps runs
  | setPresence tag body => exact request_keeps setPresence_keeps runs
  | queryPerson tag body => exact request_keeps queryPerson_keeps runs
  | queryCounts tag body => exact request_keeps queryCounts_keeps runs
  | setAllAboard tag body => exact request_keeps setAllAboard_keeps runs
  | cancelAllAboard tag body => exact request_keeps cancelAllAboard_keeps runs
  | clearTimer tag body => exact request_keeps clearTimer_keeps runs
  | clearMissing tag body => exact request_keeps clearMissing_keeps runs
  | readMissing tag body => exact request_keeps (fun _ u => setTransfer_keeps _ u) runs
  | drain tag body => exact request_keeps drain_keeps runs
  | release tag body => exact request_keeps release_keeps runs
  | queryJournal tag body => exact request_keeps (reading_keeps _) runs
  | next tag body => exact execNext_keeps s tag body runs
  | stop tag body => exact execStop_keeps s tag body runs
  | load tag body => exact request_keeps (fun _ u => setTransfer_keeps _ u) runs
  | loadItem tag body => exact execLoadItem_keeps s tag body runs
  | serviceWindowExpiry => exact execServiceWindowExpiry_keeps s runs
  | sense tag body => exact request_keeps sense_keeps runs
  | setPriority tag body => exact request_keeps_of_fits (fun _ fits u => setPriority_keeps (setPriorityFields_range fits) u) runs
  | queryAttention tag body => exact request_keeps (reading_keeps _) runs
  | startService tag body => exact request_keeps startService_keeps runs
  | status tag body => exact request_keeps (reading_keeps _) runs
  | stationLineFall station => exact Keeps.of_next ((settle_keeps s).trans (putStation_keeps _ _ _)) runs
  | purgeEndsAborted => exact execPurgeEndsAborted_keeps s runs
  | endOfTransmission port => exact execEndOfTransmission_keeps s port runs
  | startByte port => exact execStartByte_keeps s port runs

theorem step_keeps (runs : step s = .next t) : Keeps s t := by
  unfold step at runs
  split at runs
  next =>
    refine Keeps.trans ?_ (exec_keeps _ runs)
    exact Keeps.of_lawData rfl
  next =>
    split at runs
    next =>
      refine Keeps.of_next (Keeps.trans ?_ (takeLine_keeps _ _ _)) runs
      exact Keeps.of_lawData rfl
    next => exact Keeps.of_next (Keeps.refl s) runs

/-- Settles O53: every command keeps ATTN's law, by `step_keeps`. -/
theorem everyStepKeepsAttention : Obligations.EveryStepKeepsAttention := fun _ _ runs => (step_keeps runs).attention

/-- Settles O54: every command keeps the journal's law. -/
theorem everyStepKeepsTheJournal : Obligations.EveryStepKeepsTheJournal := fun _ _ runs => (step_keeps runs).journal

/-- Settles O55: every command keeps the canonical form of the tables. -/
theorem everyStepKeepsTheTables : Obligations.EveryStepKeepsTheTables := fun _ _ runs => (step_keeps runs).tables

/-- Settles O56: every command keeps the folios' laws, and what a WORKING till waits for within its ranges. -/
theorem everyStepKeepsTheFolios : Obligations.EveryStepKeepsTheFolios := fun _ _ runs => (step_keeps runs).folios

/-- Settles O57: every command keeps the presence counts and R8 together; a departure suspends the cards before the person is DEPARTED. -/
theorem everyStepKeepsPresence : Obligations.EveryStepKeepsPresence := fun _ _ runs => (step_keeps runs).presence

/-- Settles O58: every command keeps the binding lists and the poll lists together. -/
theorem everyStepKeepsTheCabins : Obligations.EveryStepKeepsTheCabins := fun _ _ runs => (step_keeps runs).cabins

/-- Settles O59: every command keeps the ring's law, and under it a search passes no FREE slot before the card. -/
theorem everyStepKeepsTheRing : Obligations.EveryStepKeepsTheRing :=
  ⟨fun _ _ runs => (step_keeps runs).ring, fun _ lawful _ listed => Crg.search_of_mem lawful listed⟩

/-- Settles O60: after power-on every table is empty and every count 0. -/
theorem resetKeepsTheLaws : Obligations.ResetKeepsTheLaws := by
  have emptied : State.reset.Emptied := powerOn_emptied _
  exact ⟨Atu.lawful_reset, Jnl.lawful_reset, emptied.canonical_iff.2 rfl, emptied.folioLaw, emptied.presenceLaw, emptied.departureLaw,
    emptied.bindingLaw, emptied.pollLaw, Crg.lawful_reset⟩

end Sys2Proof.Machine
end

section
/-! O1, O2 and O4: the front of the queue, power-on, and the requests refused before execution (R190, R202). -/
namespace Sys2Proof.Machine

/-- Settles O1: by the step's own branches. -/
theorem stepRunsTheFrontCommand : Obligations.StepRunsTheFrontCommand := by
  refine ⟨fun s c rest => rfl, fun s idle silent => ?_⟩
  simp only [step, idle, silent]

theorem State.rxOf_powerOn (lines : Vector Bool 4) (p : Port) : (State.powerOn lines).rxOf p = .hunting := Vector.getElem_replicate ..

theorem State.txOf_powerOn (lines : Vector Bool 4) (p : Port) : (State.powerOn lines).txOf p = [] := Vector.getElem_replicate ..

/-- A table of equal records reads that record at every number. -/
theorem getElem_replicate_fin {α : Type} {n : Nat} (a : α) (i : Fin n) : (Vector.replicate n a)[i] = a := Vector.getElem_replicate ..

theorem Pru.station_reset (lines : Vector Bool 4) (g : Fin 4) : (Pru.reset lines).stations[g] = Station.reset lines[g] := mapVec_getElem ..

theorem Atu.reset_pending : ∀ e ∈ Atu.reset.causes.toList, e.pending = none := by decide

theorem Atu.reset_priorities :
    Atu.reset.causes.toList.map (·.priority) = [6, 4, 3, 4, 2, 3, 5, 3, 5, 4, 4, 7, 6, 3, 2, 5, 2, 5, 7, 3, 3, 1, 2, 1, 1] := by decide

/-- Settles O2: item by item; the tables of equal records by `getElem_replicate_fin`. -/
theorem powerOnSetsEveryItem : Obligations.PowerOnSetsEveryItem := by
  intro s
  let lines := mapVec (·.lineHigh) s.pru.stations
  refine ⟨_, rfl, rfl, rfl, Atu.reset_pending, Atu.reset_priorities, rfl, rfl, rfl, fun n => getElem_replicate_fin .., fun n => getElem_replicate_fin .., rfl, rfl, rfl, rfl,
    rfl, rfl, fun i => getElem_replicate_fin .., fun g => ?station, fun cls p => getElem_replicate_fin .., rfl, rfl, rfl, rfl,
    fun p => ⟨State.rxOf_powerOn lines p, State.txOf_powerOn lines p⟩, rfl, rfl, rfl⟩
  case station =>
    refine (Pru.station_reset _ g).trans ?_
    rw [show (mapVec (·.lineHigh) s.pru.stations)[g] = s.pru.stations[g].lineHigh from mapVec_getElem ..]
    rfl

/-! ### Requests refused before execution (R190) -/

/-- A request that belongs to no transfer is taken by `hostRequest` with its code, tag, body and field table. -/
theorem exec_of_requestOf {c : Instr} {r : Request} (asked : requestOf c = some r) :
    ∃ own, ∀ s, exec c s = .next (hostRequest r.code r.fields r.cross own r.tag r.body s) := by
  cases c <;> cases asked <;> exact ⟨_, fun _ => rfl⟩

section
variable {s : State} (settled : s.boundary = none)
include settled

/-- A request of an open transfer while an exchange is open. -/
theorem transferRequest_busy {α : Type} (taken : s.slc.exchange = true) (code tag : Byte) (judged : Except Nat α) (own : α → State → Answer × State) :
    transferRequest code judged own tag (received .service s) = turnedAway code tag .busy .nothing (heard .service s) := by
  rw [received_none settled]
  exact if_pos taken

theorem transferRequest_malformed {α : Type} (free : s.slc.exchange = false) (code tag : Byte) {judged : Except Nat α} {i : Nat}
    (fault : judged = .error i) (own : α → State → Answer × State) :
    transferRequest code judged own tag (received .service s) = turnedAway code tag .malformed (.field i) (heard .service s) := by
  rw [received_none settled, fault]
  exact if_neg (Bool.eq_false_iff.1 free)

theorem invalidReply_received (code tag : Byte) :
    invalidReply code tag (received .service s) = turnedAway code tag .invalid .nothing (heard .service s) := by
  rw [received_none settled]; rfl

theorem received_transfer : (received .service s).slc.transfer = s.slc.transfer := by rw [received_none settled]; rfl

theorem execStop_of_transfer {tr : Transfer} (transfer : s.slc.transfer = some tr) (tag : Byte) (body : List Byte) :
    execStop tag body s = .next (transferRequest 0x71 (judgeFields [] noCross body)
      (fun _ u => ({ status := .done, payload := tr.stopReading }, setTransfer none u)) tag (received .service s)) := by
  simp only [execStop, received_transfer settled, transfer]

theorem execNext_of_transfer {tr : Transfer} (transfer : s.slc.transfer = some tr) (pulled : ∀ table count next stored, tr ≠ .load table count next stored)
    (tag : Byte) (body : List Byte) :
    execNext tag body s = .next (transferRequest 0x70 (judgeFields [] noCross body) (fun _ => nextFrame tr) tag (received .service s)) := by
  simp only [execNext, received_transfer settled, transfer]

theorem execLoadItem_of_load {table : LoadTable} {count next : Nat} {stored : Option StoredVerdict}
    (transfer : s.slc.transfer = some (.load table count next stored)) (tag : Byte) (body : List Byte) :
    execLoadItem tag body s = .next (transferRequest 0x73 (judgeItem table body)
      (fun index => loadItem table count next stored index (body.drop loadIndexField.width)) tag (received .service s)) := by
  simp only [execLoadItem, received_transfer settled, transfer]

theorem execLoadItem_of_other {tr : Transfer} (transfer : s.slc.transfer = some tr) (other : ∀ table count next stored, tr ≠ .load table count next stored)
    (tag : Byte) (body : List Byte) : execLoadItem tag body s = .next (invalidReply 0x73 tag (received .service s)) := by
  simp only [execLoadItem, received_transfer settled, transfer]
  cases tr with
  | load table count next stored => exact absurd rfl (other table count next stored)
  | drain | scan | missing => rfl

end

/-- A request with no fields carries no field bytes. -/
theorem judgeFields_nil_of_body {body : List Byte} (bytes : body ≠ []) : judgeFields [] noCross body = .error 0 := by
  rw [judgeFields_noCross, decodeFields, if_neg]
  exact fun empty => bytes (List.eq_nil_of_length_eq_zero empty)

/-- Settles O4: BUSY, MALFORMED and INVALID, for the requests of no transfer by `exec_of_requestOf` and for the others one by one. -/
theorem requestsAreTurnedAwayInOrder : Obligations.RequestsAreTurnedAwayInOrder := by
  refine ⟨fun s settled => ⟨fun c r asked taken => ?busy, fun taken => ⟨fun tag body => ?restartBusy, fun tag body tr transfer => ?stopBusy,
      fun tag body table count next stored transfer => ?itemBusy, fun tag body tr transfer pulled => ?nextBusy⟩⟩,
    fun s settled free => ⟨fun c r i asked none fault => ?malformed, fun tag body bytes => ?restartMalformed, fun tag body tr transfer bytes => ?stopMalformed,
      fun tag body tr transfer pulled bytes => ?nextMalformed, fun tag body table count next stored i transfer fault => ?itemMalformed⟩,
    fun s settled => ⟨fun none tag body => ⟨?noNext, ?noStop, ?noItem⟩, fun table count next stored tag body transfer => ?nextOfLoad,
      fun tr tag body transfer other => ?itemOfOther, fun kind tag body unknown => ?unknownKind⟩⟩
  case busy =>
    obtain ⟨own, runs⟩ := exec_of_requestOf asked
    rw [runs, hostRequest_busy settled taken]
  case restartBusy =>
    rw [show exec (.restart tag body) s = execRestart tag body s from rfl, execRestart, received_none settled]
    exact congrArg _ (if_pos taken)
  case stopBusy => exact (execStop_of_transfer settled transfer tag body).trans (congrArg _ (transferRequest_busy settled taken ..))
  case itemBusy => exact (execLoadItem_of_load settled transfer tag body).trans (congrArg _ (transferRequest_busy settled taken ..))
  case nextBusy => exact (execNext_of_transfer settled transfer pulled tag body).trans (congrArg _ (transferRequest_busy settled taken ..))
  case malformed =>
    obtain ⟨own, runs⟩ := exec_of_requestOf asked
    rw [runs, hostRequest_malformed ((ready_iff s).2 ⟨settled, free, none⟩) fault]
  case restartMalformed =>
    rw [show exec (.restart tag body) s = execRestart tag body s from rfl, execRestart, received_none settled, judgeFields_nil_of_body bytes]
    exact congrArg _ (if_neg (Bool.eq_false_iff.1 free))
  case stopMalformed =>
    exact (execStop_of_transfer settled transfer tag body).trans
      (congrArg _ (transferRequest_malformed settled free _ _ (judgeFields_nil_of_body bytes) _))
  case nextMalformed =>
    exact (execNext_of_transfer settled transfer pulled tag body).trans
      (congrArg _ (transferRequest_malformed settled free _ _ (judgeFields_nil_of_body bytes) _))
  case itemMalformed =>
    exact (execLoadItem_of_load settled transfer tag body).trans (congrArg _ (transferRequest_malformed settled free _ _ fault _))
  case noNext =>
    rw [show exec (.next tag body) s = execNext tag body s from rfl]
    simp only [execNext, received_transfer settled, none, invalidReply_received settled]
  case noStop =>
    rw [show exec (.stop tag body) s = execStop tag body s from rfl]
    simp only [execStop, received_transfer settled, none, invalidReply_received settled]
  case noItem =>
    rw [show exec (.loadItem tag body) s = execLoadItem tag body s from rfl]
    simp only [execLoadItem, received_transfer settled, none, invalidReply_received settled]
  case nextOfLoad =>
    rw [show exec (.next tag body) s = execNext tag body s from rfl]
    simp only [execNext, received_transfer settled, transfer, invalidReply_received settled]
  case itemOfOther => exact (execLoadItem_of_other settled transfer other tag body).trans (congrArg _ (invalidReply_received settled ..))
  case unknownKind =>
    rw [show exec (.invalid kind tag body) s = execInvalid kind tag body s from rfl, execInvalid, unknown, invalidReply_received settled]
    rfl

end Sys2Proof.Machine
end

section
/-! O5: what an accepted request leaves on the service port (R189): every owner leaves the port's frames, its receiver and the waiting commands. -/
namespace Sys2Proof.Machine

/-- The frames and the receiver of the service port and the waiting commands are as they were. -/
structure LeavesService (s t : State) : Prop where
  tx      : t.txOf .service = s.txOf .service
  rx      : t.rxOf .service = s.rxOf .service
  pending : t.pending = s.pending

theorem LeavesService.refl (s : State) : LeavesService s s := ⟨rfl, rfl, rfl⟩

theorem LeavesService.trans {s t u : State} (first : LeavesService s t) (second : LeavesService t u) : LeavesService s u :=
  ⟨second.tx.trans first.tx, second.rx.trans first.rx, second.pending.trans first.pending⟩

theorem LeavesService.of_ports {s t : State} (ports : t.ports = s.ports) (pending : t.pending = s.pending) : LeavesService s t :=
  ⟨by rw [State.txOf, ports]; rfl, by rw [State.rxOf, ports]; rfl, pending⟩

/-- A frame formed on another port. -/
theorem formed_leavesService {p : Port} (other : p ≠ .service) (f : Frame) (s : State) : LeavesService s (formed p f s) :=
  ⟨by rw [txOf_formed, if_neg other], rfl, rfl⟩

/-- An owner that touches no port and summons no command. -/
def LeavesPorts (own : Values → State → Answer × State) : Prop := ∀ v s, (own v s).2.ports = s.ports ∧ (own v s).2.pending = s.pending

/-- The property of an owner that its exchange needs (R189). -/
def OwnerLeavesService (own : Values → State → Answer × State) : Prop := ∀ v s, LeavesService s (own v s).2

theorem LeavesPorts.leavesService {own : Values → State → Answer × State} (leaves : LeavesPorts own) : OwnerLeavesService own :=
  fun v s => LeavesService.of_ports (leaves v s).1 (leaves v s).2

theorem reading_leavesPorts (f : State → Payload) : LeavesPorts (reading f) := fun _ _ => ⟨rfl, rfl⟩

section
variable {s : State}

theorem withFolio_ports {n : Nat} {act : Folio → State → Answer × State}
    (acts : ∀ f, (act f s).2.ports = s.ports ∧ (act f s).2.pending = s.pending) :
    (withFolio n act s).2.ports = s.ports ∧ (withFolio n act s).2.pending = s.pending := by
  unfold withFolio
  split
  · exact acts _
  · exact ⟨rfl, rfl⟩

theorem withPerson_ports {n : Nat} {act : Person → State → Answer × State}
    (acts : ∀ p, (act p s).2.ports = s.ports ∧ (act p s).2.pending = s.pending) :
    (withPerson n act s).2.ports = s.ports ∧ (withPerson n act s).2.pending = s.pending := by
  unfold withPerson
  split
  · exact acts _
  · exact ⟨rfl, rfl⟩

end

/-! ### The owners of chapters 1 to 5 -/

theorem insertCard_ports (slot : Nat) (c : Card) (p : Person) (s : State) :
    (insertCard slot c p s).ports = s.ports ∧ (insertCard slot c p s).pending = s.pending := by
  unfold insertCard
  dsimp only
  split <;> simp

theorem issueCard_leavesPorts : LeavesPorts issueCard := by
  intro v s
  unfold issueCard
  (repeat' split) <;> simp [refuse, insertCard_ports]

theorem setCardState_leavesPorts : LeavesPorts setCardState := by
  intro v s
  unfold setCardState
  (repeat' split) <;> simp [refuse]

theorem queryCard_leavesPorts : LeavesPorts queryCard := by
  intro v s
  unfold queryCard
  (repeat' split) <;> simp [refuse]

theorem changePersonCount_ports (n : Nat) (change : Nat → Nat) (s : State) :
    (changePersonCount n change s).ports = s.ports ∧ (changePersonCount n change s).pending = s.pending := by
  unfold changePersonCount
  split <;> simp

theorem addPerson_leavesPorts : LeavesPorts addPerson := by
  intro v s
  rw [addPerson_eq]
  (repeat' split) <;> simp [refuse, personAdded, changePersonCount_ports]

theorem purgeStart_leavesPorts : LeavesPorts purgeStart := by
  intro v s
  unfold purgeStart
  (repeat' split) <;> simp [refuse, setPurge]

theorem purgeAbort_leavesPorts : LeavesPorts purgeAbort := by
  intro v s
  unfold purgeAbort
  (repeat' split) <;> simp [refuse, setPurge]

theorem setTime_leavesPorts : LeavesPorts setTime := by
  intro v s
  unfold setTime
  (repeat' split) <;> simp [refuse]

theorem zoneShift_leavesPorts : LeavesPorts zoneShift := by
  intro v s
  unfold zoneShift
  simp

theorem cancelZoneShift_leavesPorts : LeavesPorts cancelZoneShift := by
  intro v s
  unfold cancelZoneShift
  (repeat' split) <;> simp [refuse]

theorem setDayCloseHour_leavesPorts : LeavesPorts setDayCloseHour := by
  intro v s
  unfold setDayCloseHour
  (repeat' split) <;> simp [refuse]

theorem offerMoney_ports_of_eq {r : Record} {s t : State} {n : Option Word32} (offered : offerMoney r s = (n, t)) :
    t.ports = s.ports ∧ t.pending = s.pending := by
  rw [show t = (offerMoney r s).2 from (congrArg Prod.snd offered).symm]
  simp

theorem openFolio_leavesPorts : LeavesPorts openFolio := by
  intro v s
  unfold openFolio
  dsimp only
  split
  · exact ⟨rfl, rfl⟩
  · split
    · simp [bringFolio]
    · split
      next refused => exact offerMoney_ports_of_eq refused
      next took => simpa [bringFolio] using offerMoney_ports_of_eq took

theorem postCredit_leavesPorts : LeavesPorts postCredit := by
  refine fun v s => withFolio_ports fun f => ?_
  dsimp only
  split
  · exact ⟨rfl, rfl⟩
  · split
    next refused => exact offerMoney_ports_of_eq refused
    next took => simpa using offerMoney_ports_of_eq took

theorem setLimit_leavesPorts : LeavesPorts setLimit := by
  refine fun v s => withFolio_ports fun _ => ?_
  simp

theorem freeze_leavesPorts : LeavesPorts freeze := by
  refine fun v s => withFolio_ports fun _ => ?_
  (repeat' split) <;> simp [refuse]

theorem thaw_leavesPorts : LeavesPorts thaw := by
  refine fun v s => withFolio_ports fun _ => ?_
  (repeat' split) <;> simp [refuse]

theorem closeFolio_leavesPorts : LeavesPorts closeFolio := by
  refine fun v s => withFolio_ports fun _ => ?_
  (repeat' split) <;> simp [refuse]

theorem reopen_leavesPorts : LeavesPorts reopen := by
  refine fun v s => withFolio_ports fun _ => ?_
  (repeat' split) <;> simp [refuse]

theorem queryFolioSplit_leavesPorts : LeavesPorts queryFolioSplit := by
  refine fun v s => withFolio_ports fun _ => ?_
  simp

theorem clearFlags_leavesPorts : LeavesPorts clearFlags := by
  refine fun v s => withFolio_ports fun _ => ?_
  simp

theorem queryFolio_leavesPorts : LeavesPorts queryFolio := by
  refine fun v s => withFolio_ports fun _ => ?_
  (repeat' split) <;> simp [useFree]

theorem setFolioPolicy_leavesPorts : LeavesPorts setFolioPolicy := by
  intro v s
  unfold setFolioPolicy
  simp

theorem scanFolios_leavesPorts : LeavesPorts scanFolios := by
  intro v s
  unfold scanFolios
  simp [scanFrame, setTransfer]

theorem setTill_leavesPorts : LeavesPorts setTill := by
  intro v s
  unfold setTill
  dsimp only
  (repeat' split) <;> simp [refuse]

theorem setVenue_leavesPorts : LeavesPorts setVenue := by
  intro v s
  unfold setVenue
  (repeat' split) <;> simp [putVenue]

theorem stageVenuePricing_leavesPorts : LeavesPorts stageVenuePricing := by
  intro v s
  unfold stageVenuePricing
  dsimp only
  (repeat' split) <;> simp [refuse, putVenue]

theorem stagePortRate_leavesPorts : LeavesPorts stagePortRate := by
  intro v s
  unfold stagePortRate
  (repeat' split) <;> simp [refuse]

theorem setTillPolicy_leavesPorts : LeavesPorts setTillPolicy := by
  intro v s
  unfold setTillPolicy
  simp

/-! ### The owners of chapters 6 to 10 -/

theorem dropFromPerson_ports (person cabin : Nat) (s : State) :
    (dropFromPerson person cabin s).ports = s.ports ∧ (dropFromPerson person cabin s).pending = s.pending := by
  rw [dropFromPerson_frame]; exact ⟨rfl, rfl⟩

theorem removeCabin_leavesPorts : LeavesPorts removeCabin := by
  intro v s
  unfold removeCabin
  split
  · exact ⟨rfl, rfl⟩
  · dsimp only
    rw [dropFromPersons_frame]
    exact ⟨rfl, rfl⟩

theorem appendBinding_ports (b : Binding) (cabin swept : Nat) (s : State) :
    (appendBinding b cabin swept s).2.ports = s.ports ∧ (appendBinding b cabin swept s).2.pending = s.pending := by
  unfold appendBinding addToPerson
  (repeat' split) <;> simp [refuse]

theorem completeBind_ports (b : Binding) (cabin : Nat) (c : Cabin) (s : State) :
    (completeBind b cabin c s).2.ports = s.ports ∧ (completeBind b cabin c s).2.pending = s.pending := by
  have swept : (sweep cabin c s).ports = s.ports ∧ (sweep cabin c s).pending = s.pending := by rw [sweep_frame]; exact ⟨rfl, rfl⟩
  unfold completeBind
  dsimp only
  split
  · exact ⟨rfl, rfl⟩
  · split
    · split
      · exact swept
      · exact ⟨(appendBinding_ports ..).1.trans swept.1, (appendBinding_ports ..).2.trans swept.2⟩
    · exact appendBinding_ports ..

theorem bind_leavesPorts : LeavesPorts bind := by
  intro v s
  unfold bind
  dsimp only
  (repeat' split) <;> simp [refuse, completeBind_ports]

theorem unbind_leavesPorts : LeavesPorts unbind := by
  intro v s
  unfold unbind
  (repeat' split) <;> simp [refuse, dropFromPerson_ports]

theorem setCabinState_leavesPorts : LeavesPorts setCabinState := by
  intro v s
  unfold setCabinState
  dsimp only
  split
  · split
    · exact ⟨rfl, rfl⟩
    · dsimp only
      rw [setOneCabin_frame]
      exact ⟨rfl, rfl⟩
  · obtain ⟨c, ls, same⟩ := setCabins_frame (cabinStateOf (v.nat 4)) (s.cau.onSegment (segmentOf (v.nat 3))) s
    dsimp only
    rw [same]
    exact ⟨rfl, rfl⟩

theorem setAccessPolicy_leavesPorts : LeavesPorts setAccessPolicy := by
  intro v s
  unfold setAccessPolicy
  simp

theorem queryCabin_leavesPorts : LeavesPorts queryCabin := by
  intro v s
  unfold queryCabin
  (repeat' split) <;> simp [refuse]

theorem setPollWindow_leavesPorts : LeavesPorts setPollWindow := by
  intro v s
  unfold setPollWindow
  (repeat' split) <;> simp [setWindow]

theorem setStation_leavesPorts : LeavesPorts setStation := by
  intro v s
  unfold setStation
  (repeat' split) <;> simp

theorem queryStation_leavesPorts : LeavesPorts queryStation := by
  intro v s
  unfold queryStation
  simp

theorem setPerson_leavesPorts : LeavesPorts setPerson := by
  refine fun v s => withPerson_ports fun _ => ?_
  simp

theorem setPresence_leavesPorts : LeavesPorts setPresence := by
  refine fun v s => withPerson_ports fun _ => ?_
  (repeat' split) <;> simp

theorem queryPerson_leavesPorts : LeavesPorts queryPerson := by
  refine fun v s => withPerson_ports fun _ => ?_
  simp

theorem queryCounts_leavesPorts : LeavesPorts queryCounts := by
  intro v s
  unfold queryCounts
  (repeat' split) <;> simp [useFree]

theorem setAllAboard_leavesPorts : LeavesPorts setAllAboard := by
  intro v s
  unfold setAllAboard
  (repeat' split) <;> simp [refuse, setTimer]

theorem cancelAllAboard_leavesPorts : LeavesPorts cancelAllAboard := by
  intro v s
  unfold cancelAllAboard
  (repeat' split) <;> simp [refuse, setTimer]

theorem clearTimer_leavesPorts : LeavesPorts clearTimer := by
  intro v s
  unfold clearTimer
  (repeat' split) <;> simp [refuse, setTimer]

theorem clearMissing_leavesPorts : LeavesPorts clearMissing := by
  intro v s
  unfold clearMissing
  (repeat' split) <;> simp [refuse]

theorem readMissing_leavesPorts : LeavesPorts readMissing := by
  intro v s
  unfold readMissing
  simp [missingFrame, setTransfer]

theorem drain_leavesPorts : LeavesPorts drain := by
  intro v s
  unfold drain
  (repeat' split) <;> simp [drainFrame, setTransfer]

theorem release_leavesPorts : LeavesPorts release := by
  intro v s
  unfold release
  dsimp only
  (repeat' split) <;> simp

theorem load_leavesPorts : LeavesPorts load := by
  intro v s
  unfold load
  simp [setTransfer]

theorem sense_leavesPorts : LeavesPorts sense := by
  intro v s
  unfold sense
  (repeat' split) <;> simp [changeCause]

theorem setPriority_leavesPorts : LeavesPorts setPriority := by
  intro v s
  unfold setPriority
  simp [changeCause]

/-! ### The owners that send on another port -/

theorem beginTurn_leavesService (i : Fin 8) (address : Nat) (n : Node) (s : State) : LeavesService s (beginTurn i address n s) :=
  LeavesService.trans (t := putLsc i ((s.lsc i).withTurn address n) s) (LeavesService.of_ports rfl rfl) (formed_leavesService (p := .segment i) nofun _ _)

theorem beginCycle_leavesService (i : Fin 8) (s : State) : LeavesService s (beginCycle i s) := by
  unfold beginCycle
  dsimp only
  split
  · refine LeavesService.trans ?_ (beginTurn_leavesService _ _ _ _)
    exact LeavesService.of_ports rfl rfl
  · exact LeavesService.of_ports rfl rfl

theorem listNode_leavesService (i : Fin 8) (address : Nat) (st : CabinState) (s : State) : LeavesService s (listNode i address st s) := by
  unfold listNode
  dsimp only
  split
  · exact LeavesService.of_ports rfl rfl
  · refine LeavesService.trans ?_ (beginCycle_leavesService _ _)
    exact LeavesService.of_ports rfl rfl

theorem addCabin_leavesService : OwnerLeavesService addCabin := by
  intro v s
  unfold addCabin
  dsimp only
  split
  · exact LeavesService.refl s
  · split
    · exact LeavesService.refl s
    · split
      · exact LeavesService.refl s
      · refine LeavesService.trans ?_ (listNode_leavesService _ _ _ _)
        exact LeavesService.of_ports rfl rfl

theorem judgeFetch_leavesService (g : Fin 4) (s : State) : LeavesService s (judgeFetch g s) := by
  unfold judgeFetch
  split
  · refine LeavesService.trans (t := putStation g { s.station g with shortSeen := false, fetch := .waiting .toBegin } s) ?_
      (formed_leavesService (p := .station g) nofun _ _)
    exact LeavesService.of_ports rfl rfl
  · exact LeavesService.refl s

theorem startService_leavesService : OwnerLeavesService startService := by
  intro v s
  unfold startService
  split
  · exact LeavesService.refl s
  · refine LeavesService.trans ?_ (judgeFetch_leavesService _ _)
    refine LeavesService.trans ?_ (judgeFetch_leavesService _ _)
    refine LeavesService.trans ?_ (judgeFetch_leavesService _ _)
    refine LeavesService.trans ?_ (judgeFetch_leavesService _ _)
    exact LeavesService.of_ports rfl rfl

theorem showCounts_leavesService (before : Nat) (c : Counts) (g : Fin 4) (s : State) : LeavesService s (showCounts before c g s) := by
  unfold showCounts
  split
  · refine LeavesService.trans (t := send (.station g) (.counts c) s) ?_ (LeavesService.of_ports rfl rfl)
    exact formed_leavesService (p := .station g) nofun _ _
  · exact LeavesService.refl s

theorem withBoundary_leavesService (b : Option Boundary) (s : State) : LeavesService s { s with boundary := b } := LeavesService.of_ports rfl rfl

theorem finishBoundary_leavesService (before : Nat) (s : State) : LeavesService s (finishBoundary before s) := by
  refine LeavesService.trans ?_ (withBoundary_leavesService none _)
  refine LeavesService.trans ?_ (showCounts_leavesService _ _ _ _)
  refine LeavesService.trans ?_ (showCounts_leavesService _ _ _ _)
  refine LeavesService.trans ?_ (showCounts_leavesService _ _ _ _)
  refine LeavesService.trans ?_ (showCounts_leavesService _ _ _ _)
  exact LeavesService.of_ports rfl rfl

theorem reachHolds_leavesService (before : Nat) (due : List (Nat × Nat)) (s : State) : LeavesService s (reachHolds before due s) := by
  unfold reachHolds reachTimer
  split
  · split
    · exact LeavesService.of_ports rfl rfl
    · exact finishBoundary_leavesService _ _
  · exact LeavesService.of_ports rfl rfl

theorem reachZone_leavesService (before : Nat) (s : State) : LeavesService s (reachZone before s) := by
  unfold reachZone reachClose
  split
  · exact LeavesService.of_ports rfl rfl
  · split
    · exact LeavesService.of_ports rfl rfl
    · exact reachHolds_leavesService _ _ _

theorem deliverBoundary_leavesService (before after : Nat) (s : State) : LeavesService s (deliverBoundary before after s) := by
  refine LeavesService.trans ?_ (reachZone_leavesService _ _)
  split
  · exact LeavesService.of_ports rfl rfl
  · exact LeavesService.of_ports rfl rfl

theorem trim_leavesService : OwnerLeavesService trim := by
  intro v s
  unfold trim
  split
  · unfold trimForward
    split
    · exact LeavesService.of_ports rfl rfl
    · dsimp only
      split
      · exact LeavesService.refl s
      · refine LeavesService.trans ?_ (deliverBoundary_leavesService _ _ _)
        exact LeavesService.of_ports rfl rfl
  · split
    · unfold trimBack
      split
      · exact LeavesService.refl s
      · exact LeavesService.of_ports rfl rfl
    · exact LeavesService.refl s

/-! ### Every request that belongs to no transfer -/

/-- The owner of a request that belongs to no transfer leaves the service port. -/
theorem owner_of_requestOf {c : Instr} {r : Request} (asked : requestOf c = some r) :
    ∃ own, (∀ s, exec c s = .next (hostRequest r.code r.fields r.cross own r.tag r.body s)) ∧ OwnerLeavesService own := by
  cases c with
  | issueCard => cases asked; exact ⟨_, fun _ => rfl, issueCard_leavesPorts.leavesService⟩
  | setCardState => cases asked; exact ⟨_, fun _ => rfl, setCardState_leavesPorts.leavesService⟩
  | queryCard => cases asked; exact ⟨_, fun _ => rfl, queryCard_leavesPorts.leavesService⟩
  | addPerson => cases asked; exact ⟨_, fun _ => rfl, addPerson_leavesPorts.leavesService⟩
  | purgeStart => cases asked; exact ⟨_, fun _ => rfl, purgeStart_leavesPorts.leavesService⟩
  | purgeAbort => cases asked; exact ⟨_, fun _ => rfl, purgeAbort_leavesPorts.leavesService⟩
  | queryPurge => cases asked; exact ⟨_, fun _ => rfl, (reading_leavesPorts _).leavesService⟩
  | setTime => cases asked; exact ⟨_, fun _ => rfl, setTime_leavesPorts.leavesService⟩
  | trim => cases asked; exact ⟨_, fun _ => rfl, trim_leavesService⟩
  | zoneShift => cases asked; exact ⟨_, fun _ => rfl, zoneShift_leavesPorts.leavesService⟩
  | cancelZoneShift => cases asked; exact ⟨_, fun _ => rfl, cancelZoneShift_leavesPorts.leavesService⟩
  | setDayCloseHour => cases asked; exact ⟨_, fun _ => rfl, setDayCloseHour_leavesPorts.leavesService⟩
  | queryTime => cases asked; exact ⟨_, fun _ => rfl, (reading_leavesPorts _).leavesService⟩
  | queryDayTotal => cases asked; exact ⟨_, fun _ => rfl, (reading_leavesPorts _).leavesService⟩
  | openFolio => cases asked; exact ⟨_, fun _ => rfl, openFolio_leavesPorts.leavesService⟩
  | setLimit => cases asked; exact ⟨_, fun _ => rfl, setLimit_leavesPorts.leavesService⟩
  | postCredit => cases asked; exact ⟨_, fun _ => rfl, postCredit_leavesPorts.leavesService⟩
  | freeze => cases asked; exact ⟨_, fun _ => rfl, freeze_leavesPorts.leavesService⟩
  | thaw => cases asked; exact ⟨_, fun _ => rfl, thaw_leavesPorts.leavesService⟩
  | closeFolio => cases asked; exact ⟨_, fun _ => rfl, closeFolio_leavesPorts.leavesService⟩
  | reopen => cases asked; exact ⟨_, fun _ => rfl, reopen_leavesPorts.leavesService⟩
  | queryFolio => cases asked; exact ⟨_, fun _ => rfl, queryFolio_leavesPorts.leavesService⟩
  | queryFolioSplit => cases asked; exact ⟨_, fun _ => rfl, queryFolioSplit_leavesPorts.leavesService⟩
  | clearFlags => cases asked; exact ⟨_, fun _ => rfl, clearFlags_leavesPorts.leavesService⟩
  | setFolioPolicy => cases asked; exact ⟨_, fun _ => rfl, setFolioPolicy_leavesPorts.leavesService⟩
  | queryFolioPolicy => cases asked; exact ⟨_, fun _ => rfl, (reading_leavesPorts _).leavesService⟩
  | scanFolios => cases asked; exact ⟨_, fun _ => rfl, scanFolios_leavesPorts.leavesService⟩
  | setTill => cases asked; exact ⟨_, fun _ => rfl, setTill_leavesPorts.leavesService⟩
  | setVenue => cases asked; exact ⟨_, fun _ => rfl, setVenue_leavesPorts.leavesService⟩
  | stageVenuePricing => cases asked; exact ⟨_, fun _ => rfl, stageVenuePricing_leavesPorts.leavesService⟩
  | stagePortRate => cases asked; exact ⟨_, fun _ => rfl, stagePortRate_leavesPorts.leavesService⟩
  | queryVenue => cases asked; exact ⟨_, fun _ => rfl, fun _ u => LeavesService.refl u⟩
  | queryPortRate => cases asked; exact ⟨_, fun _ => rfl, (reading_leavesPorts _).leavesService⟩
  | queryTill => cases asked; exact ⟨_, fun _ => rfl, fun _ u => LeavesService.refl u⟩
  | setTillPolicy => cases asked; exact ⟨_, fun _ => rfl, setTillPolicy_leavesPorts.leavesService⟩
  | addCabin => cases asked; exact ⟨_, fun _ => rfl, addCabin_leavesService⟩
  | removeCabin => cases asked; exact ⟨_, fun _ => rfl, removeCabin_leavesPorts.leavesService⟩
  | bind => cases asked; exact ⟨_, fun _ => rfl, bind_leavesPorts.leavesService⟩
  | unbind => cases asked; exact ⟨_, fun _ => rfl, unbind_leavesPorts.leavesService⟩
  | setCabinState => cases asked; exact ⟨_, fun _ => rfl, setCabinState_leavesPorts.leavesService⟩
  | setAccessPolicy => cases asked; exact ⟨_, fun _ => rfl, setAccessPolicy_leavesPorts.leavesService⟩
  | queryAccessPolicy => cases asked; exact ⟨_, fun _ => rfl, (reading_leavesPorts _).leavesService⟩
  | queryCabin => cases asked; exact ⟨_, fun _ => rfl, queryCabin_leavesPorts.leavesService⟩
  | setPollWindow => cases asked; exact ⟨_, fun _ => rfl, setPollWindow_leavesPorts.leavesService⟩
  | querySegment => cases asked; exact ⟨_, fun _ => rfl, fun _ u => LeavesService.refl u⟩
  | setStation => cases asked; exact ⟨_, fun _ => rfl, setStation_leavesPorts.leavesService⟩
  | queryStation => cases asked; exact ⟨_, fun _ => rfl, queryStation_leavesPorts.leavesService⟩
  | setPerson => cases asked; exact ⟨_, fun _ => rfl, setPerson_leavesPorts.leavesService⟩
  | setPresence => cases asked; exact ⟨_, fun _ => rfl, setPresence_leavesPorts.leavesService⟩
  | queryPerson => cases asked; exact ⟨_, fun _ => rfl, queryPerson_leavesPorts.leavesService⟩
  | queryCounts => cases asked; exact ⟨_, fun _ => rfl, queryCounts_leavesPorts.leavesService⟩
  | setAllAboard => cases asked; exact ⟨_, fun _ => rfl, setAllAboard_leavesPorts.leavesService⟩
  | cancelAllAboard => cases asked; exact ⟨_, fun _ => rfl, cancelAllAboard_leavesPorts.leavesService⟩
  | clearTimer => cases asked; exact ⟨_, fun _ => rfl, clearTimer_leavesPorts.leavesService⟩
  | clearMissing => cases asked; exact ⟨_, fun _ => rfl, clearMissing_leavesPorts.leavesService⟩
  | readMissing => cases asked; exact ⟨_, fun _ => rfl, readMissing_leavesPorts.leavesService⟩
  | drain => cases asked; exact ⟨_, fun _ => rfl, drain_leavesPorts.leavesService⟩
  | release => cases asked; exact ⟨_, fun _ => rfl, release_leavesPorts.leavesService⟩
  | queryJournal => cases asked; exact ⟨_, fun _ => rfl, (reading_leavesPorts _).leavesService⟩
  | load => cases asked; exact ⟨_, fun _ => rfl, load_leavesPorts.leavesService⟩
  | sense => cases asked; exact ⟨_, fun _ => rfl, sense_leavesPorts.leavesService⟩
  | setPriority => cases asked; exact ⟨_, fun _ => rfl, setPriority_leavesPorts.leavesService⟩
  | queryAttention => cases asked; exact ⟨_, fun _ => rfl, (reading_leavesPorts _).leavesService⟩
  | startService => cases asked; exact ⟨_, fun _ => rfl, startService_leavesService⟩
  | status => cases asked; exact ⟨_, fun _ => rfl, (reading_leavesPorts _).leavesService⟩
  | powerOn | restart | discardedFrame | invalid | purgeCardsStep | shiftStep | purgePersonsStep | purgeFoliosStep | tick | zoneShiftTaken |
    dayClose | holdExpiry | allAboardExpiry | walkStep | charge | openTab | closeTab | void | malformed | chargeSettlement |
    openTabSettlement | closeTabSettlement | voidSettlement | quiet | card | entry | restarted | miss | cycleWait | entryReport |
    requestPulse | restartPulse | detach | attach | retryFetch | passages | fetchFailure | judgingAPassage | next | stop | loadItem |
    serviceWindowExpiry | stationLineFall | purgeEndsAborted | endOfTransmission | startByte => cases asked

/-- Settles O5: the owner leaves the service port, on which the exchange then forms its one reply. -/
theorem acceptedRequestOpensAnExchange : Obligations.AcceptedRequestOpensAnExchange := by
  intro s c r v asked ready judged
  obtain ⟨own, runs, leaves⟩ := owner_of_requestOf asked
  obtain ⟨tx, rx, pending⟩ := leaves v (heard .service s)
  refine ⟨_, (own v (heard .service s)).1.status, (own v (heard .service s)).1.payload, (runs s).trans (congrArg _ (hostRequest_ready ready judged)), rfl, ?_, ?_,
    pending⟩
  · rw [rxOf_answered, rx, heard_eq, rxOf_setRx, if_pos rfl]
  · rw [txOf_answered, if_pos rfl, tx, txOf_heard]

end Sys2Proof.Machine
end

section
/-! O3: RESTART (R201). The tills and the held cards are answered first; then every table is emptied. -/
namespace Sys2Proof.Machine

/-- So many frames formed on a port, in order. -/
def formedAll (p : Port) (frames : List Frame) (s : State) : State := setTx p (s.txOf p ++ frames) s

theorem formedAll_nil (p : Port) (s : State) : formedAll p [] s = s := by
  have same : s.ports.tx.set (portIndex p) s.ports.tx[portIndex p] = s.ports.tx := by simp
  rw [formedAll, List.append_nil, setTx, State.txOf, same]

theorem txOf_formedAll (p q : Port) (frames : List Frame) (s : State) :
    (formedAll p frames s).txOf q = s.txOf q ++ if p = q then frames else [] := by
  rw [formedAll, txOf_setTx]
  split
  next here => rw [here]
  next => rw [List.append_nil]

/-- The frames that a walk over numbers forms, each number's on its own port, when no number's are changed by another's. -/
theorem txOf_foldl {α : Type} {f : State → α → State} {port : α → Port} {frames : State → α → List Frame}
    (forms : ∀ s a, f s a = formedAll (port a) (frames s a) s) (apart : ∀ s p l a, frames (formedAll p l s) a = frames s a)
    (q : Port) (l : List α) (s : State) :
    (l.foldl f s).txOf q = s.txOf q ++ l.flatMap fun a => if port a = q then frames s a else [] := by
  induction l generalizing s with
  | nil => simp
  | cons a l ih =>
    rw [List.foldl_cons, ih, forms, txOf_formedAll, List.flatMap_cons, List.append_assoc]
    refine congrArg _ (congrArg _ (congrArg (l.flatMap ·) (funext fun b => ?_)))
    rw [apart]

/-- Such a walk changes the transmit queues alone. -/
theorem foldl_frame {α : Type} {f : State → α → State} {port : α → Port} {frames : State → α → List Frame}
    (forms : ∀ s a, f s a = formedAll (port a) (frames s a) s) (l : List α) (s : State) :
    ∃ tx, l.foldl f s = { s with ports := { s.ports with tx := tx } } := by
  induction l generalizing s with
  | nil => exact ⟨_, rfl⟩
  | cons a l ih =>
    obtain ⟨tx, same⟩ := ih (f s a)
    exact ⟨tx, same.trans (by rw [forms]; rfl)⟩

/-! ### What RESTART answers (R94, R146) -/

/-- A WORKING till's answer at RESTART (R201). -/
def notServing (s : State) (n : Fin 128) : Option Frame :=
  s.chu.tills[n].working.map fun w => .tillAnswer { kind := answerKind w.work.kind, sequence := w.sequence, till := tillByte n, repeated := false,
                                                    body := bareAnswer .notServing }

theorem dismissTill_eq (s : State) (n : Fin 128) : dismissTill n s = formedAll .till (notServing s n).toList s := by
  have till : s.till n = s.chu.tills[n] := rfl
  unfold dismissTill notServing
  rw [till]
  cases s.chu.tills[n].working with
  | none => exact (formedAll_nil _ _).symm
  | some w => rfl

/-- A held card's DECISION at RESTART (R146). -/
def deferral (s : State) (i : Fin 8) : List Frame :=
  match s.lscs[i].turn with
  | some tr =>
    match tr.heldCard with
    | some serial => [.decision tr.address serial .defer]
    | none => []
  | none => []

theorem dismissTurn_eq (s : State) (i : Fin 8) : dismissTurn i s = formedAll (.segment i) (deferral s i) s := by
  have lsc : s.lsc i = s.lscs[i] := rfl
  unfold dismissTurn deferral
  rw [lsc]
  cases s.lscs[i].turn with
  | none => exact (formedAll_nil _ _).symm
  | some tr =>
    cases held : tr.heldCard with
    | none => simp only [held]; exact (formedAll_nil _ _).symm
    | some serial => simp only [held]; rfl

/-- The state in which every WORKING till and held card has been answered. -/
def State.dismissed (s : State) : State :=
  (List.finRange 8).foldl (fun t i => dismissTurn i t) ((List.finRange 128).foldl (fun t n => dismissTill n t) s)

theorem restartEvent_eq (s : State) : restartEvent s = restarted s.dismissed := rfl

theorem State.dismissed_frame (s : State) : ∃ tx, s.dismissed = { s with ports := { s.ports with tx := tx } } := by
  obtain ⟨tx, tills⟩ := foldl_frame (fun t n => dismissTill_eq t n) (List.finRange 128) s
  obtain ⟨tx', turns⟩ := foldl_frame (fun t i => dismissTurn_eq t i) (List.finRange 8) ((List.finRange 128).foldl (fun t n => dismissTill n t) s)
  exact ⟨tx', turns.trans (by rw [tills])⟩

theorem flatMap_toList {α β : Type} (f : α → Option β) (l : List α) : l.flatMap (fun a => (f a).toList) = l.filterMap f := by
  induction l with
  | nil => rfl
  | cons a l ih => rw [List.flatMap_cons, ih, List.filterMap_cons]; cases f a <;> rfl

/-- What a walk over the segments takes from one of them. -/
theorem flatMap_finRange_single {n : Nat} {β : Type} (g : Fin n → List β) (k : Fin n) :
    (List.finRange n).flatMap (fun i => if i = k then g i else []) = g k := by
  have members : ∀ l : List (Fin n), l.Nodup → l.flatMap (fun i => if i = k then g i else []) = if k ∈ l then g k else [] := by
    intro l
    induction l with
    | nil => simp
    | cons i l ih =>
      intro distinct
      obtain ⟨fresh, rest⟩ := List.nodup_cons.1 distinct
      rw [List.flatMap_cons, ih rest]
      by_cases here : i = k
      · subst here; simp [fresh]
      · simp [here, Ne.symm here]
  rw [members _ (List.nodup_finRange n), if_pos (List.mem_finRange k)]

theorem State.txOf_dismissed (s : State) (q : Port) : s.dismissed.txOf q
    = (s.txOf q ++ (List.finRange 128).flatMap fun n => if .till = q then (notServing s n).toList else [])
      ++ (List.finRange 8).flatMap fun i => if .segment i = q then deferral s i else [] := by
  unfold State.dismissed
  rw [txOf_foldl (fun t i => dismissTurn_eq t i) (fun _ _ _ _ => rfl), txOf_foldl (fun t n => dismissTill_eq t n) (fun _ _ _ _ => rfl)]
  obtain ⟨tx, tills⟩ := foldl_frame (fun t n => dismissTill_eq t n) (List.finRange 128) s
  rw [tills]
  rfl

theorem State.txOf_dismissed_till (s : State) : s.dismissed.txOf .till = s.txOf .till ++ (List.finRange 128).filterMap (notServing s) := by
  rw [s.txOf_dismissed, ← flatMap_toList]
  simp

theorem State.txOf_dismissed_segment (s : State) (i : Fin 8) : s.dismissed.txOf (.segment i) = s.txOf (.segment i) ++ deferral s i := by
  rw [s.txOf_dismissed, ← flatMap_finRange_single (deferral s) i]
  simp

theorem State.txOf_dismissed_service (s : State) : s.dismissed.txOf .service = s.txOf .service := by
  rw [s.txOf_dismissed]; simp

theorem State.txOf_dismissed_station (s : State) (g : Fin 4) : s.dismissed.txOf (.station g) = s.txOf (.station g) := by
  rw [s.txOf_dismissed]; simp

/-! ### The receivers (R185) -/

theorem rxOf_restarted (s : State) (p : Port) : (restarted s).rxOf p = (s.rxOf p).windowless := mapVec_getElem ..

theorem rxOf_withTx (tx : Vector (List Frame) 14) (s : State) (p : Port) : State.rxOf { s with ports := { s.ports with tx := tx } } p = s.rxOf p := rfl

/-- RESTART taken with no boundary work and no exchange (R201). -/
theorem exec_restart {s : State} (settled : s.boundary = none) (free : s.slc.exchange = false) (tag : Byte) :
    exec (.restart tag []) s = .next (answered 0x79 tag .done .nothing (restartEvent (heard .service s))) := by
  rw [show exec (.restart tag []) s = execRestart tag [] s from rfl, execRestart, received_none settled]
  exact congrArg _ (if_neg (Bool.eq_false_iff.1 free))

/-- Settles O3: the tables as after power-on, the rest through `State.dismissed_frame`, the frames port by port. -/
theorem restartKeepsJournalAndClock : Obligations.RestartKeepsJournalAndClock := by
  intro s tag settled free
  obtain ⟨tx, frame⟩ := (heard .service s).dismissed_frame
  have service := (heard .service s).txOf_dismissed_service
  have till := (heard .service s).txOf_dismissed_till
  have segment := (heard .service s).txOf_dismissed_segment
  have station := (heard .service s).txOf_dismissed_station
  have runs := exec_restart settled free tag
  rw [restartEvent_eq, frame] at runs
  rw [frame] at service till
  simp only [frame] at segment station
  refine ⟨_, runs, rfl, rfl, Atu.reset_pending, Atu.reset_priorities, rfl, rfl, rfl, fun n => getElem_replicate_fin ..,
    fun n => getElem_replicate_fin .., rfl, rfl, rfl, rfl, rfl, rfl, fun i => getElem_replicate_fin .., fun g => ?station,
    fun cls p => getElem_replicate_fin .., rfl, rfl, rfl, rfl, ?service, ?till, fun i => ?segment, fun g => ?stationFrames, ?hunts,
    fun p other => ⟨fun hunting => ?goesOnHunting, fun w bytes collecting => ?goesOn⟩, settled, rfl, rfl, rfl⟩
  case station =>
    refine (Pru.station_reset _ g).trans ?_
    rw [show (mapVec (·.lineHigh) (heard .service s).pru.stations)[g] = s.pru.stations[g].lineHigh from mapVec_getElem ..]
    rfl
  case service =>
    rw [txOf_answered, if_pos rfl]
    exact congrArg (· ++ _) service
  case till =>
    rw [txOf_answered, if_neg nofun]
    exact till
  case segment =>
    rw [txOf_answered, if_neg nofun]
    exact segment i
  case stationFrames =>
    rw [txOf_answered, if_neg nofun]
    exact station g
  case hunts => rw [rxOf_answered, rxOf_restarted, rxOf_withTx, heard_eq, rxOf_setRx, if_pos rfl]; rfl
  case goesOnHunting => rw [rxOf_answered, rxOf_restarted, rxOf_withTx, heard_eq, rxOf_setRx, if_neg other.symm, hunting]; rfl
  case goesOn => rw [rxOf_answered, rxOf_restarted, rxOf_withTx, heard_eq, rxOf_setRx, if_neg other.symm, collecting]; rfl

end Sys2Proof.Machine
end

section
/-! O12-O14: ISSUE CARD, SET CARD STATE and ADD PERSON as their owner answers them (R9, R10, R13). -/
namespace Sys2Proof.Machine

section
variable {v : Values} {t : State} {p : Person}

/-! ### ISSUE CARD (R9) -/

theorem issueCard_of_unknown (unknown : t.persons.get (v.nat 2) = none) : issueCard v t = refuse .notFound t := by
  simp only [issueCard, unknown]

theorem issueCard_of_departed (person : t.persons.get (v.nat 2) = some p) (departed : p.att.presence = .departed) :
    issueCard v t = refuse .departed t := by
  simp only [issueCard, person, departed, if_true]

section
variable (person : t.persons.get (v.nat 2) = some p) (here : p.att.presence ≠ .departed)
include person here

theorem issueCard_of_personFull (full : 8 ≤ p.ident.cardCount) : issueCard v t = refuse .personFull t := by
  have full : p.ident.cardCount ≥ Config.maxCardsPerPerson := full
  simp only [issueCard, person, here, full, if_true, if_false]

variable (room : p.ident.cardCount < 8)
include room

theorem issueCard_of_registryFull (full : 12000 ≤ t.crg.ring.length) : issueCard v t = refuse .registryFull t := by
  have room : ¬ p.ident.cardCount ≥ Config.maxCardsPerPerson := Nat.not_le.2 room
  have full : t.crg.live ≥ Config.maxLiveCards := full
  simp only [issueCard, person, here, room, full, if_true, if_false]

variable (fits : t.crg.ring.length < 12000)
include fits

theorem issueCard_of_found {slot : Nat} {c : Card} (found : t.crg.search (v.word 1) = .found slot c) : issueCard v t = refuse .conflict t := by
  have room : ¬ p.ident.cardCount ≥ Config.maxCardsPerPerson := Nat.not_le.2 room
  have fits : ¬ t.crg.live ≥ Config.maxLiveCards := Nat.not_le.2 fits
  simp only [issueCard, person, here, room, fits, found, if_false]

theorem issueCard_of_freeAt {slot : Nat} (free : t.crg.search (v.word 1) = .freeAt slot) : issueCard v t =
    ({ status := .done, payload := .slot slot (probeMoves (homeSlot (v.word 1)) slot) }, insertCard slot (newCard v t.scl.voyage) p t) := by
  have room : ¬ p.ident.cardCount ≥ Config.maxCardsPerPerson := Nat.not_le.2 room
  have fits : ¬ t.crg.live ≥ Config.maxLiveCards := Nat.not_le.2 fits
  simp only [issueCard, person, here, room, fits, free, if_false]

end

/-! ### SET CARD STATE (R10) -/

theorem setCardState_of_unfound (unfound : ∀ slot c, t.crg.search (v.word 1) ≠ .found slot c) : setCardState v t = refuse .notFound t := by
  unfold setCardState
  split
  next slot c found => exact absurd found (unfound slot c)
  next => rfl

variable {slot : Nat} {c : Card}

/-- The card's new state and fail streak (R10): a card that becomes ACTIVE begins with a fail streak of 0. -/
theorem setCardState_of_ok (found : t.crg.search (v.word 1) = .found slot c) {st : CardState} {streak : Nat}
    (outcome : cardOutcome c.state (cardActionOf (v.nat 2)) (t.isDeparted c.person) = .ok st)
    (streaks : streak = if st = .active then 0 else c.failStreak) :
    setCardState v t = ({ status := .done, payload := .cardState st }, putCard slot { c with state := st, failStreak := streak } t) := by
  simp only [setCardState, found, outcome, streaks]

theorem setCardState_of_error (found : t.crg.search (v.word 1) = .found slot c) {e : Status}
    (outcome : cardOutcome c.state (cardActionOf (v.nat 2)) (t.isDeparted c.person) = .error e) : setCardState v t = refuse e t := by
  simp only [setCardState, found, outcome]

theorem isDeparted_iff (n : Nat) : t.isDeparted n = true ↔ ∃ q, t.persons.get n = some q ∧ q.att.presence = .departed := by
  unfold State.isDeparted
  cases t.persons.get n <;> simp

/-! ### ADD PERSON (R13) -/

theorem Values.askedPresence_eq (v : Values) : v.askedPresence = (v.optNat 4).elim .expected presenceOf := by
  unfold Values.askedPresence; cases v.optNat 4 <;> rfl

theorem addPerson_of_inUse (inUse : (t.persons.get (v.nat 1)).isSome = true) : addPerson v t = refuse .conflict t := by
  rw [addPerson_eq, if_pos inUse]

section
variable (unused : t.persons.get (v.nat 1) = none)
include unused

theorem addPerson_of_noFolio (named : v.nat 3 ≠ 0) (free : t.fst.folios.get (v.nat 3) = none) : addPerson v t = refuse .notFound t := by
  simp [addPerson_eq, unused, named, free]

section
variable (known : v.nat 3 = 0 ∨ (t.fst.folios.get (v.nat 3)).isSome = true)
include known

theorem addPerson_of_folio : addPerson v t =
    if v.askedPresence = .departed then refuse .range t
    else
      ({ status := .done },
        if v.nat 3 = 0 then personAdded (v.nat 1) (classOf (v.nat 2)) (v.nat 3) v.askedPresence t
        else changePersonCount (v.nat 3) (· + 1) (personAdded (v.nat 1) (classOf (v.nat 2)) (v.nat 3) v.askedPresence t)) := by
  have known : ¬ (v.nat 3 ≠ 0 ∧ (t.fst.folios.get (v.nat 3)).isNone = true) := fun ⟨named, free⟩ =>
    known.elim named fun inUse => by rw [Option.isNone_iff_eq_none.1 free] at inUse; cases inUse
  rw [addPerson_eq, if_neg (by rw [unused]; nofun), if_neg known]

theorem addPerson_of_departed (departed : v.askedPresence = .departed) : addPerson v t = refuse .range t := by
  rw [addPerson_of_folio unused known, if_pos departed]

end

section
variable (present : v.askedPresence ≠ .departed)
include present

theorem addPerson_of_folioZero (zero : v.nat 3 = 0) : addPerson v t =
    ({ status := .done }, personAdded (v.nat 1) (classOf (v.nat 2)) (v.nat 3) v.askedPresence t) := by
  rw [addPerson_of_folio unused (.inl zero), if_neg present, if_pos zero]

theorem addPerson_of_folioInUse {f : Folio} (named : v.nat 3 ≠ 0) (folio : t.fst.folios.get (v.nat 3) = some f) : addPerson v t =
    ({ status := .done }, putFolio (v.nat 3) { f with personCount := f.personCount + 1 }
      (personAdded (v.nat 1) (classOf (v.nat 2)) (v.nat 3) v.askedPresence t)) := by
  have kept : (personAdded (v.nat 1) (classOf (v.nat 2)) (v.nat 3) v.askedPresence t).fst.folios.get (v.nat 3) = some f := folio
  rw [addPerson_of_folio unused (.inr (by rw [folio]; rfl)), if_neg present, if_neg named, changePersonCount, kept]

end

end

end

/-- Settles O12: check by check, and the card inserted at the FREE slot. -/
theorem issueCardInsertsOrRefuses : Obligations.IssueCardInsertsOrRefuses := by
  refine ⟨fun s tag body v p slot ready decoded person here room fits free => ?inserts, fun s tag body v ready decoded =>
    ⟨fun unknown => ?notFound, fun p person => ⟨fun departed => ?departed, fun here full => ?personFull, fun here room full => ?registryFull,
      fun slot c here room fits found => ?conflict⟩⟩⟩
  case inserts => exact request_answered ready decoded (issueCard_of_freeAt (t := heard .service s) person here room fits free)
  case notFound => exact request_answered ready decoded (issueCard_of_unknown (t := heard .service s) unknown)
  case departed => exact request_answered ready decoded (issueCard_of_departed (t := heard .service s) person departed)
  case personFull => exact request_answered ready decoded (issueCard_of_personFull (t := heard .service s) person here full)
  case registryFull => exact request_answered ready decoded (issueCard_of_registryFull (t := heard .service s) person here room full)
  case conflict => exact request_answered ready decoded (issueCard_of_found (t := heard .service s) person here room fits found)

/-- Settles O13: action by action and state by state, as `cardOutcome` tabulates them. -/
theorem setCardStateFollowsItsTable : Obligations.SetCardStateFollowsItsTable := by
  intro s tag body v ready decoded refusal a
  refine ⟨fun unfound => request_answered ready decoded (setCardState_of_unfound unfound), fun slot c found => ?_⟩
  intro becomes departed
  have done (st : CardState) (streak : Nat) (streaks : streak = if st = .active then 0 else c.failStreak)
      (outcome : cardOutcome c.state (cardActionOf a) (s.isDeparted c.person) = .ok st) : becomes st streak :=
    request_answered ready decoded (setCardState_of_ok (t := heard .service s) found outcome streaks)
  have refused (e : Status) (outcome : cardOutcome c.state (cardActionOf a) (s.isDeparted c.person) = .error e) : refusal e :=
    request_answered ready decoded (setCardState_of_error (t := heard .service s) found outcome)
  have gone : s.isDeparted c.person = true ↔ departed := isDeparted_iff c.person
  refine ⟨fun suspend => ⟨fun state => ?_, fun state => ?_⟩,
    fun resume => ⟨fun state => ?_, fun state => ⟨fun here => ?_, fun left => ?_⟩, fun state => ?_⟩,
    fun lost => ⟨fun state => ?_, fun state => ?_⟩, fun withdraw => ?_⟩
  · refine done _ _ rfl ?_
    rw [suspend]
    rcases state with state | state <;> rw [state] <;> rfl
  · refine refused _ ?_
    rw [suspend]
    rcases state with state | state | state <;> rw [state] <;> rfl
  · refine done _ _ rfl ?_
    rw [resume]
    rcases state with state | state <;> rw [state] <;> rfl
  · refine done _ _ rfl ?_
    rw [resume, Bool.eq_false_iff.2 (mt gone.1 here)]
    rcases state with state | state <;> rw [state] <;> rfl
  · refine refused _ ?_
    rw [resume, gone.2 left]
    rcases state with state | state <;> rw [state] <;> rfl
  · refine refused _ ?_
    rw [resume, state]; rfl
  · refine done _ _ rfl ?_
    rw [lost]
    cases state' : c.state with
    | withdrawn => exact absurd state' state
    | active | suspended | lost | departed => rfl
  · refine refused _ ?_
    rw [lost, state]; rfl
  · refine done _ _ rfl ?_
    rw [withdraw]; rfl

/-- Settles O14: check by check, and the person taken in with and without a folio. -/
theorem addPersonTakesThePersonIn : Obligations.AddPersonTakesThePersonIn := by
  intro s tag body v ready decoded refusal cls presence
  have asked : v.askedPresence = presence := v.askedPresence_eq
  refine ⟨fun inUse => ?_, fun unused named free => ?_, fun unused known departed => ?_, fun unused present => ?_⟩
  · exact request_answered ready decoded (addPerson_of_inUse (t := heard .service s) inUse)
  · exact request_answered ready decoded (addPerson_of_noFolio (t := heard .service s) unused named free)
  · exact request_answered ready decoded (addPerson_of_departed (t := heard .service s) unused known (asked.trans departed))
  · rw [← asked] at present
    intro p t u
    have added : personAdded (v.nat 1) (classOf (v.nat 2)) (v.nat 3) v.askedPresence t = u := by rw [asked]; rfl
    refine ⟨fun zero => ?_, fun f named folio => ?_⟩
    · rw [← added]
      exact request_answered ready decoded (addPerson_of_folioZero (t := heard .service s) unused present zero)
    · rw [← added]
      exact request_answered ready decoded (addPerson_of_folioInUse (t := heard .service s) unused present named folio)

end Sys2Proof.Machine
end

section
/-! O15 and O16: the purge from its start to its end (R15-R23). -/
namespace Sys2Proof.Machine

section
variable {s : State}

/-! ### PURGE START, PURGE ABORT and the end of an aborted purge (R15, R23) -/

theorem purgeStart_of_idle (v : Values) (idle : s.crg.purge.phase = .idle) : purgeStart v s =
    ({ status := .done }, setPurge { s.crg.purge with phase := .cards 0, shift := none, abort := false, counts := ⟨0, 0, 0⟩ } s) := if_pos idle

theorem purgeStart_of_active (v : Values) (active : s.crg.purge.phase ≠ .idle) : purgeStart v s = refuse .purgeActive s := if_neg active

theorem purgeAbort_of_idle (v : Values) (idle : s.crg.purge.phase = .idle) : purgeAbort v s = refuse .notNow s := if_pos idle

theorem purgeAbort_of_active (v : Values) (active : s.crg.purge.phase ≠ .idle) : purgeAbort v s =
    ({ status := .done }, setPurge { s.crg.purge with abort := true } s) := if_neg active

theorem Purge.endsNow_iff (p : Purge) : p.endsNow = true ↔ p.phase ≠ .idle ∧ p.abort = true ∧ p.shift = none := by
  simp [Purge.endsNow, and_assoc]

/-- With an abort requested and no shift in progress every purge step ends the purge (R23). -/
theorem exec_of_endsNow (settled : s.boundary = none) (ends : s.crg.purge.endsNow = true) :
    ∀ c ∈ [Instr.purgeEndsAborted, .purgeCardsStep, .purgePersonsStep, .purgeFoliosStep], exec c s = .next (endPurge .aborted s) := by
  have end_ {α : Type} (x : α) (y : α) : (if (settle s).crg.purge.endsNow = true then x else y) = x := by
    rw [settle_none settled, if_pos ends]
  simp only [List.forall_mem_cons]
  refine ⟨?_, ?_, ?_, ?_, nofun⟩ <;>
    exact congrArg Host.Outcome.next ((end_ _ _).trans (by rw [settle_none settled]))

theorem not_endsNow_of_no_abort (noAbort : s.crg.purge.abort = false) : ¬ s.crg.purge.endsNow = true := by
  rw [Purge.endsNow_iff, noAbort]
  exact fun ⟨_, abort, _⟩ => Bool.false_ne_true abort

section
variable (settled : s.boundary = none) (noAbort : s.crg.purge.abort = false)
include settled noAbort

theorem exec_purgeCardsStep {walk : Nat} (phase : s.crg.purge.phase = .cards walk) (noShift : s.crg.purge.shift = none) :
    exec .purgeCardsStep s = .next (cardsStep walk s) := by
  rw [show exec .purgeCardsStep s = execPurgeCardsStep s from rfl]
  simp only [execPurgeCardsStep, settle_none settled, not_endsNow_of_no_abort noAbort, phase, noShift, if_false, Bool.false_eq_true]

theorem exec_purgePersonsStep {walk : Nat} (phase : s.crg.purge.phase = .persons walk) : exec .purgePersonsStep s = .next (personsStep walk s) := by
  rw [show exec .purgePersonsStep s = execPurgePersonsStep s from rfl]
  simp only [execPurgePersonsStep, settle_none settled, not_endsNow_of_no_abort noAbort, phase, if_false, Bool.false_eq_true]

theorem exec_purgeFoliosStep {walk : Nat} (phase : s.crg.purge.phase = .folios walk) : exec .purgeFoliosStep s = .next (foliosStep walk s) := by
  rw [show exec .purgeFoliosStep s = execPurgeFoliosStep s from rfl]
  simp only [execPurgeFoliosStep, settle_none settled, not_endsNow_of_no_abort noAbort, phase, if_false, Bool.false_eq_true]

end

/-! ### Phases PERSONS and FOLIOS (R21, R22) -/

theorem personsStep_of_stays {walk : Nat} (stays : ∀ q, s.persons.get walk = some q → q.att.presence ≠ .departed ∨ q.ident.cardCount ≠ 0) :
    personsStep walk s = setPurge { s.crg.purge with phase := if walk + 1 > 8000 then .folios 1 else .persons (walk + 1) } s := by
  unfold personsStep
  cases person : s.persons.get walk with
  | none => rfl
  | some q =>
    have stays : ¬ (q.att.presence = .departed ∧ q.ident.cardCount = 0) := fun ⟨gone, cardless⟩ => (stays q person).elim (· gone) (· cardless)
    simp only [if_neg stays]

theorem personsStep_of_freed {walk : Nat} {q : Person} (person : s.persons.get walk = some q) (departed : q.att.presence = .departed)
    (cardless : q.ident.cardCount = 0) : personsStep walk s =
      let t := freePerson walk q s
      setPurge { t.crg.purge with phase := if walk + 1 > 8000 then .folios 1 else .persons (walk + 1) } t := by
  simp only [personsStep, person, departed, cardless, and_self, if_true]

/-- The folios once a person is freed: that of the person's folio counts one person fewer (R21). -/
def State.foliosWithout (s : State) (q : Person) : Table Folio :=
  if q.ident.folio = 0 then s.fst.folios
  else match s.fst.folios.get q.ident.folio with
    | some f => s.fst.folios.set q.ident.folio { f with personCount := f.personCount - 1 }
    | none => s.fst.folios

theorem State.foliosWithout_other {q : Person} {n : Nat} (other : n ≠ q.ident.folio) : (s.foliosWithout q).get n = s.fst.folios.get n := by
  unfold State.foliosWithout
  split
  · rfl
  · split
    · exact Table.get_set_other _ _ _ _ other
    · rfl

theorem State.foliosWithout_own {q : Person} {f : Folio} (named : q.ident.folio ≠ 0) (folio : s.fst.folios.get q.ident.folio = some f) :
    (s.foliosWithout q).get q.ident.folio = some { f with personCount := f.personCount - 1 } := by
  rw [State.foliosWithout, if_neg named, folio]
  exact Table.get_set_same ..

/-- A person freed, part by part (R21). -/
theorem freePerson_parts (n : Nat) (q : Person) (s : State) : freePerson n q s =
    { s with persons := s.persons.erase n, pru := s.pru.setCount q.ident.cls .departed (s.pru.count q.ident.cls .departed - 1),
             fst := { s.fst with folios := s.foliosWithout q }, cau := (dropFromCabins n q.ident.cabins s).cau,
             crg := { s.crg with purge := { s.crg.purge with counts := { s.crg.purge.counts with persons := s.crg.purge.counts.persons + 1 } } } } := by
  rw [freePerson_eq]
  unfold State.foliosWithout
  by_cases named : q.ident.folio = 0
  · rw [if_pos named, if_pos named]; rfl
  · rw [if_neg named, if_neg named]
    unfold changePersonCount
    cases folio : s.fst.folios.get q.ident.folio with
    | none => simp only [show (State.withoutPerson n q s).fst.folios.get q.ident.folio = none from folio]; rfl
    | some f => simp only [show (State.withoutPerson n q s).fst.folios.get q.ident.folio = some f from folio]; rfl

theorem dropFromCabin_cau (person cabin : Nat) (s : State) :
    { (dropFromCabin person cabin s).cau with cabins := s.cau.cabins } = s.cau := by
  unfold dropFromCabin; split <;> rfl

theorem dropFromCabins_cau (person : Nat) (cabins : List Nat) (s : State) :
    { (dropFromCabins person cabins s).cau with cabins := s.cau.cabins } = s.cau := by
  induction cabins generalizing s with
  | nil => rfl
  | cons x cabins ih =>
    have later := ih (dropFromCabin person x s)
    have first := dropFromCabin_cau person x s
    rw [show dropFromCabins person (x :: cabins) s = dropFromCabins person cabins (dropFromCabin person x s) from rfl]
    have both := congrArg (fun c : Cau => { c with cabins := s.cau.cabins }) later
    exact both.trans first

theorem foliosStep_of_some {walk : Nat} {f : Folio} (folio : s.fst.folios.get walk = some f) (freed : f.freeable = true) :
    foliosStep walk s =
      if walk + 1 > 4000 then endPurge .complete (freeFolio walk s)
      else setPurge { (freeFolio walk s).crg.purge with phase := .folios (walk + 1) } (freeFolio walk s) := by
  simp only [foliosStep, folio, freed, if_true]

theorem foliosStep_of_stays {walk : Nat} (stays : ∀ f, s.fst.folios.get walk = some f → f.freeable = false) : foliosStep walk s =
    if walk + 1 > 4000 then endPurge .complete s else setPurge { s.crg.purge with phase := .folios (walk + 1) } s := by
  unfold foliosStep
  cases folio : s.fst.folios.get walk with
  | none => rfl
  | some f => simp only [stays f folio, if_false, Bool.false_eq_true]

theorem Folio.freeable_iff (f : Folio) : f.freeable = true ↔ f.state = .closed ∧ f.balance = 0 ∧ f.personCount = 0 := by
  simp [Folio.freeable, and_assoc]

/-! ### Phase CARDS (R17-R19) -/

theorem removable_iff (c : Card) : s.removable c = true ↔ c.state = .departed ∨ c.state = .withdrawn
    ∨ (c.state = .lost ∧ ∃ q, s.persons.get c.person = some q ∧ q.att.presence = .departed) := by
  rw [← isDeparted_iff]
  unfold State.removable
  cases c.state <;> simp

theorem cardsStep_of_stays {walk : Nat} (stays : ∀ c, s.crg.ring.get walk = some c → ¬ s.removable c = true) :
    cardsStep walk s = setPurge (s.crg.purge.cardsOn walk) s := by
  unfold cardsStep
  split
  next c card => rw [if_neg (stays c card)]
  next => rfl

theorem cardsStep_of_removable {walk : Nat} {c : Card} (card : s.crg.ring.get walk = some c) (goes : s.removable c = true) :
    cardsStep walk s = removeCard walk c s := by
  simp only [cardsStep, card, goes, if_true]

theorem exec_shiftStep {h : Shift} (settled : s.boundary = none) (shift : s.crg.purge.shift = some h) : exec .shiftStep s =
    .next (if (s.crg.shifted h).purge.endsNow = true then endPurge .aborted { s with crg := s.crg.shifted h } else { s with crg := s.crg.shifted h }) := by
  rw [show exec .shiftStep s = execShiftStep s from rfl]
  simp only [execShiftStep, settle_none settled, shift]

theorem Crg.shifted_of_free {g : Crg} {h : Shift} (free : g.ring.get h.examine = none) :
    g.shifted h = { g with purge := { g.purge with shift := none } } := by
  simp only [Crg.shifted, free]

theorem Crg.shifted_of_fills {g : Crg} {h : Shift} {c : Card} (card : g.ring.get h.examine = some c)
    (fills : mayFill (homeSlot c.serial) h.hole h.examine = true) : g.shifted h =
      { ring := (g.ring.erase h.examine).set h.hole c, purge := { g.purge with shift := some { hole := h.examine, examine := nextSlot h.examine } } } := by
  simp only [Crg.shifted, card, fills, if_true]

theorem Crg.shifted_of_passes {g : Crg} {h : Shift} {c : Card} (card : g.ring.get h.examine = some c)
    (passes : ¬ mayFill (homeSlot c.serial) h.hole h.examine = true) : g.shifted h =
      { g with purge := { g.purge with shift := some { h with examine := nextSlot h.examine } } } := by
  simp only [Crg.shifted, card, passes, if_false, Bool.false_eq_true]

end

/-- Settles O15: PURGE START and ABORT by their owners, the steps of phases PERSONS and FOLIOS by what `freePerson_parts` and `freeFolio` leave. -/
theorem purgeRunsFromStartToEnd : Obligations.PurgeRunsFromStartToEnd := by
  refine ⟨fun s tag => ⟨fun ready idle => ⟨?_, ?_⟩, fun ready active => ⟨?_, ?_⟩, fun settled active abort noShift c listed => ?_⟩,
    fun s walk settled noAbort => ⟨fun phase => ⟨fun stays => ?_, fun q person departed cardless => ?_⟩, fun phase => ?_⟩⟩
  · exact request_answered ready rfl (purgeStart_of_idle (s := heard .service s) [] idle)
  · exact request_answered ready rfl (purgeAbort_of_idle (s := heard .service s) [] idle)
  · exact request_answered ready rfl (purgeStart_of_active (s := heard .service s) [] active)
  · exact request_answered ready rfl (purgeAbort_of_active (s := heard .service s) [] active)
  · exact exec_of_endsNow settled ((Purge.endsNow_iff _).2 ⟨active, abort, noShift⟩) c listed
  · rw [exec_purgePersonsStep settled noAbort phase, personsStep_of_stays stays]
  · refine ⟨_, exec_purgePersonsStep settled noAbort phase, ?_⟩
    rw [personsStep_of_freed person departed cardless, freePerson_parts]
    refine ⟨rfl, rfl, rfl, fun n other => s.foliosWithout_other other, fun named f folio => s.foliosWithout_own named folio, fun n => ?_, rfl,
      dropFromCabins_cau walk q.ident.cabins s, rfl, rfl, rfl, rfl, rfl, rfl, rfl, settled, rfl, rfl, rfl⟩
    refine (dropFromCabins_get walk q.ident.cabins n s).trans (Option.map_congr fun c _ => ?_)
    simp only [List.contains_iff_mem]
    rfl
  · intro free done freed more
    refine ⟨fun ⟨f, folio, freeable⟩ => ?_, fun stays => ?_⟩
    · rw [exec_purgeFoliosStep settled noAbort phase, foliosStep_of_some folio (f.freeable_iff.2 freeable)]
      rfl
    · rw [exec_purgeFoliosStep settled noAbort phase, foliosStep_of_stays fun f folio => ?_]
      · rfl
      · exact Bool.eq_false_iff.2 fun freeable => stays ⟨f, folio, f.freeable_iff.1 freeable⟩

/-- Settles O16: the walk and the removal by `cardsStep`, each outcome of a shift step by `Crg.shifted`. -/
theorem cardStepsRemoveAndShift : Obligations.CardStepsRemoveAndShift := by
  refine ⟨fun s walk settled phase noShift noAbort => ?cards, fun s h settled shift => ?shift⟩
  case cards =>
    intro p removable
    refine ⟨fun stays => ?_, fun c q card goes person => ?_⟩
    · rw [exec_purgeCardsStep settled noAbort phase noShift, cardsStep_of_stays fun c card => ?_]
      · rfl
      · rw [removable_iff]
        rcases stays with free | ⟨x, here, keeps⟩
        · rw [free] at card; cases card
        · rw [card] at here; cases here; exact keeps
    · rw [exec_purgeCardsStep settled noAbort phase noShift, cardsStep_of_removable card ((removable_iff c).2 goes)]
      simp only [removeCard, person]
      rfl
  case shift =>
    intro p beyond
    refine ⟨fun free noAbort => ?_, fun free abort active => ?_, fun c card => ⟨fun fills => ?_, fun passes => ?_⟩⟩
    · rw [exec_shiftStep settled shift, Crg.shifted_of_free free, if_neg]
      · rfl
      · rw [Purge.endsNow_iff]
        exact fun ⟨_, abort, _⟩ => Bool.false_ne_true (noAbort.symm.trans abort)
    · rw [exec_shiftStep settled shift, Crg.shifted_of_free free, if_pos ((Purge.endsNow_iff { s.crg.purge with shift := none }).2 ⟨active, abort, rfl⟩)]
      rfl
    · rw [exec_shiftStep settled shift, Crg.shifted_of_fills card (decide_eq_true fills), if_neg fun ends => Option.some_ne_none _ ((Purge.endsNow_iff _).1 ends).2.2]
      rfl
    · rw [exec_shiftStep settled shift, Crg.shifted_of_passes card (mt of_decide_eq_true passes), if_neg fun ends => Option.some_ne_none _ ((Purge.endsNow_iff _).1 ends).2.2]
      rfl

end Sys2Proof.Machine
end

section
/-! O10: the end of a transmission, start bytes and discarded frames. -/
namespace Sys2Proof.Machine
variable {s : State}

theorem Frame.opensTurn_iff (f : Frame) : f.opensTurn = true ↔ (∃ a, f = .poll a) ∨ ∃ a m, f = .mode a m := by
  cases f <;> simp [Frame.opensTurn]

theorem any_opensTurn_eq_false_iff {later : List Frame} : later.any Frame.opensTurn = false ↔ ∀ x ∈ later, ¬ ((∃ a, x = .poll a) ∨ ∃ a m, x = .mode a m) := by
  simp only [← Frame.opensTurn_iff, List.any_eq_false]

theorem exec_endOfTransmission_idle {p : Port} (settled : s.boundary = none) (idle : s.txOf p = []) : exec (.endOfTransmission p) s = .next s := by
  show execEndOfTransmission p s = _
  simp only [execEndOfTransmission, settle_none settled, idle]

theorem exec_endOfTransmission {p : Port} {f : Frame} {later : List Frame} (settled : s.boundary = none) (front : s.txOf p = f :: later) :
    exec (.endOfTransmission p) s = .next (frameSent p f later (setTx p later s)) := by
  show execEndOfTransmission p s = _
  simp only [execEndOfTransmission, settle_none settled, front]

theorem startTurnWindow_begins {i : Fin 8} {tr : Turn} (turn : s.lscs[i].turn = some tr) (begins : tr.window = .toBegin) :
    startTurnWindow i s = putLsc i { s.lscs[i] with turn := some { tr with window := .running } } s := by
  simp only [startTurnWindow, show (s.lsc i).turn = some tr from turn, begins, if_true]
  rfl

theorem startTurnWindow_of_begun {i : Fin 8} (begun : ∀ tr, s.lscs[i].turn = some tr → tr.window ≠ .toBegin) : startTurnWindow i s = s := by
  unfold startTurnWindow
  split
  next tr turn => exact if_neg (begun tr turn)
  next => rfl

theorem startFetchWindow_begins {g : Fin 4} (begins : s.pru.stations[g].fetch = .waiting .toBegin) :
    startFetchWindow g s = putStation g { s.pru.stations[g] with fetch := .waiting .running } s := by
  simp only [startFetchWindow, show (s.station g).fetch = .waiting .toBegin from begins]
  rfl

theorem startFetchWindow_of_begun {g : Fin 4} (begun : s.pru.stations[g].fetch ≠ .waiting .toBegin) : startFetchWindow g s = s := by
  unfold startFetchWindow
  split
  next begins => exact absurd begins begun
  next => rfl

theorem windowOpen_segment_iff (s : State) (i : Fin 8) : s.windowOpen (.segment i) = true ↔ ∃ tr, s.lscs[i].turn = some tr ∧ tr.window ≠ .over := by
  simp only [State.windowOpen]
  split
  next tr turn => exact ⟨fun opens => ⟨tr, turn, by simpa using opens⟩, fun ⟨other, also, opens⟩ => by
    cases Option.some.inj (turn.symm.trans also); simpa using opens⟩
  next noTurn => exact ⟨nofun, fun ⟨tr, turn, _⟩ => nomatch noTurn.symm.trans turn⟩

/-! ### Discards (R185) -/

theorem discardedFrame_of_unfit {p : Port} {why : Discard} (settled : s.boundary = none) (unfit : why.fits p = false) :
    exec (.discardedFrame p why) s = .next s := by
  show execDiscardedFrame p why s = _
  simp only [execDiscardedFrame, settle_none settled, unfit, Bool.false_eq_true, if_false]

theorem discardedFrame_of_fit {p : Port} {why : Discard} (settled : s.boundary = none) (fits : why.fits p = true) :
    exec (.discardedFrame p why) s = .next (discardOn p s) := by
  show execDiscardedFrame p why s = _
  simp only [execDiscardedFrame, settle_none settled, fits, if_true]

theorem badCrc_fits_iff (p : Port) (frame : List Byte) : Discard.fits p (.badCrc frame) = true ↔
    frame.head? = some 0xB5 ∧ 2 ≤ leNat (slice frame 1 2) ∧ leNat (slice frame 1 2) ≤ 1024
      ∧ frame.length = leNat (slice frame 1 2) + 5 ∧ leNat (frame.drop (frame.length - 2)) ≠ (crc16 (slice frame 1 (frame.length - 3))).toNat := by
  simp only [Discard.fits, badCrcFrame, crcOk, Bool.and_eq_true, Bool.not_eq_true', decide_eq_true_eq, decide_eq_false_iff_not, beq_iff_eq, and_assoc]
  rfl

theorem discardOnSegment_of_open {i : Fin 8} (runs : ∀ tr, s.lscs[i].turn = some tr → tr.window ≠ .over) :
    discardOnSegment i s = setRx (.segment i) .hunting s := by
  unfold discardOnSegment
  dsimp only
  split
  next tr turn => exact if_neg (runs tr turn)
  next => rfl

theorem discardOnStation_of_open {g : Fin 4} (runs : s.pru.stations[g].fetch ≠ .waiting .over) :
    discardOnStation g s = setRx (.station g) .hunting s := by
  unfold discardOnStation
  dsimp only
  split
  next past => exact absurd past runs
  next => rfl

/-- Settles O10: each end of a transmission by `frameSent`, each discard by `discardOn`. -/
theorem framingEventsMoveReceiversAndWindows : Obligations.FramingEventsMoveReceiversAndWindows := by
  refine ⟨fun s settled => ⟨fun p idle => exec_endOfTransmission_idle settled idle, fun r later front exchange => ?ends, fun r later front noExchange => ?noExchange,
    fun f later front => exec_endOfTransmission settled front, fun i f later front => ?segment, fun g f later front => ⟨fun fetch last begins => ?fetchSent, fun not => ?notLast⟩⟩,
    fun s settled => ⟨fun p hunting => ?start, fun p w bytes collecting => ?within, windowOpen_segment_iff s, fun g => decide_eq_true_iff,
      fun p why unfit => discardedFrame_of_unfit settled unfit, fun p l => ?length, fun p => rfl, badCrc_fits_iff,
      fun why => ⟨discardedFrame_of_fit settled, discardedFrame_of_fit settled⟩, fun i why fits runs => ?discardSegment, fun g why fits runs => ?discardStation⟩⟩
  case ends =>
    rw [exec_endOfTransmission settled front, frameSent]
    simp only [exchange, if_true]
    rfl
  case noExchange =>
    rw [exec_endOfTransmission settled front, frameSent]
    simp only [noExchange, Bool.false_eq_true, if_false]
  case segment =>
    intro opens
    refine ⟨fun tr opensTurn last turn begins => ?_, fun not => ?_⟩
    · rw [exec_endOfTransmission settled front, frameSent, if_pos ⟨(Frame.opensTurn_iff f).2 opensTurn, any_opensTurn_eq_false_iff.2 last⟩,
        startTurnWindow_begins (s := setTx (.segment i) later s) turn begins]
      rfl
    · rw [exec_endOfTransmission settled front, frameSent]
      congr 1
      split
      next both =>
        refine startTurnWindow_of_begun (s := setTx (.segment i) later s) ?_
        rcases not with other | ⟨x, among, opensTurn⟩ | begun
        · exact absurd ((Frame.opensTurn_iff f).1 both.1) other
        · exact absurd opensTurn (any_opensTurn_eq_false_iff.1 both.2 x among)
        · exact begun
      next => rfl
  case fetchSent =>
    rw [exec_endOfTransmission settled front, frameSent, if_pos ⟨fetch, by simpa using last⟩,
      startFetchWindow_begins (s := setTx (.station g) later s) begins]
    rfl
  case notLast =>
    rw [exec_endOfTransmission settled front, frameSent]
    congr 1
    split
    next both =>
      refine startFetchWindow_of_begun (s := setTx (.station g) later s) ?_
      rcases not with other | among | begun
      · exact absurd both.1 other
      · exact absurd among (by simpa using both.2)
      · exact begun
    next => rfl
  case start =>
    show execStartByte p s = _
    simp only [execStartByte, settle_none settled, hunting]
    rfl
  case within =>
    show execStartByte p s = _
    simp only [execStartByte, settle_none settled, collecting]
  case length => simp [Discard.fits]
  case discardSegment =>
    rw [discardedFrame_of_fit settled fits]
    exact congrArg _ (discardOnSegment_of_open runs)
  case discardStation =>
    rw [discardedFrame_of_fit settled fits]
    exact congrArg _ (discardOnStation_of_open runs)

end Sys2Proof.Machine
end

section
/-! O17: the work of a boundary is done stage by stage, and a command but those of the boundary finds it done (log 3). -/
namespace Sys2Proof.Machine
variable {s : State}

/-! ### The stages in their order -/

/-- The place of a stage in a boundary's order of work. -/
def Stage.rank : Stage → Nat
  | .zone => 0
  | .close => 1
  | .holds _ => 2
  | .timer => 3

/-- The boundary in hand, if any, has no stage before a rank still to come. -/
def State.past (rank : Nat) (s : State) : Prop := ∀ b, s.boundary = some b → rank ≤ b.stage.rank

theorem State.past.mono {m n : Nat} (past : s.past n) (le : m ≤ n) : s.past m := fun b outstanding => le.trans (past b outstanding)

theorem State.past_of_stage {b : Boundary} (outstanding : s.boundary = some b) : s.past b.stage.rank := fun x h => by
  cases Option.some.inj (outstanding.symm.trans h); exact Nat.le_refl _

theorem State.past_of_none (settled : s.boundary = none) (n : Nat) : s.past n := fun _ h => nomatch settled.symm.trans h

theorem reachTimer_past (before : Nat) (s : State) : (reachTimer before s).past 3 := by
  unfold reachTimer
  split
  · exact State.past_of_stage (b := ⟨before, .timer⟩) rfl
  · exact State.past_of_none rfl 3

theorem reachHolds_past (before : Nat) (due : List (Nat × Nat)) (s : State) : (reachHolds before due s).past 2 := by
  cases due with
  | nil => exact (reachTimer_past before s).mono (by decide)
  | cons d rest => exact State.past_of_stage (b := ⟨before, .holds (d :: rest)⟩) rfl

theorem reachClose_past (before : Nat) (s : State) : (reachClose before s).past 1 := by
  unfold reachClose
  split
  · exact State.past_of_stage (b := ⟨before, .close⟩) rfl
  · exact (reachHolds_past _ _ _).mono (by decide)

/-! ### Each part of `settle` takes one stage, and leaves what is past it -/

theorem settleZone_of_past (past : s.past 1) : settleZone s = s := by
  unfold settleZone
  cases outstanding : s.boundary with
  | none => rfl
  | some b =>
    have late := past b outstanding
    cases stage : b.stage with
    | zone => rw [stage] at late; simp [Stage.rank] at late
    | close => simp only [stage]
    | holds due => simp only [stage]
    | timer => simp only [stage]

theorem settleZone_past (s : State) : (settleZone s).past 1 := by
  unfold settleZone
  cases outstanding : s.boundary with
  | none => exact State.past_of_none outstanding 1
  | some b =>
    have here := State.past_of_stage outstanding
    cases stage : b.stage with
    | zone => simp only [stage]; exact reachClose_past _ _
    | close => rw [stage] at here; simp only [stage]; exact here
    | holds due => rw [stage] at here; simp only [stage]; exact here.mono (Nat.le_succ 1)
    | timer => rw [stage] at here; simp only [stage]; exact here.mono (by decide)

theorem settleClose_of_past (past : s.past 2) : settleClose s = s := by
  unfold settleClose
  rw [settleZone_of_past (past.mono (by decide))]
  cases outstanding : s.boundary with
  | none => simp only [outstanding]
  | some b =>
    have late := past b outstanding
    cases stage : b.stage with
    | zone => rw [stage] at late; simp [Stage.rank] at late
    | close => rw [stage] at late; simp [Stage.rank] at late
    | holds due => simp only [outstanding, stage]
    | timer => simp only [outstanding, stage]

theorem settleClose_past (s : State) : (settleClose s).past 2 := by
  unfold settleClose
  have first := settleZone_past s
  cases outstanding : (settleZone s).boundary with
  | none => simp only [outstanding]; exact State.past_of_none outstanding 2
  | some b =>
    have late := first b outstanding
    have here := State.past_of_stage outstanding
    cases stage : b.stage with
    | zone => rw [stage] at late; simp [Stage.rank] at late
    | close => simp only [outstanding, stage]; exact reachHolds_past _ _ _
    | holds due => rw [stage] at here; simp only [outstanding, stage]; exact here
    | timer => rw [stage] at here; simp only [outstanding, stage]; exact here.mono (by decide)

theorem settleHolds_of_past (past : s.past 3) : settleHolds s = s := by
  unfold settleHolds
  rw [settleClose_of_past (past.mono (by decide))]
  cases outstanding : s.boundary with
  | none => simp only [outstanding]
  | some b =>
    have late := past b outstanding
    cases stage : b.stage with
    | timer => simp only [outstanding, stage]
    | zone => rw [stage] at late; simp [Stage.rank] at late
    | close => rw [stage] at late; simp [Stage.rank] at late
    | holds due => rw [stage] at late; simp [Stage.rank] at late

theorem settleHolds_past (s : State) : (settleHolds s).past 3 := by
  unfold settleHolds
  have first := settleClose_past s
  cases outstanding : (settleClose s).boundary with
  | none => simp only [outstanding]; exact State.past_of_none outstanding 3
  | some b =>
    have late := first b outstanding
    have here := State.past_of_stage outstanding
    cases stage : b.stage with
    | zone => rw [stage] at late; simp [Stage.rank] at late
    | close => rw [stage] at late; simp [Stage.rank] at late
    | holds due => simp only [outstanding, stage]; exact reachTimer_past _ _
    | timer => rw [stage] at here; simp only [outstanding, stage]; exact here

theorem settle_boundary (s : State) : (settle s).boundary = none := by
  unfold settle
  have first := settleHolds_past s
  cases outstanding : (settleHolds s).boundary with
  | none => simp only [outstanding]
  | some b =>
    have late := first b outstanding
    cases stage : b.stage with
    | timer => simp only [outstanding, stage]; rfl
    | zone => rw [stage] at late; simp [Stage.rank] at late
    | close => rw [stage] at late; simp [Stage.rank] at late
    | holds due => rw [stage] at late; simp [Stage.rank] at late

theorem settle_settle (s : State) : settle (settle s) = settle s := settle_none (settle_boundary s)

theorem received_settle (p : Port) (s : State) : received p (settle s) = received p s := congrArg (setRx p .hunting) (settle_settle s)

theorem settle_congr {t : State} (same : settleHolds s = settleHolds t) : settle s = settle t := by
  unfold settle; rw [same]

theorem settleHolds_congr {t : State} (same : settleClose s = settleClose t) : settleHolds s = settleHolds t := by
  unfold settleHolds; rw [same]

theorem settleClose_congr {t : State} (same : settleZone s = settleZone t) : settleClose s = settleClose t := by
  unfold settleClose; rw [same]

theorem settle_settleZone (s : State) : settle (settleZone s) = settle s :=
  settle_congr (settleHolds_congr (settleClose_congr (settleZone_of_past (settleZone_past s))))

theorem settle_settleClose (s : State) : settle (settleClose s) = settle s :=
  settle_congr (settleHolds_congr (settleClose_of_past (settleClose_past s)))

/-! ### The expiry of a hold does not look at the stage -/

/-- The state with another boundary outstanding. -/
def State.atBoundary (b : Option Boundary) (s : State) : State := { s with boundary := b }

theorem raise_atBoundary (b : Option Boundary) (c : Cause) (subject : Word32) (d : Detail) (s : State) :
    raise c subject d (s.atBoundary b) = (raise c subject d s).atBoundary b := by
  unfold raise
  by_cases silent : (s.cause c).priority = 0
  · rw [if_pos silent, if_pos (show ((s.atBoundary b).cause c).priority = 0 from silent)]
  · rw [if_neg silent, if_neg (show ¬ ((s.atBoundary b).cause c).priority = 0 from silent)]; rfl

theorem takeIn_atBoundary (b : Option Boundary) (r : Record) (s : State) : takeIn r (s.atBoundary b) = (takeIn r s).atBoundary b := by
  refine Eq.trans ?_ (apply_ite (State.atBoundary b) (s.jnl.used + 1 = Config.journalHigh) _ _).symm
  rw [← raise_atBoundary]
  rfl

theorem offerMoney_atBoundary (b : Option Boundary) (r : Record) (s : State) :
    offerMoney r (s.atBoundary b) = ((offerMoney r s).1, (offerMoney r s).2.atBoundary b) := by
  refine Eq.trans ?_ (apply_ite (fun x : Option Word32 × State => (x.1, x.2.atBoundary b)) (1 ≤ s.jnl.freeSlots) _ _).symm
  dsimp only
  rw [← raise_atBoundary, ← takeIn_atBoundary]
  rfl

theorem nearTest_atBoundary (b : Option Boundary) (n : Nat) (s : State) : nearTest n (s.atBoundary b) = (nearTest n s).atBoundary b := by
  unfold nearTest
  cases folio : s.fst.folios.get n with
  | none => simp only [show (s.atBoundary b).fst.folios.get n = none from folio]
  | some f =>
    simp only [show (s.atBoundary b).fst.folios.get n = some f from folio]
    refine Eq.trans ?_ (apply_ite (State.atBoundary b) _ _ _).symm
    rw [← raise_atBoundary]
    rfl

theorem expireHold_atBoundary (b : Option Boundary) (folio number : Nat) (s : State) :
    expireHold folio number (s.atBoundary b) = (expireHold folio number s).atBoundary b := by
  unfold expireHold
  cases found : s.fst.folios.get folio with
  | none => simp only [show (s.atBoundary b).fst.folios.get folio = none from found]
  | some f =>
    simp only [show (s.atBoundary b).fst.folios.get folio = some f from found]
    cases held : f.hold number with
    | none => rfl
    | some h =>
      simp only [offerMoney_atBoundary]
      cases offered : offerMoney (expireRecord folio h) s with
      | mk record t =>
        cases record with
        | none => rfl
        | some n => exact nearTest_atBoundary b folio (putFolio folio (f.without number) t)

theorem expireHolds_atBoundary (b : Option Boundary) (due : List (Nat × Nat)) (s : State) :
    due.foldl (fun u d => expireHold d.1 d.2 u) (s.atBoundary b) = (due.foldl (fun u d => expireHold d.1 d.2 u) s).atBoundary b := by
  induction due generalizing s with
  | nil => rfl
  | cons d rest ih => rw [List.foldl_cons, List.foldl_cons, expireHold_atBoundary, ih]

theorem showCounts_atBoundary (b : Option Boundary) (before : Nat) (c : Counts) (g : Fin 4) (s : State) :
    showCounts before c g (s.atBoundary b) = (showCounts before c g s).atBoundary b := by
  unfold showCounts
  by_cases calls : s.pru.stations[g].callsFor before s.scl.voyage c = true
  · rw [if_pos calls, if_pos (show (s.atBoundary b).pru.stations[g].callsFor before (s.atBoundary b).scl.voyage c = true from calls)]; rfl
  · rw [if_neg calls, if_neg (show ¬ (s.atBoundary b).pru.stations[g].callsFor before (s.atBoundary b).scl.voyage c = true from calls)]

theorem showAll_atBoundary (b : Option Boundary) (before : Nat) (s : State) : showAll before (s.atBoundary b) = (showAll before s).atBoundary b := by
  unfold showAll
  simp only [show (s.atBoundary b).countsFrame = s.countsFrame from rfl, showCounts_atBoundary]

theorem reachTimer_atBoundary (b : Option Boundary) (before : Nat) (s : State) : reachTimer before (s.atBoundary b) = reachTimer before s := by
  have finish : finishBoundary before (s.atBoundary b) = finishBoundary before s := by
    show State.atBoundary none (showAll before (State.atBoundary b { s with pru := s.pru.arm })) = State.atBoundary none (showAll before { s with pru := s.pru.arm })
    rw [showAll_atBoundary]
    generalize showAll before { s with pru := s.pru.arm } = shown
    rfl
  unfold reachTimer
  rw [finish]
  rfl

/-! ### Each event of a boundary does a part of its work -/

theorem settleHolds_of_holds {before : Nat} {due : List (Nat × Nat)} (stage : s.boundary = some ⟨before, .holds due⟩) :
    settleHolds s = reachTimer before (due.foldl (fun u d => expireHold d.1 d.2 u) s) := by
  have past : s.past 2 := State.past_of_stage stage
  simp only [settleHolds, settleClose_of_past past, stage]

theorem settle_passHold {before : Nat} {due : List (Nat × Nat)} (stage : s.boundary = some ⟨before, .holds due⟩) :
    settle (passHold before due s) = settle s := by
  refine settle_congr ?_
  rw [settleHolds_of_holds stage]
  match due with
  | [] => exact settleHolds_of_past (reachTimer_past before s)
  | [d] => exact settleHolds_of_past (reachTimer_past before _)
  | d :: e :: rest =>
    have next : (passHold before (d :: e :: rest) s) = (expireHold d.1 d.2 s).atBoundary (some ⟨before, .holds (e :: rest)⟩) := rfl
    rw [next, settleHolds_of_holds rfl, expireHolds_atBoundary, reachTimer_atBoundary]
    rfl

theorem exec_holdExpiry {before : Nat} {due : List (Nat × Nat)} (stage : s.boundary = some ⟨before, .holds due⟩) :
    exec .holdExpiry s = .next (passHold before due s) := by
  have past : s.past 2 := State.past_of_stage stage
  show execHoldExpiry s = _
  simp only [execHoldExpiry, settleClose_of_past past, stage]

/-! ### A command comes after the work -/

theorem hostRequest_settle (code : Byte) (fields : List Field) (cross : Values → Option Nat) (own : Values → State → Answer × State) (tag : Byte) (body : List Byte)
    (s : State) : hostRequest code fields cross own tag body (settle s) = hostRequest code fields cross own tag body s := by
  unfold hostRequest
  rw [received_settle]

theorem exec_settle {c : Instr} (power : c ≠ .powerOn) (zone : c ≠ .zoneShiftTaken) (close : c ≠ .dayClose) (hold : c ≠ .holdExpiry) (s : State) :
    exec c s = exec c (settle s) := by
  cases asked : requestOf c with
  | some r =>
    obtain ⟨own, runs⟩ := exec_of_requestOf asked
    rw [runs, runs, hostRequest_settle]
  | none =>
    cases c with
    | powerOn => exact absurd rfl power
    | zoneShiftTaken => exact absurd rfl zone
    | dayClose => exact absurd rfl close
    | holdExpiry => exact absurd rfl hold
    | restart | discardedFrame | invalid | purgeCardsStep | shiftStep | purgePersonsStep | purgeFoliosStep | tick | allAboardExpiry | walkStep
    | charge | openTab | closeTab | void | malformed | chargeSettlement | openTabSettlement | closeTabSettlement | voidSettlement | quiet | card
    | entry | restarted | miss | cycleWait | entryReport | requestPulse | restartPulse | detach | attach | retryFetch | passages | fetchFailure
    | judgingAPassage | next | stop | loadItem | serviceWindowExpiry | stationLineFall | purgeEndsAborted | endOfTransmission | startByte =>
      simp only [exec, tillFrame, execRestart, execDiscardedFrame, execInvalid, execPurgeCardsStep, execShiftStep, execPurgePersonsStep, execPurgeFoliosStep,
        execTick, execAllAboardExpiry, execWalkStep, execCharge, execOpenTab, execCloseTab, execVoid, execMalformed, execChargeSettlement,
        execOpenTabSettlement, execCloseTabSettlement, execVoidSettlement, execQuiet, execCard, execEntry, execRestarted, execMiss, execCycleWait,
        execEntryReport, execRequestPulse, execRestartPulse, execDetach, execAttach, execRetryFetch, execPassages, execFetchFailure,
        execJudgingAPassage, execNext, execStop, execLoadItem, execServiceWindowExpiry, execStationLineFall, execPurgeEndsAborted,
        execEndOfTransmission, execStartByte, received_settle, settle_settle]
    | _ => cases asked

/-- Settles O17: by `exec_settle`, and each event of the boundary by `settle_settleZone`, `settle_settleClose` and `settle_passHold`. -/
theorem boundaryWorkComesFirst : Obligations.BoundaryWorkComesFirst := by
  refine fun s => ⟨settle_boundary s, fun c power zone close hold => exec_settle power zone close hold s, settle_none, fun b outstanding => ⟨fun _ => ?_, fun _ => ?_, fun due stage => ?_, fun _ => rfl⟩⟩
  · exact ⟨_, rfl, (settle_settleZone s).symm⟩
  · exact ⟨_, rfl, (settle_settleClose s).symm⟩
  · obtain ⟨before, last⟩ := b
    cases stage
    exact ⟨_, exec_holdExpiry outstanding, (settle_passHold outstanding).symm⟩

end Sys2Proof.Machine
end

section
/-! O18: a tick, the stages it brings a boundary to, and the displays. -/
namespace Sys2Proof.Machine
variable {s : State}

/-! ### The displays (R165) -/

theorem pru_station_putStation (g h : Fin 4) (q : Station) (s : State) :
    (putStation g q s).pru.stations[h] = if g = h then q else s.pru.stations[h] := by
  simp only [putStation_pru, Fin.getElem_fin, Vector.getElem_set, Fin.ext_iff]

/-- A station's display after a boundary: one frame more, and shown, when it calls for one. -/
def shownAt (before : Nat) (c : Counts) (g : Fin 4) (u t : State) : Prop :=
  if u.pru.stations[g].callsFor before u.scl.voyage c
    then t.pru.stations[g] = { u.pru.stations[g] with lastShown := some c } ∧ t.txOf (.station g) = u.txOf (.station g) ++ [.counts c]
    else t.pru.stations[g] = u.pru.stations[g] ∧ t.txOf (.station g) = u.txOf (.station g)

theorem showCounts_other {before : Nat} {c : Counts} {g h : Fin 4} (other : h ≠ g) (s : State) :
    (showCounts before c h s).pru.stations[g] = s.pru.stations[g] ∧ (showCounts before c h s).txOf (.station g) = s.txOf (.station g) := by
  unfold showCounts
  split
  · rw [pru_station_putStation, if_neg other]
    exact ⟨rfl, (txOf_formed ..).trans (if_neg fun same => other (Port.station.inj same))⟩
  · exact ⟨rfl, rfl⟩

theorem shownAt_showCounts {before : Nat} {c : Counts} {g : Fin 4} {u : State} (station : u.pru.stations[g] = s.pru.stations[g])
    (queue : u.txOf (.station g) = s.txOf (.station g)) (clock : u.scl = s.scl) : shownAt before c g s (showCounts before c g u) := by
  unfold shownAt showCounts
  rw [station, clock]
  split
  · exact ⟨(pru_station_putStation ..).trans (if_pos rfl), ((txOf_formed ..).trans (if_pos rfl)).trans (congrArg (· ++ _) queue)⟩
  · exact ⟨station, queue⟩

theorem shownAt_after {before : Nat} {c : Counts} {g h : Fin 4} {u : State} (other : h ≠ g) (shown : shownAt before c g s u) :
    shownAt before c g s (showCounts before c h u) := by
  unfold shownAt at shown ⊢
  rw [(showCounts_other other u).1, (showCounts_other other u).2]
  exact shown

theorem displayed_showAll (before : Nat) (s : State) : displayed before s (showAll before s) := by
  intro g
  let c := s.countsFrame
  have scl := showCounts_scl before c
  have untouched {h : Fin 4} (other : h ≠ g) := showCounts_other (before := before) (c := c) other
  show shownAt before c g s (showAll before s)
  unfold showAll
  match g with
  | 0 => exact shownAt_after (by decide) (shownAt_after (by decide) (shownAt_after (by decide) (shownAt_showCounts rfl rfl rfl)))
  | 1 =>
    have first := untouched (h := 0) (by decide) s
    exact shownAt_after (by decide) (shownAt_after (by decide) (shownAt_showCounts first.1 first.2 (scl 0 s)))
  | 2 =>
    have first := untouched (h := 0) (by decide) s
    have second := untouched (h := 1) (by decide) (showCounts before c 0 s)
    exact shownAt_after (by decide) (shownAt_showCounts (second.1.trans first.1) (second.2.trans first.2) ((scl 1 _).trans (scl 0 s)))
  | 3 =>
    have first := untouched (h := 0) (by decide) s
    have second := untouched (h := 1) (by decide) (showCounts before c 0 s)
    have third := untouched (h := 2) (by decide) (showCounts before c 1 (showCounts before c 0 s))
    exact shownAt_showCounts (third.1.trans (second.1.trans first.1)) (third.2.trans (second.2.trans first.2))
      ((scl 2 _).trans ((scl 1 _).trans (scl 0 s)))

/-! ### What the stages of a boundary leave -/

theorem boundaryFrame.refl (s : State) : boundaryFrame s s := ⟨rfl, rfl, rfl, rfl, rfl, rfl, rfl, rfl, fun _ _ => rfl, rfl, rfl, rfl⟩

theorem boundaryFrame.trans {t u : State} (first : boundaryFrame s t) (second : boundaryFrame t u) : boundaryFrame s u := by
  obtain ⟨slc, crg, persons, cau, lscs, counts, missing, rx, tx, free, lines, pending⟩ := first
  obtain ⟨slc', crg', persons', cau', lscs', counts', missing', rx', tx', free', lines', pending'⟩ := second
  exact ⟨slc'.trans slc, crg'.trans crg, persons'.trans persons, cau'.trans cau, lscs'.trans lscs, counts'.trans counts, missing'.trans missing, rx'.trans rx,
    fun p other => (tx' p other).trans (tx p other), free'.trans free, lines'.trans lines, pending'.trans pending⟩

theorem showCounts_frame (before : Nat) (c : Counts) (g : Fin 4) (s : State) : boundaryFrame s (showCounts before c g s) := by
  unfold showCounts
  split
  · exact ⟨rfl, rfl, rfl, rfl, rfl, rfl, rfl, rfl, fun p other => (txOf_formed ..).trans (if_neg (other g).symm), rfl, rfl, rfl⟩
  · exact boundaryFrame.refl s

theorem showAll_frame (before : Nat) (s : State) : boundaryFrame s (showAll before s) :=
  (showCounts_frame _ _ 0 s).trans ((showCounts_frame _ _ 1 _).trans ((showCounts_frame _ _ 2 _).trans (showCounts_frame _ _ 3 _)))

theorem Pru.afterArm_eq (r : Pru) : r.arm = { r with timer := r.arm.timer } := by
  unfold Pru.arm; split <;> rfl

theorem showCounts_pru (before : Nat) (c : Counts) (g : Fin 4) (s : State) :
    (showCounts before c g s).pru = { s.pru with stations := (showCounts before c g s).pru.stations } := by
  unfold showCounts; split <;> rfl

theorem showAll_pru (before : Nat) (s : State) : (showAll before s).pru = { s.pru with stations := (showAll before s).pru.stations } := by
  unfold showAll
  dsimp only
  rw [showCounts_pru, showCounts_pru, showCounts_pru, showCounts_pru]

theorem finishBoundary_eq (before : Nat) (s : State) : finishBoundary before s = (showAll before { s with pru := s.pru.arm }).atBoundary none := rfl

theorem State.atBoundary_pru (b : Option Boundary) (s : State) : (s.atBoundary b).pru = s.pru := rfl

theorem displayed_atBoundary {before : Nat} {u t : State} (b : Option Boundary) (shown : displayed before u t) : displayed before u (t.atBoundary b) := shown

theorem finishBoundary_timer (before : Nat) (s : State) : (finishBoundary before s).pru.timer = s.pru.arm.timer := by
  rw [finishBoundary_eq, State.atBoundary_pru, showAll_pru]

theorem finishBoundary_newlyMarked (before : Nat) (s : State) : (finishBoundary before s).pru.newlyMarked = s.pru.newlyMarked := by
  rw [finishBoundary_eq, State.atBoundary_pru, showAll_pru, Pru.afterArm_eq]

theorem armed_frame (s : State) : boundaryFrame s { s with pru := s.pru.arm } := by
  rw [Pru.afterArm_eq]
  exact ⟨rfl, rfl, rfl, rfl, rfl, rfl, rfl, rfl, fun _ _ => rfl, rfl, rfl, rfl⟩

theorem stage_frame (b : Option Boundary) (s : State) : boundaryFrame s { s with boundary := b } :=
  ⟨rfl, rfl, rfl, rfl, rfl, rfl, rfl, rfl, fun _ _ => rfl, rfl, rfl, rfl⟩

theorem finishBoundary_frame (before : Nat) (s : State) : boundaryFrame s (finishBoundary before s) :=
  (armed_frame s).trans ((showAll_frame before _).trans (stage_frame none _))

theorem reachTimer_frame (before : Nat) (s : State) : boundaryFrame s (reachTimer before s) := by
  unfold reachTimer
  split
  · exact stage_frame _ s
  · exact finishBoundary_frame before s

theorem reachHolds_frame (before : Nat) (due : List (Nat × Nat)) (s : State) : boundaryFrame s (reachHolds before due s) := by
  cases due with
  | nil => exact reachTimer_frame before s
  | cons d rest => exact stage_frame _ s

theorem reachClose_frame (before : Nat) (s : State) : boundaryFrame s (reachClose before s) := by
  unfold reachClose
  split
  · exact stage_frame _ s
  · exact reachHolds_frame before _ s

theorem reachZone_frame (before : Nat) (s : State) : boundaryFrame s (reachZone before s) := by
  unfold reachZone
  split
  · exact stage_frame _ s
  · exact reachClose_frame before s

/-! ### The stages one after another -/

theorem displayed_finishBoundary (before : Nat) (s : State) :
    displayed before { s with pru := { s.pru with timer := (finishBoundary before s).pru.timer } } (finishBoundary before s) := by
  rw [finishBoundary_timer, ← Pru.afterArm_eq]
  rw [finishBoundary_eq]
  exact displayed_atBoundary none (displayed_showAll before _)

theorem reachesTimer_reachTimer (before : Nat) (s : State) : reachesTimer before s (reachTimer before s) := by
  unfold reachTimer
  refine ⟨fun due => ?_, fun early => ?_⟩
  · rw [if_pos due]
    exact ⟨rfl, rfl, rfl⟩
  · rw [if_neg (Bool.not_eq_true _ ▸ early)]
    refine ⟨rfl, fun d armed => ?_, fun unarmed => ?_, finishBoundary_newlyMarked before s, displayed_finishBoundary before s⟩
    · rw [finishBoundary_timer]
      simp only [Pru.arm, armed]
    · rw [finishBoundary_timer]
      unfold Pru.arm
      split
      next d armed => exact absurd armed (unarmed d)
      next => rfl

theorem reachHolds_of_due {before : Nat} {due : List (Nat × Nat)} (waits : due ≠ []) (s : State) :
    reachHolds before due s = { s with boundary := some { before := before, stage := .holds due } } := by
  cases due with
  | nil => exact absurd rfl waits
  | cons d rest => rfl

theorem reachesHolds_reachHolds (before : Nat) (s : State) : reachesHolds before s (reachHolds before s.dueHolds s) := by
  refine ⟨fun waits => ?_, fun none => ?_⟩
  · rw [reachHolds_of_due waits]
    exact ⟨rfl, rfl, rfl⟩
  · rw [none]
    exact reachesTimer_reachTimer before s

theorem reachesClose_reachClose (before : Nat) (s : State) : reachesClose before s (reachClose before s) := by
  unfold reachClose
  refine ⟨fun due => ?_, fun early => ?_⟩
  · rw [if_pos due]
    exact ⟨rfl, rfl, rfl⟩
  · rw [if_neg (Bool.not_eq_true _ ▸ early)]
    exact reachesHolds_reachHolds before s

/-! ### What a stage reads of the state -/

/-- Two states agree in what the stages of a boundary read. -/
def sameForStages (u v : State) : Prop :=
  u.scl = v.scl ∧ u.slc = v.slc ∧ u.fst = v.fst ∧ u.pru = v.pru ∧ u.ports = v.ports ∧ u.free = v.free

theorem countsFrame_congr {u v : State} (scl : u.scl = v.scl) (pru : u.pru = v.pru) (free : u.free = v.free) : u.countsFrame = v.countsFrame := by
  simp only [State.countsFrame, State.minutesLeft, State.freeValue, scl, pru, free]

theorem displayed_congr {before : Nat} {u v t : State} (scl : u.scl = v.scl) (pru : u.pru = v.pru) (ports : u.ports = v.ports) (free : u.free = v.free)
    (shown : displayed before u t) : displayed before v t := by
  simp only [displayed, State.txOf, countsFrame_congr scl pru free, scl, pru, ports] at shown
  exact shown

theorem reachesTimer_congr {before : Nat} {u v t : State} (same : sameForStages u v) (reaches : reachesTimer before u t) : reachesTimer before v t := by
  obtain ⟨scl, -, -, pru, ports, free⟩ := same
  unfold reachesTimer at reaches ⊢
  rw [scl, pru, ports] at reaches
  obtain ⟨expires, ends⟩ := reaches
  refine ⟨expires, fun early => ?_⟩
  obtain ⟨settled, armed, unarmed, marked, shown⟩ := ends early
  exact ⟨settled, armed, unarmed, marked, displayed_congr (u := { u with scl := v.scl, pru := { v.pru with timer := t.pru.timer }, ports := v.ports }) rfl rfl rfl free shown⟩

theorem dueHolds_congr {u v : State} (scl : u.scl = v.scl) (fst : u.fst = v.fst) : u.dueHolds = v.dueHolds := by
  simp only [State.dueHolds, scl, fst]

theorem reachesHolds_congr {before : Nat} {u v t : State} (same : sameForStages u v) (reaches : reachesHolds before u t) : reachesHolds before v t := by
  obtain ⟨waits, none⟩ := reaches
  have due : u.dueHolds = v.dueHolds := dueHolds_congr same.1 same.2.2.1
  have later := reachesTimer_congr (before := before) (t := t) same
  obtain ⟨-, -, -, pru, ports, -⟩ := same
  rw [due, pru, ports] at waits
  rw [due] at none
  exact ⟨waits, fun empty => later (none empty)⟩

theorem closeDue_congr {u v : State} (scl : u.scl = v.scl) (slc : u.slc = v.slc) : u.closeDue = v.closeDue := by
  simp only [State.closeDue, scl, slc]

theorem reachesClose_congr {before : Nat} {u v t : State} (same : sameForStages u v) (reaches : reachesClose before u t) : reachesClose before v t := by
  obtain ⟨waits, notDue⟩ := reaches
  have due : u.closeDue = v.closeDue := closeDue_congr same.1 same.2.1
  have later := reachesHolds_congr (before := before) (t := t) same
  obtain ⟨-, -, -, pru, ports, -⟩ := same
  rw [due, pru, ports] at waits
  rw [due] at notDue
  exact ⟨waits, fun early => later (notDue early)⟩

/-! ### A second boundary (R26, R27) -/

theorem passes_iff {before after step : Nat} (positive : 0 < step) : passes before after step = true ↔ ∃ k, before < step * k ∧ step * k ≤ after := by
  rw [passes, decide_eq_true_iff]
  refine ⟨fun rises => ⟨before / step + 1, Nat.lt_mul_div_succ before positive, ?_⟩, fun ⟨k, above, within⟩ => ?_⟩
  · exact (Nat.mul_le_mul_left step rises).trans (Nat.mul_div_le after step)
  · exact lt_of_lt_of_le (Nat.div_lt_of_lt_mul above) ((Nat.le_div_iff_mul_le positive).2 (Nat.mul_comm k step ▸ within))

theorem Chu.minute_venue (c : Chu) (n : Fin 64) : c.minute.venues[n] =
    if c.venues[n].stagedPending then { c.venues[n] with live := c.venues[n].staged, stagedPending := false } else c.venues[n] := mapVec_getElem ..

/-- The state at a second boundary before its stages: voyage time has come to a value, and the minute's settings are live. -/
def State.atSecond (before after : Nat) (s : State) : State :=
  let u := { s with scl := { s.scl with voyage := after } }
  if passes before after 60 then { u with chu := u.chu.minute } else u

theorem State.atSecond_eq (before after : Nat) (s : State) : s.atSecond before after =
    { s with scl := { s.scl with voyage := after }, chu := if passes before after 60 then s.chu.minute else s.chu } := by
  unfold State.atSecond
  split <;> rfl

theorem deliverBoundary_eq (before after : Nat) (s : State) : deliverBoundary before after s = reachZone before (s.atSecond before after) := rfl

theorem boundaryDelivered_deliverBoundary (before after : Nat) (s : State) : boundaryDelivered before after s (deliverBoundary before after s) := by
  unfold boundaryDelivered
  intro u minute
  have same : sameForStages (s.atSecond before after) u := by rw [State.atSecond_eq]; exact ⟨rfl, rfl, rfl, rfl, rfl, rfl⟩
  have chu : (s.atSecond before after).chu = if passes before after 60 then s.chu.minute else s.chu := by rw [State.atSecond_eq]
  have zone : (s.atSecond before after).zoneDue = u.zoneDue := by simp only [State.zoneDue, same.1]
  have frame : boundaryFrame s (s.atSecond before after) := by
    rw [State.atSecond_eq]
    exact ⟨rfl, rfl, rfl, rfl, rfl, rfl, rfl, rfl, fun _ _ => rfl, rfl, rfl, rfl⟩
  have minuteIff : passes before after 60 = true ↔ minute := passes_iff (by decide)
  rw [deliverBoundary_eq]
  refine ⟨(reachZone_scl ..).trans same.1, fun none => ?_, fun minutes => ?_, frame.trans (reachZone_frame before _), ?_, ?_, ?_, fun due => ?_, fun early => ?_⟩
  · rw [reachZone_chu, chu, if_neg (mt minuteIff.1 none)]
  · rw [reachZone_chu, chu, if_pos (minuteIff.2 minutes)]
    exact ⟨rfl, rfl, rfl, rfl, rfl, s.chu.minute_venue⟩
  · rw [reachZone_atu, State.atSecond_eq]
  · rw [reachZone_fst, State.atSecond_eq]
  · rw [reachZone_jnl, State.atSecond_eq]
  · rw [reachZone, if_pos (zone.trans due), State.atSecond_eq]
    exact ⟨rfl, rfl, rfl⟩
  · rw [reachZone, zone, early, if_neg Bool.false_ne_true]
    exact reachesClose_congr same (reachesClose_reachClose before _)

/-- Settles O18: by the three branches of `execTick`, a boundary by `boundaryDelivered_deliverBoundary`. -/
theorem tickCountsOrIsHeld : Obligations.TickCountsOrIsHeld := by
  intro s settled
  have run : exec .tick s = execTick s := rfl
  simp only [execTick, settle_none settled] at run
  refine ⟨fun holds => run.trans ?_, fun noHold late => run.trans ?_, fun noHold early => ⟨_, run.trans ?_, boundaryDelivered_deliverBoundary _ _ s⟩⟩
  · rw [if_pos holds]
  · rw [if_neg (by omega), if_neg (Nat.not_lt.2 late)]
  · rw [if_neg (by omega), if_pos early]

end Sys2Proof.Machine
end

section
/-! O19 and O20: the tests of a boundary, and the clock requests. -/
namespace Sys2Proof.Machine
variable {s : State}

/-! ### What is due (R33, R35, R75) -/

theorem zoneDue_iff (s : State) : s.zoneDue = true ↔ ∃ p, s.scl.shift = some p ∧ p.effective ≤ s.scl.voyage := by
  unfold State.zoneDue
  cases s.scl.shift <;> simp

theorem closeDue_iff (s : State) : s.closeDue = true ↔ s.slc.service = .serving ∧ (∃ p, s.scl.closePoint = some p ∧ p ≤ s.scl.voyage + 60 * s.scl.offset)
    ∧ ∀ l, s.scl.lastClose = some l → l.voyage + 72000 ≤ s.scl.voyage := by
  simp only [State.closeDue, Bool.and_eq_true, decide_eq_true_eq, and_assoc]
  refine and_congr_right fun _ => and_congr ?_ ?_
  · cases s.scl.closePoint with
    | none => exact ⟨nofun, fun ⟨_, h, _⟩ => nomatch h⟩
    | some p => exact ⟨fun h => ⟨p, rfl, decide_eq_true_iff.1 h⟩, fun ⟨_, same, h⟩ => by cases same; exact decide_eq_true_iff.2 h⟩
  · unfold Scl.guardPast
    cases s.scl.lastClose <;> simp [Config.closeGuard]

theorem mem_dueHolds_iff (s : State) (folio number : Nat) : (folio, number) ∈ s.dueHolds ↔ ∃ f h, (folio, f) ∈ s.fst.folios ∧ h ∈ f.holds ∧ h.number = number
    ∧ (h.fallenDue = true ∨ h.openedAt + 3600 * s.fst.lifetime ≤ s.scl.voyage) := by
  simp only [State.dueHolds, List.mem_flatMap, List.mem_map, List.mem_filter, Hold.dueAt, Bool.or_eq_true, decide_eq_true_eq, Prod.exists, Prod.mk.injEq]
  constructor
  · rintro ⟨n, f, entry, h, ⟨held, due⟩, rfl, named⟩
    exact ⟨f, h, entry, held, named, due⟩
  · rintro ⟨f, h, entry, held, named, due⟩
    exact ⟨folio, f, entry, h, ⟨held, due⟩, rfl, named⟩

theorem callsFor_iff (t : Station) (before after : Nat) (c : Counts) : t.callsFor before after c = true ↔ t.attached ≠ .detached
    ∧ ((t.frequency = .every30 ∧ ∃ k, before < 30 * k ∧ 30 * k ≤ after) ∨ (t.frequency = .onChange ∧ t.lastShown ≠ some c)) := by
  simp only [Station.callsFor, Bool.and_eq_true, bne_iff_ne]
  refine and_congr_right fun _ => ?_
  cases t.frequency <;> simp [passes_iff]

theorem minutesLeft_of_idle (idle : ∀ d, s.pru.timer ≠ .running d) : s.minutesLeft = none := by
  unfold State.minutesLeft
  split
  next d running => exact absurd running (idle d)
  next => rfl

/-- The hour and minute of a COUNTS frame are those of local time (R25, R165). -/
theorem countsFrame_clock (s : State) : (s.countsFrame.hour * 3600 + s.countsFrame.minute * 60 : Int) ≤ (s.scl.voyage + 60 * s.scl.offset) % 86400
    ∧ (s.scl.voyage + 60 * s.scl.offset) % 86400 < (s.countsFrame.hour * 3600 + s.countsFrame.minute * 60 + 60 : Int) ∧ s.countsFrame.minute < 60 := by
  have hour : s.countsFrame.hour = timeOfDay s.scl.localTime / 3600 := rfl
  have minute : s.countsFrame.minute = timeOfDay s.scl.localTime / 60 % 60 := rfl
  have day : (timeOfDay s.scl.localTime : Int) = (s.scl.voyage + 60 * s.scl.offset) % 86400 :=
    Int.toNat_of_nonneg (Int.emod_nonneg _ (by decide))
  rw [← day, hour, minute]
  omega

/-- Settles O19: test by test. -/
theorem boundaryTestsFollowTheirRules : Obligations.BoundaryTestsFollowTheirRules := by
  intro s
  obtain ⟨reached, within, minute⟩ := countsFrame_clock s
  exact ⟨zoneDue_iff s, closeDue_iff s, mem_dueHolds_iff s, fun d now => decide_eq_true_iff, fun d now => decide_eq_true_iff, callsFor_iff, rfl, rfl, rfl, rfl,
    reached, within, minute, minutesLeft_of_idle, fun d => minutesLeft_of_running⟩

/-! ### The clock requests (R28-R34, R38) -/

section
variable {v : Values}

theorem setTime_of_serving (serving : s.slc.service = .serving) : setTime v s = refuse .notNow s := if_pos serving

theorem setTime_of_loading (loading : s.slc.service = .loading) : setTime v s = ({ status := .done },
    { s with scl := { s.scl with voyage := v.nat 1, offset := v.int 2, trimHold := 0, shift := none, lastClose := none } }) :=
  if_neg (loading ▸ nofun)

theorem setDayCloseHour_of_serving (serving : s.slc.service = .serving) : setDayCloseHour v s = refuse .notNow s := if_pos serving

theorem setDayCloseHour_of_loading (loading : s.slc.service = .loading) :
    setDayCloseHour v s = ({ status := .done }, { s with scl := { s.scl with closeHour := v.nat 1 } }) := if_neg (loading ▸ nofun)

theorem cancelZoneShift_of_none (none : s.scl.shift = none) : cancelZoneShift v s = refuse .notFound s := by
  rw [cancelZoneShift, none]; rfl

theorem cancelZoneShift_of_some (pending : s.scl.shift ≠ none) :
    cancelZoneShift v s = ({ status := .done }, { s with scl := { s.scl with shift := none } }) := if_pos (Option.isSome_iff_ne_none.2 pending)

theorem trim_of_hold (forward : 0 ≤ v.int 1) (within : v.int 1 ≤ s.scl.trimHold) :
    trim v s = trimDone { s with scl := { s.scl with trimHold := s.scl.trimHold - (v.int 1).toNat } } := by
  unfold trim
  by_cases positive : v.int 1 > 0
  · rw [if_pos positive, trimForward, if_pos (by omega)]
  · have zero : v.int 1 = 0 := by omega
    rw [if_neg positive, if_neg (by omega), zero]
    rfl

theorem trim_back (back : v.int 1 < 0) (within : s.scl.trimHold + -v.int 1 ≤ 60) :
    trim v s = trimDone { s with scl := { s.scl with trimHold := s.scl.trimHold + (-v.int 1).toNat } } := by
  rw [trim, if_neg (by omega), if_pos back, trimBack, if_neg (by omega)]

theorem trim_back_range (back : v.int 1 < 0) (beyond : 60 < s.scl.trimHold + -v.int 1) : trim v s = refuse .range s := by
  rw [trim, if_neg (by omega), if_pos back, trimBack, if_pos (by omega)]

theorem trim_forward_range (forward : s.scl.trimHold < v.int 1) (beyond : 4294967295 < s.scl.voyage + (v.int 1 - s.scl.trimHold)) :
    trim v s = refuse .range s := by
  have late : s.scl.voyage + ((v.int 1).toNat - s.scl.trimHold) > Config.maxVoyage := by simp only [Config.maxVoyage]; omega
  rw [trim, if_pos (by omega), trimForward, if_neg (by omega)]
  exact if_pos late

theorem trim_forward (forward : s.scl.trimHold < v.int 1) (within : s.scl.voyage + (v.int 1 - s.scl.trimHold) ≤ 4294967295) :
    trim v s = trimDone (deliverBoundary s.scl.voyage (s.scl.voyage + ((v.int 1).toNat - s.scl.trimHold)) { s with scl := { s.scl with trimHold := 0 } }) := by
  have early : ¬ s.scl.voyage + ((v.int 1).toNat - s.scl.trimHold) > Config.maxVoyage := by simp only [Config.maxVoyage]; omega
  rw [trim, if_pos (by omega), trimForward, if_neg (by omega)]
  exact if_neg early

theorem trimDone_deliverBoundary (before after : Nat) (s : State) :
    trimDone (deliverBoundary before after s) = ({ status := .done, payload := .trimmed after s.scl.trimHold }, deliverBoundary before after s) := by
  rw [trimDone, (boundaryDelivered_deliverBoundary before after s).1]
end

/-- Settles O20: each request by its owner's equation, a TRIM forward by `boundaryDelivered_deliverBoundary`. -/
theorem clockRequestsAndTrimsSetTheClock : Obligations.ClockRequestsAndTrimsSetTheClock := by
  refine ⟨fun s tag body v ready => ?clock, fun s tag body v ready decoded => ?trim⟩
  case clock =>
    exact ⟨fun decoded => ⟨fun serving => request_answered ready decoded (setTime_of_serving serving),
        fun loading => request_answered ready decoded (setTime_of_loading (s := heard .service s) loading)⟩,
      fun decoded => request_answered ready decoded rfl,
      fun none => request_answered ready rfl (cancelZoneShift_of_none none),
      fun pending => request_answered ready rfl (cancelZoneShift_of_some (s := heard .service s) pending),
      fun decoded => ⟨fun serving => request_answered ready decoded (setDayCloseHour_of_serving serving),
        fun loading => request_answered ready decoded (setDayCloseHour_of_loading (s := heard .service s) loading)⟩⟩
  case trim =>
    intro k t
    refine ⟨fun forward within => request_answered ready decoded (trim_of_hold (s := t) forward within),
      fun back within => request_answered ready decoded (trim_back (s := t) back within),
      fun back beyond => request_answered ready decoded (trim_back_range (s := t) back beyond),
      fun forward beyond => request_answered ready decoded (trim_forward_range (s := t) forward beyond), fun forward within => ?_⟩
    let held : State := { t with scl := { s.scl with trimHold := 0 } }
    have delivered := boundaryDelivered_deliverBoundary s.scl.voyage (s.scl.voyage + (k.toNat - s.scl.trimHold)) held
    exact ⟨_, request_answered ready decoded ((trim_forward (s := t) forward within).trans (trimDone_deliverBoundary ..)), delivered⟩

end Sys2Proof.Machine
end

section
/-! O24: offers to the journal (R171-R175). -/
namespace Sys2Proof.Machine
variable {s : State}

/-- What a record taken in raises: JOURNAL HIGH at the crossing of 12,288 used slots (R175). -/
theorem takeIn_atu (r : Record) (s : State) : (takeIn r s).atu = if s.jnl.used = 12287 then (raise .journalHigh 12288 {} s).atu else s.atu := by
  unfold takeIn
  simp only [Config.journalHigh, Nat.reduceEqDiff, apply_ite State.atu]
  exact if_congr Iff.rfl (raise_atu_congr (s := { s with jnl := s.jnl.push r s.scl.voyage }) (t := s) rfl rfl _ _ _) rfl

theorem takeIn_at_12287 (high : s.jnl.used = 12287) (r : Record) : (takeIn r s).atu = (raise .journalHigh 12288 {} s).atu :=
  (takeIn_atu r s).trans (if_pos high)

theorem takeIn_not_12287 (low : s.jnl.used ≠ 12287) (r : Record) : (takeIn r s).atu = s.atu := (takeIn_atu r s).trans (if_neg low)

theorem Jnl.dropped_eq (j : Jnl) : j.dropped = if 65535 ≤ j.drops then { j with overflow := true } else { j with drops := j.drops + 1 } := rfl

/-- The GAP record of a journal that counts drops (R174). -/
def Jnl.gapRecord (j : Jnl) : Record := { kind := .gap, flags := { saturated := j.overflow }, a := j.drops }

/-- The journal once the GAP record of its drops is written (R174). -/
def Jnl.gapped (j : Jnl) (now : Nat) : Jnl := { j.push j.gapRecord now with drops := 0, overflow := false }

theorem Jnl.gapped_used {j : Jnl} (room : j.used < 16384) (now : Nat) : (j.gapped now).used = j.used + 1 := push_used room j.gapRecord now

theorem offerGap_admitted (drops : 0 < s.jnl.drops) (room : s.jnl.used < 15360) :
    offerGap s = { s with jnl := s.jnl.gapped s.scl.voyage, atu := (takeIn s.jnl.gapRecord s).atu } := by
  have free : Config.moneyReserve < s.jnl.freeSlots := by rw [freeSlots_eq]; simp; omega
  unfold offerGap
  rw [if_pos ⟨drops, free⟩]
  dsimp only
  rw [show (takeIn { kind := .gap, flags := { saturated := s.jnl.overflow }, a := s.jnl.drops } s) = _ from takeIn_eq s.jnl.gapRecord s]
  rfl

theorem offerEvent_gapped (drops : 0 < s.jnl.drops) (room : s.jnl.used < 15359) (r : Record) :
    offerEvent r s = takeIn r { s with jnl := s.jnl.gapped s.scl.voyage, atu := (takeIn s.jnl.gapRecord s).atu } := by
  have used : (s.jnl.gapped s.scl.voyage).used = s.jnl.used + 1 := Jnl.gapped_used (by omega) _
  have free : Config.moneyReserve < (s.jnl.gapped s.scl.voyage).freeSlots := by rw [freeSlots_eq, used]; simp; omega
  unfold offerEvent
  rw [offerGap_admitted drops (by omega)]
  exact if_pos free

theorem offerEvent_gapped_at_15359 (drops : 0 < s.jnl.drops) (last : s.jnl.used = 15359) (r : Record) :
    offerEvent r s = { s with jnl := (s.jnl.gapped s.scl.voyage).dropped, atu := (takeIn s.jnl.gapRecord s).atu } := by
  have used : (s.jnl.gapped s.scl.voyage).used = s.jnl.used + 1 := Jnl.gapped_used (by omega) _
  have free : ¬ Config.moneyReserve < (s.jnl.gapped s.scl.voyage).freeSlots := by rw [freeSlots_eq, used]; simp; omega
  unfold offerEvent
  rw [offerGap_admitted drops (by omega)]
  exact if_neg free

/-- JOURNAL HIGH for the GAP record and the record after it: at the crossing by either (R175). -/
theorem takeIn_gapped_atu (room : s.jnl.used < 15359) (r : Record) :
    (takeIn r { s with jnl := s.jnl.gapped s.scl.voyage, atu := (takeIn s.jnl.gapRecord s).atu }).atu =
      if s.jnl.used = 12286 ∨ s.jnl.used = 12287 then (raise .journalHigh 12288 {} s).atu else s.atu := by
  have used : (s.jnl.gapped s.scl.voyage).used = s.jnl.used + 1 := Jnl.gapped_used (by omega) _
  by_cases second : s.jnl.used = 12286
  · rw [takeIn_at_12287 (used.trans (by omega)), takeIn_not_12287 (by omega), if_pos (.inl second)]
    exact raise_atu_congr (s := { s with jnl := s.jnl.gapped s.scl.voyage }) (t := s) rfl rfl _ _ _
  · rw [takeIn_not_12287 (fun here => by rw [used] at here; omega)]
    dsimp only
    rw [takeIn_atu]
    exact if_congr ⟨.inr, fun either => either.resolve_left second⟩ rfl rfl

theorem Jnl.recordAt_push_same (j : Jnl) (r : Record) (now : Nat) : (j.push r now).recordAt j.next = some { r with sequence := j.next, voyage := now } :=
  Table.get_set_same ..

theorem Jnl.recordAt_push_other {j : Jnl} {q : Word32} (other : q.toNat % 16384 ≠ j.next.toNat % 16384) (r : Record) (now : Nat) :
    (j.push r now).recordAt q = j.recordAt q := Table.get_set_other _ _ _ _ other

/-- Settles O24: admissions by `takeIn_eq` and `takeIn_atu`, the GAP by `offerEvent_gapped`. -/
theorem offersAreJudgedByTheFreeCount : Obligations.OffersAreJudgedByTheFreeCount := by
  intro s r
  refine ⟨fun room => ⟨takeIn r s, offerMoney_admitted ((one_le_freeSlots_iff _).2 room) r, takeIn_eq r s, fun low => takeIn_not_12287 low r, fun high => takeIn_at_12287 high r⟩,
    fun full => offerMoney_refused (fun free => by rw [one_le_freeSlots_iff] at free; omega) r,
    fun noDrops room => ⟨_, (offerEvent_admitted noDrops room r).trans (takeIn_eq r s), takeIn_atu r s⟩, fun full => ?dropped, fun drops room => ?gap,
    fun now => ⟨rfl, rfl, rfl, rfl, s.jnl.recordAt_push_same r now, fun q other => Jnl.recordAt_push_other other r now⟩⟩
  case dropped =>
    rw [offerEvent_dropped full, Jnl.dropped_eq]
  case gap =>
    intro g gap
    by_cases last : s.jnl.used = 15359
    · refine ⟨(takeIn s.jnl.gapRecord s).atu, (offerEvent_gapped_at_15359 drops last r).trans ?_, ?_⟩
      · rw [if_pos last]; rfl
      · rw [takeIn_not_12287 (by omega), if_neg (by omega)]
    · refine ⟨_, (offerEvent_gapped drops (by omega) r).trans ((takeIn_eq r _).trans ?_), takeIn_gapped_atu (by omega) r⟩
      rw [if_neg last]; rfl

end Sys2Proof.Machine
end

section
/-! O25 and O26: a change of presence, a sighting, and the marks of a folio. -/
namespace Sys2Proof.Machine
variable {s : State}

/-! ### What a change of presence raises (R156, R163) -/

theorem clearMark_atu (s : State) : (clearMark s).atu = if s.pru.missingCount = 1 then (raise .allAboardComplete 0 {} s).atu else s.atu := by
  unfold clearMark
  dsimp only
  split
  · exact raise_atu_congr (s := { s with pru := { s.pru with missingCount := s.pru.missingCount - 1 } }) (t := s) rfl rfl _ _ _
  · rfl

theorem depart_atu (n folio : Nat) (s : State) :
    (depart n folio s).atu = if s.hasHold n folio then (raise .openTabAtDeparture (subj n) (detail folio) s).atu else s.atu := by
  unfold depart
  dsimp only
  rw [apply_ite State.atu]
  exact if_congr Iff.rfl (raise_atu_congr (s := departCards n s) (t := s) rfl rfl _ _ _) rfl

theorem hasHold_iff (s : State) (person folio : Nat) : s.hasHold person folio = true ↔ ∃ f, s.fst.folios.get folio = some f ∧ ∃ h ∈ f.holds, h.person = person := by
  unfold State.hasHold
  cases s.fst.folios.get folio <;> simp

/-- The state once the MISSING mark of a person who leaves ASHORE is cleared, as far as causes go (R163). -/
def State.markCleared (p : Person) (s : State) : State :=
  if p.att.presence = .ashore ∧ p.att.missing = true ∧ s.pru.missingCount = 1 then raise .allAboardComplete 0 {} s else s

/-- The state of a change of presence before a departure's part. -/
def State.presenceMoved (n : Nat) (p q : Person) (after : Presence) (s : State) : State :=
  let t := { putPerson n q s with pru := s.pru.moveCount p.ident.cls p.att.presence after }
  if p.att.presence = .ashore ∧ p.att.missing = true then clearMark t else t

theorem presenceMoved_atu (n : Nat) (p q : Person) (after : Presence) (s : State) : (s.presenceMoved n p q after).atu = (s.markCleared p).atu := by
  unfold State.presenceMoved State.markCleared
  dsimp only
  by_cases leaves : p.att.presence = .ashore ∧ p.att.missing = true
  · rw [if_pos leaves, clearMark_atu, apply_ite State.atu]
    exact if_congr ⟨fun one => ⟨leaves.1, leaves.2, one⟩, fun all => all.2.2⟩
      (raise_atu_congr (s := { putPerson n q s with pru := s.pru.moveCount p.ident.cls p.att.presence after }) (t := s) rfl rfl _ _ _) rfl
  · rw [if_neg leaves, if_neg fun all => leaves ⟨all.1, all.2.1⟩]
    rfl

theorem presenceMoved_clock (n : Nat) (p q : Person) (after : Presence) (s : State) :
    (s.presenceMoved n p q after).scl = s.scl ∧ (s.presenceMoved n p q after).fst = s.fst := by
  unfold State.presenceMoved
  dsimp only
  split <;> simp

theorem markCleared_scl (p : Person) (s : State) : (s.markCleared p).scl = s.scl := by
  unfold State.markCleared; split <;> simp

section
variable {n : Nat} {p : Person} {after : Presence} {stamp : Nat} {station : Option (Fin 4)} {irregular : Bool}

theorem changePresence_eq_presenceMoved : changePresence n p after stamp station irregular s =
    let t := s.presenceMoved n p (p.movedTo after stamp station irregular) after
    if after = .departed then depart n p.ident.folio t else t := rfl

theorem changePresence_atu_of_tab (departs : after = .departed) (tab : s.hasHold n p.ident.folio = true) :
    (changePresence n p after stamp station irregular s).atu = (raise .openTabAtDeparture (subj n) (detail p.ident.folio) (s.markCleared p)).atu := by
  have moved := presenceMoved_clock n p (p.movedTo after stamp station irregular) after s
  rw [changePresence_eq_presenceMoved]
  dsimp only
  rw [if_pos departs, depart_atu, if_pos (by rw [State.hasHold, moved.2]; exact tab)]
  exact raise_atu_congr (presenceMoved_atu ..) (congrArg Scl.voyage (moved.1.trans (markCleared_scl p s).symm)) _ _ _

theorem changePresence_atu_of_no_tab (none : ¬ (after = .departed ∧ s.hasHold n p.ident.folio = true)) :
    (changePresence n p after stamp station irregular s).atu = (s.markCleared p).atu := by
  have moved := presenceMoved_clock n p (p.movedTo after stamp station irregular) after s
  rw [changePresence_eq_presenceMoved]
  dsimp only
  split
  next departs =>
    rw [depart_atu, if_neg (by rw [State.hasHold, moved.2]; exact fun tab => none ⟨departs, tab⟩)]
    exact presenceMoved_atu ..
  next => exact presenceMoved_atu ..

theorem changePresence_ring : (changePresence n p after stamp station irregular s).crg.ring = if after = .departed then s.crg.ring.map (fun e =>
    (e.1, if e.2.person = n ∧ (e.2.state = .active ∨ e.2.state = .suspended) then { e.2 with state := .departed } else e.2)) else s.crg.ring := by
  rw [changePresence_crg, apply_ite Crg.ring]
  rfl

theorem changePresence_purge : (changePresence n p after stamp station irregular s).crg.purge = s.crg.purge := by
  rw [changePresence_crg, apply_ite Crg.purge]
  exact ite_self _

theorem Person.movedTo_eq (p : Person) : p.movedTo after stamp station irregular =
    { p with att := { p.att with presence := after, stamp := stamp, lastStation := station, irregular := irregular,
                                 missing := p.att.missing && !decide (p.att.presence = .ashore) } } := by
  have mark : (if p.att.presence = .ashore ∧ p.att.missing = true then false else p.att.missing) = (p.att.missing && !decide (p.att.presence = .ashore)) := by
    by_cases ashore : p.att.presence = .ashore <;> cases p.att.missing <;> simp [ashore]
  rw [Person.movedTo, mark]

theorem Pru.count_moveCount_of_ne (r : Pru) {cls : PersonClass} {before after : Presence} (moves : after ≠ before) (cls' : PersonClass) (x : Presence) :
    (r.moveCount cls before after).count cls' x =
      if cls = cls' ∧ after = x then r.count cls after + 1 else if cls = cls' ∧ before = x then r.count cls before - 1 else r.count cls' x := by
  simp only [Pru.moveCount, Pru.count_setCount, moves.symm, and_false, if_false]

end

theorem sighting_of_aboard {n : Nat} {p : Person} {serial : Word32} {w : Sighted} (present : p.att.presence = .aboard ∨ p.att.presence = .departed) :
    sighting n p serial w s = s := by
  refine if_neg fun away => ?_
  rcases present with h | h <;> rw [h] at away <;> exact away.elim nofun nofun

/-- Settles O25: part by part, the causes by `changePresence_atu_of_tab`. -/
theorem presenceChangesInOneEvent : Obligations.PresenceChangesInOneEvent := by
  intro s n p inUse
  refine ⟨fun after stamp station irregular moves => ⟨_, rfl, ?persons, ?entered, ?left, fun cls x other => ?other, ?missing, changePresence_stations .., ?timer, ?marked,
    changePresence_ring, changePresence_purge, changePresence_slc .., changePresence_scl .., changePresence_chu .., changePresence_fst .., changePresence_cau ..,
    changePresence_lscs .., changePresence_jnl .., changePresence_ports .., changePresence_boundary .., changePresence_free .., changePresence_lines ..,
    changePresence_pending .., fun ⟨departs, tab⟩ => changePresence_atu_of_tab departs ((hasHold_iff ..).2 tab),
    fun none => changePresence_atu_of_no_tab fun ⟨departs, tab⟩ => none ⟨departs, (hasHold_iff ..).1 tab⟩⟩,
    fun serial w => ⟨sighting_of_aboard, fun away => if_pos away⟩⟩
  case persons => rw [changePresence_persons, Person.movedTo_eq]
  case entered =>
    rw [changePresence_pru]
    exact (Pru.count_moveCount_of_ne s.pru moves ..).trans (if_pos ⟨rfl, rfl⟩)
  case left =>
    rw [changePresence_pru]
    exact (Pru.count_moveCount_of_ne s.pru moves ..).trans ((if_neg fun same => moves same.2).trans (if_pos ⟨rfl, rfl⟩))
  case other =>
    rw [changePresence_pru]
    refine (Pru.count_moveCount_of_ne s.pru moves ..).trans ((if_neg fun same => ?_).trans (if_neg fun same => ?_))
    · exact other.elim (· same.1.symm) (·.1 same.2.symm)
    · exact other.elim (· same.1.symm) (·.2 same.2.symm)
  case missing => rw [changePresence_pru]
  case timer => rw [changePresence_pru]; rfl
  case marked => rw [changePresence_pru]; rfl

/-! ### The marks of a folio (R57, R70, R76) -/

theorem Folio.nearDue_iff (f : Folio) (band : Nat) :
    f.nearDue band = true ↔ 0 < f.limit ∧ f.near = false ∧ band * f.limit ≤ 100 * (f.balance + (f.holds.map (·.amount)).sum) := by
  simp [Folio.nearDue, Folio.reserved, and_assoc]

theorem isLimited_iff (balance : Int) : isLimited balance = true ↔ balance < -8388608 ∨ 8388607 < balance := by
  simp [isLimited, Config.maxMoney, or_comm]

section
variable {n : Nat} {f : Folio} (inUse : s.fst.folios.get n = some f)
include inUse

theorem nearTest_of_due (due : f.nearDue s.fst.band = true) : nearTest n s = raise .folioNearLimit (subj n) {} (putFolio n { f with near := true } s) := by
  simp only [nearTest, inUse, due, if_true]

theorem nearTest_of_clear (clear : f.nearDue s.fst.band = false) : nearTest n s = s := by
  simp only [nearTest, inUse, clear, Bool.false_eq_true, if_false]

theorem showBalance_of_limited (limited : isLimited f.balance = true) (unmarked : f.limited = false) :
    showBalance n s = raise .balanceLimited (subj n) {} (putFolio n { f with limited := true } s) := by
  simp only [showBalance, inUse, limited, unmarked, and_self, if_true]

theorem showBalance_of_shown (shown : ¬ (isLimited f.balance = true ∧ f.limited = false)) : showBalance n s = s := by
  simp only [showBalance, inUse, shown, if_false]
end

theorem postFromTill_of_over {n : Nat} {f : Folio} (opened : f.state = .opened) (exceeds : f.overLimit = true) :
    postFromTill n f s = raise .folioOverLimit (subj n) {} (putFolio n { f with state := .frozen } s) := by
  simp only [postFromTill, Folio.frozenIfOver, opened, exceeds, and_self, if_true]

theorem postFromTill_of_within {n : Nat} {f : Folio} (within : ¬ (f.state = .opened ∧ f.overLimit = true)) : postFromTill n f s = putFolio n f s := by
  simp only [postFromTill, Folio.frozenIfOver, within, if_false]

/-- Settles O26: mark by mark; the day total by the branches of `Fst.addToDay`. -/
theorem folioMarksFollowTheirRules : Obligations.FolioMarksFollowTheirRules := by
  refine ⟨fun s n f inUse => ?marks, fun f x => ?total⟩
  case marks =>
    refine ⟨fun reaches => nearTest_of_due inUse ((f.nearDue_iff _).2 reaches),
      fun below => nearTest_of_clear inUse (Bool.eq_false_iff.2 fun due => below ((f.nearDue_iff _).1 due)),
      fun limited unmarked => showBalance_of_limited inUse ((isLimited_iff _).2 limited) unmarked, fun shown => showBalance_of_shown inUse fun ⟨limited, unmarked⟩ => ?_,
      balanceField_eq_clamp _, fun opened exceeds => postFromTill_of_over opened (f.overLimit_iff.2 exceeds), fun kept => postFromTill_of_within fun ⟨opened, beyond⟩ => ?_⟩
    · exact shown.elim (· ((isLimited_iff _).1 limited)) fun marked => Bool.false_ne_true (unmarked.symm.trans marked)
    · exact kept.elim (· opened) (· (f.overLimit_iff.1 beyond))
  case total =>
    refine ⟨fun above => if_pos above, fun below => ?_, fun low high => ?_⟩
    · rw [Fst.addToDay, if_neg (by simp only [Config.dayTotalBound]; omega), if_pos below]
    · rw [Fst.addToDay, if_neg (by simp only [Config.dayTotalBound]; omega), if_neg (by simp only [Config.dayTotalBound]; omega)]

end Sys2Proof.Machine
end

section
/-! O29, O31 and O47: folio queries, and the requests that set policies, tills, venues, stations, persons and the timer. -/
namespace Sys2Proof.Machine
variable {s t : State} {v : Values}

/-! ### The values of a request -/

/-- A value given lies in the range of its field (R190 test 4). -/
theorem admits_of_fitsAll {fields : List Field} {v : Values} (fits : fitsAll fields v = true) {i : Nat} {f : Field} {x : Int}
    (field : fields[i]? = some f) (given : v.getD i none = some x) : f.form.admits x = true := by
  induction fields generalizing v i with
  | nil => cases field
  | cons g fields ih =>
    cases v with
    | nil => cases given
    | cons y v =>
      simp only [fitsAll, Bool.and_eq_true] at fits
      cases i with
      | zero =>
        cases field
        obtain rfl : y = some x := given
        exact fits.1
      | succ i => exact ih fits.2 field given

/-- A request that the link can take, with fields judged together, is answered as its owner answers it (R189, R190). -/
theorem judged_answered (ready : s.ready = true) {fields : List Field} {cross : Values → Option Nat} {body : List Byte}
    (judged : judgeFields fields cross body = .ok v) {own : Values → State → Answer × State} {status : Status} {payload : Payload} {u : State}
    (owner : own v (heard .service s) = ({ status := status, payload := payload }, u)) {code tag : Byte} :
    (.next (hostRequest code fields cross own tag body s) : Out) = .next (answered code tag status payload u) := by
  rw [hostRequest_ready ready judged, owner]

theorem Values.optNat_of_opt {i n : Nat} (given : v.opt i = some (n : Int)) : v.optNat i = some n := by rw [Values.optNat, given]; rfl

theorem Values.optNat_of_none {i : Nat} (absent : v.opt i = none) : v.optNat i = none := by rw [Values.optNat, absent]; rfl

/-! ### Queries of a folio (R58, R83) -/

theorem asSigned_byte (n : Nat) : -128 ≤ asSigned 1 (n % 256) ∧ asSigned 1 (n % 256) ≤ 127 := by
  have below : n % 256 < 256 := Nat.mod_lt _ (by decide)
  unfold asSigned
  split <;> simp only [Nat.mul_one, Nat.reducePow, Int.reducePow] at * <;> omega

section
variable {f : Folio} (inUse : t.fst.folios.get (v.nat 1) = some f)
include inUse

theorem queryFolio_of_shown (shown : f.available ≤ 2147483647) : queryFolio v t =
    ({ status := .done, payload := folioReading (splitOf f.available) { f with limited := f.limited || isLimited f.balance } }, showBalance (v.nat 1) t) := by
  have fits : f.availableTooWide = false := decide_eq_false (by omega)
  simp only [queryFolio, withFolio_of_inUse inUse, State.availableSplit, fits, Bool.false_eq_true, if_false]

theorem queryFolio_of_wide (wide : 2147483647 < f.available) : queryFolio v t =
    ({ status := .done, payload := folioReading { splitOf f.available with high := asSigned 1 (t.freeValue % 256) }
        { f with limited := f.limited || isLimited f.balance } }, useFree (showBalance (v.nat 1) t)) := by
  have wide : f.availableTooWide = true := decide_eq_true wide
  simp only [queryFolio, withFolio_of_inUse inUse, State.availableSplit, wide, if_true]
end

/-- The reading of a folio, field by field. -/
theorem folioReading_eq (available : Split) (f : Folio) : folioReading available f =
    .folio f.state (max (-8388608) (min 8388607 f.balance)) ⟨f.limit / 16777216, f.limit % 16777216⟩
      ⟨(f.holds.map (·.amount)).sum / 16777216, (f.holds.map (·.amount)).sum % 16777216⟩ available f.personCount f.near f.limited
      (f.holds.map (fun h => { number := h.number, venue := h.venue, till := h.till, person := h.person, amount := h.amount, openedAt := h.openedAt })) := by
  rw [folioReading, balanceField_eq_clamp]
  rfl

/-! ### Policies and windows (R84, R102, R123, R144) -/

theorem policyOf_eq (n : Nat) : policyOf n = if n = 0 then .strict else .lenient := by
  match n with
  | 0 => rfl
  | 1 => rfl
  | n + 2 => rfl

theorem loggingOf_eq (n : Nat) : loggingOf n = if n = 0 then .nothing else if n = 1 then .denials else .all := by
  match n with
  | 0 => rfl
  | 1 => rfl
  | 2 => rfl
  | n + 3 => rfl

theorem setPollWindow_of_one {i : Fin 8} (one : v.opt 2 = some (i.val : Int)) : setPollWindow v t =
    ({ status := .done, payload := .windows [t.lscs[i].windowMs] }, { t with lscs := t.lscs.set i { t.lscs[i] with windowMs := v.nat 3 } }) := by
  simp only [setPollWindow, Values.optNat_of_opt one, segmentOf_val]
  rfl

theorem setPollWindow_of_all (all : v.opt 2 = none) : setPollWindow v t =
    ({ status := .done, payload := .windows (t.lscs.toList.map (·.windowMs)) }, { t with lscs := t.lscs.map (fun l => { l with windowMs := v.nat 3 }) }) := by
  simp only [setPollWindow, Values.optNat_of_none all, mapVec_eq]

/-- Settles O29: the folio queries by `folioReading_eq`, the settings by their owners. -/
theorem folioQueriesAndSettings : Obligations.FolioQueriesAndSettings := by
  intro s tag body v ready
  refine ⟨fun decoded => ⟨fun unused => ⟨request_answered ready decoded (withFolio_of_unused (t := heard .service s) unused),
      request_answered ready decoded (withFolio_of_unused (t := heard .service s) unused)⟩, fun f inUse => ⟨fun shown => ?shown, fun wide => ?wide, ?split⟩⟩,
    fun decoded => request_answered ready decoded rfl, fun decoded => request_answered ready decoded ?till, fun decoded => request_answered ready decoded ?access,
    fun judged => ⟨fun i one => judged_answered ready judged (setPollWindow_of_one (t := heard .service s) one),
      fun all => judged_answered ready judged (setPollWindow_of_all (t := heard .service s) all)⟩⟩
  case shown =>
    refine request_answered ready decoded ((queryFolio_of_shown (t := heard .service s) inUse shown).trans ?_)
    rw [folioReading_eq]
    rfl
  case wide =>
    have range := asSigned_byte (heard .service s).freeValue
    refine ⟨_, range.1, range.2, request_answered ready decoded ((queryFolio_of_wide (t := heard .service s) inUse wide).trans ?_)⟩
    rw [folioReading_eq]
    rfl
  case split => exact request_answered ready decoded (withFolio_of_inUse (t := heard .service s) inUse)
  case till => rw [setTillPolicy, policyOf_eq]; rfl
  case access => rw [setAccessPolicy, policyOf_eq, loggingOf_eq]; rfl

/-! ### Tills and venues (R91, R95-R97) -/

section
variable {n : Fin 128} (named : v.nat 1 = n.val)
include named

theorem setTill_of_working (working : t.chu.tills[n].working ≠ none) : setTill v t = refuse .notNow t := by
  simp only [setTill, named, tillOf_val]
  exact if_pos (Option.isSome_iff_ne_none.2 working)

theorem setTill_of_idle (idle : t.chu.tills[n].working = none) {venue : Option (Fin 64)} (given : v.optNat 3 = venue.map (·.val)) :
    setTill v t = ({ status := .done }, putTill n { venue := venue, working := none, lastSequence := none, lastDecision := none, lastApproved := none } t) := by
  have idle : (t.till n).working.isSome = false := Option.isSome_eq_false_iff.2 (Option.isNone_iff_eq_none.2 idle)
  have venues : (v.optNat 3).map venueOf = venue := by rw [given]; cases venue <;> simp
  simp only [setTill, named, tillOf_val, idle, venues, Bool.false_eq_true, if_false]
  rfl
end

section
variable {n : Fin 64} (named : v.nat 1 = n.val)
include named

theorem setVenue_of_named : setVenue v t = ({ status := .done }, putVenue n
    { t.chu.venues[n] with isOpen := decide (v.nat 2 = 0), category := categoryOf (v.nat 3),
                           exempt := (v.opt 4).elim (decide (categoryOf (v.nat 3) = .shoreDesk)) (fun x => decide (x = 1)), returns := decide (v.int 5 = 1) } t) := by
  simp only [setVenue, named, venueOf_val]
  cases v.opt 4 <;> rfl

theorem stageVenuePricing_of_minute (minute : v.nat 7 = 0) :
    stageVenuePricing v t = ({ status := .done }, putVenue n { t.chu.venues[n] with staged := pricingOf v, stagedPending := true } t) := by
  simp only [stageVenuePricing, named, venueOf_val, minute, if_true]
  rfl

theorem stageVenuePricing_of_loading (now : v.nat 7 = 1) (loading : t.slc.service = .loading) : stageVenuePricing v t =
    ({ status := .done }, putVenue n { t.chu.venues[n] with live := pricingOf v, staged := pricingOf v, stagedPending := false } t) := by
  simp only [stageVenuePricing, named, venueOf_val, now, loading, reduceCtorEq, if_false, Nat.one_ne_zero]
  rfl
end

theorem stageVenuePricing_of_serving (now : v.nat 7 = 1) (serving : t.slc.service = .serving) : stageVenuePricing v t = refuse .notNow t := by
  simp only [stageVenuePricing, now, serving, if_true, if_false, Nat.one_ne_zero]

theorem stagePortRate_of_minute (minute : v.nat 2 = 0) :
    stagePortRate v t = ({ status := .done }, { t with chu := { t.chu with rateStaged := v.nat 1, ratePending := true } }) := if_pos minute

theorem stagePortRate_of_serving (now : v.nat 2 = 1) (serving : t.slc.service = .serving) : stagePortRate v t = refuse .notNow t := by
  simp only [stagePortRate, now, serving, if_true, if_false, Nat.one_ne_zero]

theorem stagePortRate_of_loading (now : v.nat 2 = 1) (loading : t.slc.service = .loading) : stagePortRate v t =
    ({ status := .done }, { t with chu := { t.chu with rateLive := v.nat 1, rateStaged := v.nat 1, ratePending := false } }) := by
  simp only [stagePortRate, now, loading, reduceCtorEq, if_false, Nat.one_ne_zero]

/-- Settles O31: request by request, each by its owner's equation. -/
theorem tillAndVenueRequestsSetThem : Obligations.TillAndVenueRequestsSetThem := by
  intro s tag body v ready t
  exact ⟨fun judged n named => ⟨fun working => judged_answered ready judged (setTill_of_working (t := t) named working),
      fun idle venue given => judged_answered ready judged (setTill_of_idle (t := t) named idle given)⟩,
    fun decoded n named => request_answered ready decoded (setVenue_of_named (t := t) named),
    fun decoded n named => ⟨fun minute => request_answered ready decoded (stageVenuePricing_of_minute (t := t) named minute),
      fun now serving => request_answered ready decoded (stageVenuePricing_of_serving (t := t) now serving),
      fun now loading => request_answered ready decoded (stageVenuePricing_of_loading (t := t) named now loading)⟩,
    fun decoded => ⟨fun minute => request_answered ready decoded (stagePortRate_of_minute (t := t) minute),
      fun now serving => request_answered ready decoded (stagePortRate_of_serving (t := t) now serving),
      fun now loading => request_answered ready decoded (stagePortRate_of_loading (t := t) now loading)⟩⟩

/-! ### Stations, persons and the timer (R99, R160, R163, R166-R169) -/

theorem setStation_of_named {g : Fin 4} (named : v.nat 1 = g.val) : setStation v t =
    ({ status := .done, payload := .stationSettings t.pru.stations[g].mode t.pru.stations[g].pulseLimit t.pru.stations[g].frequency },
     putStation g { t.pru.stations[g] with mode := (v.optNat 2).elim t.pru.stations[g].mode stationModeOf,
                                           pulseLimit := (v.optNat 3).getD t.pru.stations[g].pulseLimit,
                                           frequency := (v.optNat 4).elim t.pru.stations[g].frequency frequencyOf,
                                           lastShown := if v.opt 4 = none then t.pru.stations[g].lastShown else none } t) := by
  have shown : (if (v.optNat 4).isSome then none else (t.station g).lastShown) = if v.opt 4 = none then t.pru.stations[g].lastShown else none := by
    unfold Values.optNat
    cases v.opt 4 <;> rfl
  simp only [setStation, named, stationOf_val, shown]
  cases v.optNat 2 <;> cases v.optNat 4 <;> rfl

/-- A field that lists set, then clear, marks at 0. -/
theorem markOf_eq {i : Nat} {now : Bool} (given : ∀ x, v.opt i = some x → 0 ≤ x) : markOf v i now = (v.opt i).elim now (fun x => decide (x = 0)) := by
  unfold markOf Values.optNat
  cases field : v.opt i with
  | none => rfl
  | some x =>
    have nonneg := given x field
    exact decide_eq_decide.2 (by omega)

theorem setPerson_marks_nonneg {body : List Byte} (decoded : decodeFields setPersonFields body = .ok v) :
    (∀ x, v.opt 4 = some x → 0 ≤ x) ∧ (∀ x, v.opt 5 = some x → 0 ≤ x) := by
  have fits := fitsAll_of_decodeFields decoded
  refine ⟨fun x given => ?_, fun x given => ?_⟩
  · have range := admits_of_fitsAll fits (i := 3) rfl given
    exact (by simpa [Form.admits] using range : 0 ≤ x ∧ x < 2).1
  · have range := admits_of_fitsAll fits (i := 4) rfl given
    exact (by simpa [Form.admits] using range : 0 ≤ x ∧ x < 2).1

theorem changedPerson_eq {body : List Byte} (decoded : decodeFields setPersonFields body = .ok v) (p : Person) :
    changedPerson v p =
      { p with spend := { p.spend with privilege := (v.optNat 2).elim p.spend.privilege privilegeOf, allowance := (v.opt 3).getD p.spend.allowance,
                                       minor := (v.opt 4).elim p.spend.minor (fun x => decide (x = 0)) },
               att := { p.att with final := (v.opt 5).elim p.att.final (fun x => decide (x = 0)) } } := by
  obtain ⟨minor, final⟩ := setPerson_marks_nonneg decoded
  rw [changedPerson, markOf_eq minor, markOf_eq final]
  cases v.optNat 2 <;> rfl

theorem setPresence_of_unused (unused : t.persons.get (v.nat 1) = none) : setPresence v t = refuse .notFound t := by
  simp only [setPresence, withPerson_of_unused unused]

section
variable {p : Person} (inUse : t.persons.get (v.nat 1) = some p)
include inUse

theorem setPresence_of_same (same : presenceOf (v.nat 2) = p.att.presence) :
    setPresence v t = ({ status := .done, payload := .presence p.att.presence }, t) := by
  simp only [setPresence, withPerson_of_inUse inUse, same, if_true]

theorem setPresence_of_change (moves : presenceOf (v.nat 2) ≠ p.att.presence) : setPresence v t =
    ({ status := .done, payload := .presence p.att.presence }, changePresence (v.nat 1) p (presenceOf (v.nat 2)) t.scl.voyage none false t) := by
  simp only [setPresence, withPerson_of_inUse inUse, if_neg moves.symm]
end

theorem clearMissing_of_walking {d w : Nat} (walking : t.pru.timer = .expiring d w) : clearMissing v t = refuse .notNow t := by
  rw [clearMissing, walking]; rfl

theorem clearMissing_of_idle (idle : ∀ d w, t.pru.timer ≠ .expiring d w) : clearMissing v t =
    ({ status := .done, payload := .missingCount t.pru.missingCount },
     { t with persons := t.persons.mapVals Person.unmarked, pru := { t.pru with missingCount := 0 } }) := by
  have idle : t.pru.timer.isExpiring = false := by
    cases timer : t.pru.timer with
    | expiring d w => exact absurd timer (idle d w)
    | _ => rfl
  rw [clearMissing, idle]; rfl

/-- Settles O47: request by request; the all-aboard requests by the timer's states. -/
theorem stationPersonAndTimerRequests : Obligations.StationPersonAndTimerRequests := by
  intro s tag body v ready t
  have timers {own : Values → State → Answer × State} {status : Status} {u : State} {code : Byte} (owner : own [] t = ({ status := status }, u)) :
      (.next (hostRequest code [] noCross own tag [] s) : Out) = .next (answered code tag status .nothing u) := request_answered ready rfl owner
  refine ⟨fun decoded g named => request_answered ready decoded (setStation_of_named (t := t) named),
    fun decoded => ⟨fun unused => request_answered ready decoded (withPerson_of_unused (t := t) unused), fun p inUse => request_answered ready decoded ?person⟩,
    fun decoded => ⟨fun unused => request_answered ready decoded (setPresence_of_unused (t := t) unused),
      fun p inUse => ⟨fun same => request_answered ready decoded (setPresence_of_same (t := t) inUse same),
        fun moves => request_answered ready decoded (setPresence_of_change (t := t) inUse moves)⟩⟩,
    fun decoded => ?set, fun d due => ?due, fun clear => ?clear, fun d expired => ?expired, fun d w walking => ?walking, fun idle => ?idle⟩
  case person =>
    refine (withPerson_of_inUse (t := t) inUse).trans ?_
    rw [changedPerson_eq decoded]
  case set =>
    have sets {status : Status} {u : State} (owner : setAllAboard v t = ({ status := status }, u)) :
        exec (.setAllAboard tag body) s = .next (answered 0x56 tag status .nothing u) := request_answered ready decoded owner
    unfold setAllAboard at sets
    refine ⟨fun timer => sets ?_, fun d timer => sets ?_, fun d timer => sets ?_, fun d timer => sets ?_, fun d w timer => sets ?_⟩ <;>
      rw [show t.pru.timer = _ from timer] <;> rfl
  case due =>
    rcases due with armed | running
    · exact ⟨timers (by rw [cancelAllAboard, show t.pru.timer = _ from armed]), timers (by rw [clearTimer, show t.pru.timer = _ from armed]; rfl)⟩
    · exact ⟨timers (by rw [cancelAllAboard, show t.pru.timer = _ from running]), timers (by rw [clearTimer, show t.pru.timer = _ from running]; rfl)⟩
  case clear =>
    exact ⟨timers (by rw [cancelAllAboard, show t.pru.timer = _ from clear]; rfl), timers (by rw [clearTimer, show t.pru.timer = _ from clear])⟩
  case expired =>
    exact ⟨timers (by rw [cancelAllAboard, show t.pru.timer = _ from expired]; rfl), timers (by rw [clearTimer, show t.pru.timer = _ from expired])⟩
  case walking =>
    exact ⟨timers (by rw [cancelAllAboard, show t.pru.timer = _ from walking]; rfl), timers (by rw [clearTimer, show t.pru.timer = _ from walking]; rfl),
      timers (clearMissing_of_walking (t := t) walking)⟩
  case idle => exact request_answered ready rfl (clearMissing_of_idle (t := t) idle)

end Sys2Proof.Machine
end

section
/-! O49, O50 and O52: walks, STOP and the service window; LOAD and its items; START SERVICE. -/
namespace Sys2Proof.Machine
variable {s t : State} {v : Values}

/-! ### Requests of an open transfer (R191) -/

/-- A request that the open transfer takes is answered as its owner answers it, the service window stopped. -/
theorem transferRequest_answered (settled : s.boundary = none) (free : s.slc.exchange = false) {α : Type} {x : α} {own : α → State → Answer × State}
    {status : Status} {payload : Payload} {u : State} (owner : own x (stopWindow (heard .service s)) = ({ status := status, payload := payload }, u)) {code tag : Byte} :
    transferRequest code (.ok x) own tag (received .service s) = answered code tag status payload u := by
  simp only [transferRequest, received_none settled, heard_slc, free, Bool.false_eq_true, if_false, execute_eq, owner]

/-! ### Walks (R86, R164) -/

theorem walkFrame_eq (limit fin : Nat) (hits : List Nat) :
    walkFrame limit fin hits = { found := hits.take limit, last := if limit ≤ hits.length then (hits.take limit).getLastD fin else fin } := by
  unfold walkFrame
  split
  · rfl
  · rw [List.take_of_length_le (by omega)]

/-- A walk's answer and the transfer it leaves open. -/
def walkAnswer (limit fin : Nat) (hits : List Nat) (again : Nat → Transfer) (s : State) : Answer × State :=
  let last := if limit ≤ hits.length then (hits.take limit).getLastD fin else fin
  ({ status := .done, payload := .numbers (hits.take limit) last (decide (fin ≤ last)) }, setTransfer (if fin ≤ last then none else some (again last)) s)

theorem scanFrame_eq (q : ScanQuery) (first : Nat) (s : State) :
    scanFrame q first s = walkAnswer 32 4000 (s.fst.hits q first) (fun last => .scan q (last + 1) last) s := by
  simp only [scanFrame, walkFrame_eq, walkAnswer, decide_eq_true_eq]

theorem missingFrame_eq (first : Nat) (s : State) :
    missingFrame first s = walkAnswer 64 8000 (s.missingFrom first) (fun last => .missing (last + 1) last) s := by
  simp only [missingFrame, walkFrame_eq, walkAnswer, decide_eq_true_eq]

/-! ### The end of the service window (R180, R194) -/

theorem exec_serviceWindowExpiry (settled : s.boundary = none) {tr : Transfer} {ms : Nat} (transfer : s.slc.transfer = some tr) (window : s.slc.windowMs = some ms) :
    exec .serviceWindowExpiry s = .next (raiseOverrun tr (setTransfer none s)) := by
  show execServiceWindowExpiry s = _
  simp only [execServiceWindowExpiry, settle_none settled, transfer, window]

/-- Settles O49: each walk by `walkAnswer`, STOP and the window by their transfers. -/
theorem walksStopsAndWindows : Obligations.WalksStopsAndWindows := by
  refine ⟨fun s tag body v => ⟨fun ready decoded => ?scan, fun ready decoded => ?missing,
    fun settled free => ⟨fun q first last transfer => ?nextScan, fun first last transfer => ?nextMissing, fun tr transfer => ?stop⟩⟩,
    fun s tr ms settled transfer window => ?expiry⟩
  case scan => exact request_answered ready decoded (scanFrame_eq ..)
  case missing => exact request_answered ready decoded (missingFrame_eq ..)
  case nextScan =>
    refine (execNext_of_transfer settled transfer nofun tag []).trans (congrArg Host.Outcome.next ?_)
    exact transferRequest_answered settled free (scanFrame_eq ..)
  case nextMissing =>
    refine (execNext_of_transfer settled transfer nofun tag []).trans (congrArg Host.Outcome.next ?_)
    exact transferRequest_answered settled free (missingFrame_eq ..)
  case stop =>
    refine (execStop_of_transfer settled transfer tag []).trans (congrArg Host.Outcome.next ?_)
    refine (transferRequest_answered settled free (x := []) (own := fun _ u => ({ status := .done, payload := tr.stopReading }, setTransfer none u)) rfl).trans ?_
    cases tr <;> rfl
  case expiry =>
    refine (exec_serviceWindowExpiry settled transfer window).trans (congrArg Host.Outcome.next ?_)
    cases tr with
    | load table count next stored => cases table <;> rfl
    | drain | scan | missing => rfl

/-! ### A LOAD's item (R193) -/

theorem beginCycle_slc (i : Fin 8) (s : State) : (beginCycle i s).slc = s.slc := by
  unfold beginCycle
  dsimp only
  split <;> rfl

theorem listNode_slc (i : Fin 8) (address : Nat) (st : CabinState) (s : State) : (listNode i address st s).slc = s.slc := by
  unfold listNode
  dsimp only
  split
  · rfl
  · exact beginCycle_slc ..

theorem addCabin_slc (v : Values) (s : State) : (addCabin v s).2.slc = s.slc := by
  unfold addCabin
  dsimp only
  split
  · rfl
  · split
    · rfl
    · split
      · rfl
      · exact listNode_slc ..

theorem addPerson_slc (v : Values) (s : State) : (addPerson v s).2.slc = s.slc := by
  have counted (n : Nat) (u : State) : (changePersonCount n (· + 1) u).slc = u.slc := by
    unfold changePersonCount; split <;> rfl
  rw [addPerson_eq]
  (repeat' split) <;> simp [refuse, personAdded, counted]

theorem issueCard_slc (v : Values) (s : State) : (issueCard v s).2.slc = s.slc := by
  have inserted (slot : Nat) (c : Card) (p : Person) : (insertCard slot c p s).slc = s.slc := by
    unfold insertCard; dsimp only; split <;> simp
  unfold issueCard
  (repeat' split) <;> simp [refuse, inserted]

theorem openFolio_slc (v : Values) (s : State) : (openFolio v s).2.slc = s.slc := by
  have taken := offerMoney_slc (creditRecord (v.nat 1) (v.int 3) (v.int 3)) s
  unfold openFolio
  dsimp only
  split
  · rfl
  · split
    · simp [bringFolio]
    · split
      next refused => rw [refused] at taken; exact taken
      next took => rw [took] at taken; simpa [bringFolio] using taken

theorem appendBinding_slc (b : Binding) (cabin swept : Nat) (s : State) : (appendBinding b cabin swept s).2.slc = s.slc := by
  unfold appendBinding addToPerson
  (repeat' split) <;> simp [refuse]

theorem bind_slc (v : Values) (s : State) : (bind v s).2.slc = s.slc := by
  have completed (b : Binding) (cabin : Nat) (c : Cabin) : (completeBind b cabin c s).2.slc = s.slc := by
    have swept : (sweep cabin c s).slc = s.slc := by rw [sweep_frame]; rfl
    unfold completeBind
    dsimp only
    (repeat' split) <;> simp [appendBinding_slc, swept]
  unfold bind
  dsimp only
  (repeat' split) <;> simp [refuse, completed]

theorem singleRequest_slc (table : LoadTable) (v : Values) (s : State) : (singleRequest table v s).2.slc = s.slc := by
  cases table with
  | persons => exact addPerson_slc v s
  | cards => exact issueCard_slc v s
  | folios => exact openFolio_slc v s
  | cabins => exact addCabin_slc v s
  | bindings => exact bind_slc v s

section
variable {table : LoadTable} {count next index : Nat} {stored : Option StoredVerdict} {item : List Byte}

theorem loadItem_of_malformed {i : Nat} (here : index = next) (fault : decodeFieldsFrom 2 (itemFields table) item = .error i)
    (transfer : t.slc.transfer = some (.load table count next stored)) (stopped : t.slc.windowMs = none) :
    loadItem table count next stored index item t = ({ status := .malformed, payload := .field i }, t) := by
  have same : setTransfer (some (.load table count index stored)) t = t := by
    rw [setTransfer, here, ← transfer, ← stopped]
  unfold loadItem
  rw [if_pos here, takeItem, fault]
  simp only [same]

theorem loadItem_of_decoded (here : index = next) (decoded : decodeFieldsFrom 2 (itemFields table) item = .ok v) :
    loadItem table count next stored index item t =
      ({ status := (singleRequest table v t).1.status, payload := .item (singleRequest table v t).1.payload index (next + 1) (decide (index = count)) },
       setTransfer (if decide (index = count) then none
         else some (.load table count (next + 1) (some ⟨(singleRequest table v t).1.status, (singleRequest table v t).1.payload⟩))) (singleRequest table v t).2) := by
  unfold loadItem
  rw [if_pos here, takeItem, decoded, here]

theorem loadItem_again {w : StoredVerdict} (last : index + 1 = next) (given : stored = some w) :
    loadItem table count next stored index item t = ({ status := w.status, payload := .item w.payload index next false }, t) := by
  unfold loadItem
  rw [if_neg (by omega), given]
  exact if_pos last

theorem loadItem_range (other : index ≠ next) (unstored : index + 1 ≠ next ∨ stored = none) :
    loadItem table count next stored index item t = ({ status := .range, payload := .nextIndex next }, t) := by
  unfold loadItem
  rw [if_neg other]
  cases stored with
  | none => rfl
  | some w => exact if_neg (unstored.resolve_right nofun)
end

/-- Settles O50: LOAD by its owner, an item by the four cases of `loadItem`. -/
theorem loadTakesItemsOnce : Obligations.LoadTakesItemsOnce := by
  refine ⟨fun s tag body v ready decoded => request_answered ready decoded rfl, fun s tag body table count next index stored settled free transfer judged => ?_⟩
  intro t keeps
  have item {status : Status} {payload : Payload} {u : State}
      (owner : loadItem table count next stored index (body.drop 2) t = ({ status := status, payload := payload }, u)) :
      exec (.loadItem tag body) s = .next (answered 0x73 tag status payload u) := by
    refine (execLoadItem_of_load settled transfer tag body).trans (congrArg Host.Outcome.next ?_)
    rw [judged]
    exact transferRequest_answered settled free owner
  refine ⟨fun i here fault => item (loadItem_of_malformed here fault transfer rfl), fun v here decoded => ?_, fun w last given => item (loadItem_again last given),
    fun other unstored => item (loadItem_range other unstored)⟩
  intro r fin
  have same : r = singleRequest table v t := by cases table <;> rfl
  have slc : r.2.slc = t.slc := by rw [same]; exact singleRequest_slc ..
  refine item ((loadItem_of_decoded here decoded).trans ?_)
  rw [← same, setTransfer, slc]

/-! ### START SERVICE (R38, R199) -/

/-- The close instant formed lies within a day after the local time it is formed from, at the close hour (R25, R35). -/
theorem nextCloseInstant_spec (hour : Nat) (after : Int) : after < nextCloseInstant hour after ∧ nextCloseInstant hour after ≤ after + 86400
    ∧ (nextCloseInstant hour after - 3600 * hour) % 86400 = 0 := by
  unfold nextCloseInstant
  omega

/-- A station after START SERVICE has judged its fetch (R149): one that is ATTACHED with SHORT SEEN and no fetch is fetched. -/
def fetchedAt (g : Fin 4) (s t : State) : Prop :=
  if s.pru.stations[g].attached = .attached ∧ s.pru.stations[g].shortSeen = true ∧ s.pru.stations[g].fetch = .none
    then t.pru.stations[g] = { s.pru.stations[g] with shortSeen := false, fetch := .waiting .toBegin } ∧ t.txOf (.station g) = s.txOf (.station g) ++ [.fetch]
    else t.pru.stations[g] = s.pru.stations[g] ∧ t.txOf (.station g) = s.txOf (.station g)

theorem wantsFetch_iff (serving : s.slc.service = .serving) (g : Fin 4) : s.wantsFetch g = true ↔
    s.pru.stations[g].attached = .attached ∧ s.pru.stations[g].shortSeen = true ∧ s.pru.stations[g].fetch = .none := by
  simp only [State.wantsFetch, serving, Station.idle, decide_true, Bool.true_and, Bool.and_eq_true, decide_eq_true_eq, and_assoc]
  rfl

theorem judgeFetch_other {g h : Fin 4} (other : h ≠ g) (s : State) :
    (judgeFetch h s).pru.stations[g] = s.pru.stations[g] ∧ (judgeFetch h s).txOf (.station g) = s.txOf (.station g) := by
  unfold judgeFetch
  split
  · exact ⟨(pru_station_putStation ..).trans (if_neg other), (txOf_formed ..).trans (if_neg fun same => other (Port.station.inj same))⟩
  · exact ⟨rfl, rfl⟩

theorem judgeFetch_slc (g : Fin 4) (s : State) : (judgeFetch g s).slc = s.slc := by
  unfold judgeFetch; split <;> rfl

theorem fetchedAt_judgeFetch {g : Fin 4} {u : State} (serving : u.slc.service = .serving) (station : u.pru.stations[g] = s.pru.stations[g])
    (queue : u.txOf (.station g) = s.txOf (.station g)) : fetchedAt g s (judgeFetch g u) := by
  unfold fetchedAt
  rw [← station, ← queue]
  by_cases wants : u.pru.stations[g].attached = .attached ∧ u.pru.stations[g].shortSeen = true ∧ u.pru.stations[g].fetch = .none
  · rw [if_pos wants, judgeFetch, if_pos ((wantsFetch_iff serving g).2 wants)]
    exact ⟨(pru_station_putStation ..).trans (if_pos rfl), (txOf_formed ..).trans (if_pos rfl)⟩
  · rw [if_neg wants, judgeFetch, if_neg (mt (wantsFetch_iff serving g).1 wants)]
    exact ⟨rfl, rfl⟩

theorem fetchedAt_after {g h : Fin 4} {u : State} (other : h ≠ g) (fetched : fetchedAt g s u) : fetchedAt g s (judgeFetch h u) := by
  unfold fetchedAt at fetched ⊢
  rw [(judgeFetch_other other u).1, (judgeFetch_other other u).2]
  exact fetched

/-- The stations judged one after another, as START SERVICE does (R199). -/
def judgeFetches (s : State) : State := judgeFetch 3 (judgeFetch 2 (judgeFetch 1 (judgeFetch 0 s)))

theorem fetchedAt_judgeFetches (serving : s.slc.service = .serving) (g : Fin 4) : fetchedAt g s (judgeFetches s) := by
  have untouched {h : Fin 4} (other : h ≠ g) := judgeFetch_other other
  have slc := judgeFetch_slc
  match g with
  | 0 => exact fetchedAt_after (by decide) (fetchedAt_after (by decide) (fetchedAt_after (by decide) (fetchedAt_judgeFetch serving rfl rfl)))
  | 1 =>
    have first := untouched (h := 0) (by decide) s
    exact fetchedAt_after (by decide) (fetchedAt_after (by decide) (fetchedAt_judgeFetch (by rw [slc]; exact serving) first.1 first.2))
  | 2 =>
    have first := untouched (h := 0) (by decide) s
    have second := untouched (h := 1) (by decide) (judgeFetch 0 s)
    exact fetchedAt_after (by decide) (fetchedAt_judgeFetch (by rw [slc, slc]; exact serving) (second.1.trans first.1) (second.2.trans first.2))
  | 3 =>
    have first := untouched (h := 0) (by decide) s
    have second := untouched (h := 1) (by decide) (judgeFetch 0 s)
    have third := untouched (h := 2) (by decide) (judgeFetch 1 (judgeFetch 0 s))
    exact fetchedAt_judgeFetch (by rw [slc, slc, slc]; exact serving) (third.1.trans (second.1.trans first.1)) (third.2.trans (second.2.trans first.2))

/-- Between two states only the stations and the frames to send to them have changed. -/
def stationsOnly (s t : State) : Prop :=
  t = { s with pru := { s.pru with stations := t.pru.stations }, ports := { s.ports with tx := t.ports.tx } }
  ∧ ∀ p, (∀ g, p ≠ .station g) → t.txOf p = s.txOf p

theorem stationsOnly.trans {u : State} (first : stationsOnly s t) (second : stationsOnly t u) : stationsOnly s u := by
  refine ⟨second.1.trans ?_, fun p other => (second.2 p other).trans (first.2 p other)⟩
  rw [first.1]

theorem judgeFetch_stationsOnly (g : Fin 4) (s : State) : stationsOnly s (judgeFetch g s) := by
  unfold judgeFetch
  split
  · exact ⟨rfl, fun p other => (txOf_formed ..).trans (if_neg (other g).symm)⟩
  · exact ⟨rfl, fun _ _ => rfl⟩

theorem judgeFetches_stationsOnly (s : State) : stationsOnly s (judgeFetches s) :=
  (judgeFetch_stationsOnly 0 s).trans ((judgeFetch_stationsOnly 1 _).trans ((judgeFetch_stationsOnly 2 _).trans (judgeFetch_stationsOnly 3 _)))

theorem Scl.started_eq (c : Scl) (folioDay : Nat) : c.started folioDay =
    { c with folioDay := folioDay, closeHeld := false,
             closePoint := some (nextCloseInstant c.closeHour (c.lastClose.elim (c.voyage + 60 * c.offset) (·.atLocal))) } := by
  unfold Scl.started
  cases c.lastClose <;> rfl

/-- The state in SERVING before the stations are judged (R199). -/
def State.inService (folioDay : Nat) (s : State) : State := { s with slc := { s.slc with service := .serving }, scl := s.scl.started folioDay }

theorem startService_of_loading (loading : s.slc.service = .loading) :
    startService v s = ({ status := .done }, judgeFetches (s.inService (v.nat 1))) := if_neg (loading ▸ nofun)

/-- Settles O52: the close point by `nextCloseInstant_spec`, the fetches by `fetchedAt_judgeFetches`. -/
theorem startServiceOpensTheService : Obligations.StartServiceOpensTheService := by
  intro s tag body v ready decoded
  refine ⟨fun serving => request_answered ready decoded (if_pos serving), fun loading => ?_⟩
  obtain ⟨opened, isOpened⟩ : ∃ u, u = (heard .service s).inService (v.nat 1) := ⟨_, rfl⟩
  obtain ⟨judged, isJudged⟩ : ∃ u, u = judgeFetches opened := ⟨_, rfl⟩
  have runs : exec (.startService tag body) s = .next (answered 0x77 tag .done .nothing judged) := by
    rw [isJudged, isOpened]
    exact request_answered ready decoded (startService_of_loading (s := heard .service s) loading)
  obtain ⟨only, queues⟩ : stationsOnly opened judged := isJudged ▸ judgeFetches_stationsOnly opened
  have fetched : ∀ g, fetchedAt g opened judged := isJudged ▸ fetchedAt_judgeFetches (by rw [isOpened]; rfl)
  have settled : s.boundary = none := ((ready_iff s).1 ready).1
  have queue (p : Port) := txOf_answered 0x77 tag .done .nothing judged p
  clear isJudged
  subst isOpened
  have kept {α : Type} (f : State → α) := congrArg f only
  refine ⟨_, _, runs, congrArg (fun c : Slc => { c with exchange := true }) (kept (·.slc)), (kept (·.scl)).trans (s.scl.started_eq (v.nat 1)),
    nextCloseInstant_spec s.scl.closeHour (s.scl.lastClose.elim (s.scl.voyage + 60 * s.scl.offset) (·.atLocal)), ?reply, fun g => ?fetch,
    kept (·.pru.counts), kept (·.pru.timer), kept (·.atu), kept (·.crg), kept (·.persons), kept (·.chu), kept (·.pru.newlyMarked), kept (·.pru.missingCount),
    kept (·.fst), kept (·.cau), kept (·.lscs), kept (·.jnl), kept (·.ports.rx), fun p service station => ?queue, (kept (·.boundary)).trans settled, kept (·.free),
    kept (·.lines), kept (·.pending)⟩
  case reply => exact (queue .service).trans ((if_pos rfl).trans (congrArg (· ++ _) (queues .service nofun)))
  case fetch =>
    have other : Port.service ≠ .station g := nofun
    rw [(queue (.station g)).trans (if_neg other)]
    exact fetched g
  case queue => exact (queue p).trans ((if_neg service.symm).trans (queues p station))

end Sys2Proof.Machine
end

section
/-! O21 and O22: the events of a boundary, and the all-aboard walk. -/
namespace Sys2Proof.Machine
variable {s t : State}

/-! ### Frames of what a boundary's events do -/

theorem boundaryFrame.of_parts (slc : t.slc = s.slc) (crg : t.crg = s.crg) (persons : t.persons = s.persons) (cau : t.cau = s.cau) (lscs : t.lscs = s.lscs)
    (pru : t.pru = s.pru) (ports : t.ports = s.ports) (free : t.free = s.free) (lines : t.lines = s.lines) (pending : t.pending = s.pending) : boundaryFrame s t :=
  ⟨slc, crg, persons, cau, lscs, by rw [pru], by rw [pru], by rw [ports], fun p _ => by rw [State.txOf, ports]; rfl, free, lines, pending⟩

theorem takeZoneShift_frame (s : State) : boundaryFrame s (takeZoneShift s) := by
  apply boundaryFrame.of_parts <;> simp

theorem makeDayClose_frame (s : State) : boundaryFrame s (makeDayClose s) := by
  apply boundaryFrame.of_parts <;> simp

theorem expireHold_frame (folio number : Nat) (s : State) : boundaryFrame s (expireHold folio number s) := by
  apply boundaryFrame.of_parts <;> simp

/-! ### ZONE_SHIFT_TAKEN and DAY_CLOSE (R33, R35, R36) -/

theorem exec_zoneShiftTaken {before : Nat} (stage : s.boundary = some ⟨before, .zone⟩) : exec .zoneShiftTaken s = .next (reachClose before (takeZoneShift s)) := by
  show execZoneShiftTaken s = _
  simp only [execZoneShiftTaken, settleZone, stage, passZone]

theorem exec_dayClose {before : Nat} (stage : s.boundary = some ⟨before, .close⟩) :
    exec .dayClose s = .next (reachHolds before (makeDayClose s).dueHolds (makeDayClose s)) := by
  have past : s.past 1 := State.past_of_stage stage
  show execDayClose s = _
  simp only [execDayClose, settleClose, settleZone_of_past past, stage, passClose]

theorem takeZoneShift_of_some {p : PendingShift} (pending : s.scl.shift = some p) : takeZoneShift s =
    raise .zoneShiftTaken (BitVec.ofInt 32 p.offset) {} (offerEvent { kind := .zoneShift, a := s.scl.offset, b := p.offset }
      { s with scl := { s.scl with offset := p.offset, shift := none } }) := by
  rw [takeZoneShift, pending]

theorem makeDayClose_of_room (room : s.jnl.used < 16384) : makeDayClose s =
    raise .dayClosed (subj s.scl.closed.folioDay) {}
      { takeIn s.dayCloseRecord s with scl := s.scl.closed, fst := { s.fst with dayTotal := 0, saturated := false } } := by
  rw [makeDayClose, offerMoney_admitted ((one_le_freeSlots_iff _).2 room)]
  simp only [takeIn_scl, takeIn_fst]

theorem makeDayClose_of_full (full : s.jnl.used = 16384) : makeDayClose s =
    { raise .journalFull 7 {} s with scl := { s.scl with closeHeld := true } } := by
  have none_free : ¬ 1 ≤ s.jnl.freeSlots := by rw [one_le_freeSlots_iff]; omega
  rw [makeDayClose, offerMoney_refused none_free]
  simp only [raise_scl]
  rfl

/-- What the stages after a day close read of it is the state before it with the clock and the folios of after. -/
theorem sameForStages_makeDayClose (s : State) : sameForStages (makeDayClose s) { s with scl := (makeDayClose s).scl, fst := (makeDayClose s).fst } := by
  refine ⟨rfl, ?_, rfl, ?_, ?_, ?_⟩ <;> simp

/-! ### HOLD_EXPIRY (R75, R76) -/

theorem nearTest_putFolio (n : Nat) (f : Folio) (s : State) : nearTest n (putFolio n f s) =
    if f.nearDue s.fst.band then raise .folioNearLimit (subj n) {} (putFolio n { f with near := true } s) else putFolio n f s := by
  have inUse : (putFolio n f s).fst.folios.get n = some f := Table.get_set_same ..
  have twice : putFolio n { f with near := true } (putFolio n f s) = putFolio n { f with near := true } s := by
    simp only [putFolio, Table.set_set]
  split
  next due => rw [nearTest_of_due inUse due, twice]
  next clear => exact nearTest_of_clear inUse (Bool.eq_false_iff.2 clear)

/-- The folio after the NEAR test (R76): the mark stands as before or is set now. -/
def Folio.nearTested (f : Folio) (band : Nat) : Folio := { f with near := f.near || f.nearDue band }

theorem nearTest_putFolio_fst (n : Nat) (f : Folio) (s : State) :
    (nearTest n (putFolio n f s)).fst = { s.fst with folios := s.fst.folios.set n (f.nearTested s.fst.band) } := by
  rw [nearTest_putFolio, Folio.nearTested]
  split
  next due => simp only [raise_fst, putFolio_fst, due, Bool.or_true]
  next clear => simp only [putFolio_fst, Bool.eq_false_iff.2 clear, Bool.or_false]

theorem nearTested_near_iff (f : Folio) (band : Nat) :
    (f.nearTested band).near = true ↔ f.near = true ∨ (0 < f.limit ∧ band * f.limit ≤ 100 * (f.balance + (f.holds.map (·.amount)).sum)) := by
  simp only [Folio.nearTested, Bool.or_eq_true, Folio.nearDue_iff]
  cases f.near <;> simp

theorem nearDue_iff_nearTested (f : Folio) (band : Nat) : f.nearDue band = true ↔ (f.nearTested band).near = true ∧ f.near = false := by
  simp only [Folio.nearTested]
  cases marked : f.near with
  | false => simp
  | true => simp [Folio.nearDue, marked]

theorem cause_raise_congr {c : Cause} (entry : s.cause c = t.cause c) (clock : s.scl.voyage = t.scl.voyage) (x : Word32) (d : Detail) :
    (raise c x d s).cause c = (raise c x d t).cause c := by
  by_cases silent : (t.cause c).priority = 0
  · rw [raise_silenced silent, raise_silenced (entry ▸ silent), entry]
  · rw [cause_raise_same silent, cause_raise_same (entry ▸ silent), entry, clock]

theorem cause_of_atu {c : Cause} (same : t.atu = s.atu) : t.cause c = s.cause c := by rw [State.cause, same]; rfl

theorem raisedWhen_takeIn (r : Record) (s : State) : raisedWhen (s.jnl.used = 12287) .journalHigh 12288 s (takeIn r s) :=
  ⟨fun high => cause_of_atu (takeIn_at_12287 high r), fun low => cause_of_atu (takeIn_not_12287 low r)⟩

theorem raisedWhen_of_cause {p : Prop} {c : Cause} {x : Word32} {u : State} (same : u.cause c = t.cause c) (raised : raisedWhen p c x s t) : raisedWhen p c x s u :=
  ⟨fun holds => same.trans (raised.1 holds), fun fails => same.trans (raised.2 fails)⟩

theorem cause_nearTest_other {c : Cause} (other : c ≠ .folioNearLimit) (n : Nat) (s : State) : (nearTest n s).cause c = s.cause c := by
  unfold nearTest
  split
  · split
    · exact cause_raise_other other ..
    · rfl
  · rfl

theorem raisedWhen_nearTest (n : Nat) (f : Folio) {u : State} (entry : u.cause .folioNearLimit = s.cause .folioNearLimit) (clock : u.scl.voyage = s.scl.voyage)
    (band : u.fst.band = s.fst.band) :
    raisedWhen ((f.nearTested s.fst.band).near = true ∧ f.near = false) .folioNearLimit (BitVec.ofNat 32 n) s (nearTest n (putFolio n f u)) := by
  rw [← nearDue_iff_nearTested, nearTest_putFolio, band]
  refine ⟨fun due => ?_, fun clear => ?_⟩
  · rw [if_pos due]
    exact cause_raise_congr (s := putFolio n { f with near := true } u) entry clock _ _
  · rw [if_neg clear]
    exact entry

section
variable {folio number : Nat} {f : Folio} {h : Hold} (inUse : s.fst.folios.get folio = some f) (held : f.hold number = some h)
include inUse held

theorem expireHold_of_room (room : s.jnl.used < 16384) :
    expireHold folio number s = nearTest folio (putFolio folio (f.without number) (takeIn (expireRecord folio h) s)) := by
  simp only [expireHold, inUse, held, offerMoney_admitted ((one_le_freeSlots_iff _).2 room)]

theorem expireHold_of_full (full : s.jnl.used = 16384) :
    expireHold folio number s = putFolio folio (f.markDue number) (raise .journalFull 5 {} s) := by
  have none_free : ¬ 1 ≤ s.jnl.freeSlots := by rw [one_le_freeSlots_iff]; omega
  simp only [expireHold, inUse, held, offerMoney_refused none_free]
  rfl
end

theorem reachesTimer_withFst {before : Nat} {u : State} (fst : Fst) (reaches : reachesTimer before u t) : reachesTimer before { u with fst := fst } t := reaches

/-- The boundary goes on after the expiry of a hold: to the holds that are left, or to the timer. -/
theorem reachHolds_goesOn (before folio number : Nat) (rest : List (Nat × Nat)) (s : State) :
    let t := reachHolds before rest (expireHold folio number s)
    (rest ≠ [] → t.boundary = some { before := before, stage := .holds rest } ∧ t.pru = s.pru ∧ t.ports = s.ports) ∧ (rest = [] → reachesTimer before s t) := by
  refine ⟨fun more => ?_, fun none => ?_⟩
  · rw [reachHolds_of_due more]
    exact ⟨rfl, expireHold_pru .., expireHold_ports ..⟩
  · subst none
    have reaches := reachesTimer_withFst s.fst (reachesTimer_reachTimer before (expireHold folio number s))
    exact reachesTimer_congr (u := { expireHold folio number s with fst := s.fst })
      ⟨expireHold_scl .., expireHold_slc .., rfl, expireHold_pru .., expireHold_ports .., expireHold_free ..⟩ reaches

/-- Settles O21: each event by its `exec_` equation, and where it brings the boundary by the lemmas of O18. -/
theorem boundaryEventsComeAbout : Obligations.BoundaryEventsComeAbout := by
  refine ⟨fun s before p stage pending => ?zone, fun s before stage => ⟨fun room => ?close, fun full => ?held⟩,
    fun s before folio number rest f h stage inUse found => ?hold⟩
  case zone =>
    intro u
    have shifts : takeZoneShift s = u := takeZoneShift_of_some pending
    refine ⟨_, (exec_zoneShiftTaken stage).trans (by rw [shifts]), ?_, reachClose_jnl .., reachClose_atu .., ?_, ?_, ?_, reachesClose_reachClose before u⟩
    · rw [reachClose_scl, raise_scl, offerEvent_scl]
    · exact (shifts ▸ takeZoneShift_frame s).trans (reachClose_frame before u)
    · rw [reachClose_chu, raise_chu, offerEvent_chu]
    · rw [reachClose_fst, raise_fst, offerEvent_fst]
  case close =>
    intro record
    have closes := makeDayClose_of_room room
    have spec := nextCloseInstant_spec s.scl.closeHour s.scl.localTime
    have scl : (makeDayClose s).scl = s.scl.closed := by rw [closes, raise_scl]
    have fst : (makeDayClose s).fst = { s.fst with dayTotal := 0, saturated := false } := by rw [closes, raise_fst]
    refine ⟨_, _, exec_dayClose stage, (reachHolds_scl ..).trans scl, spec.1, spec.2.1, spec.2.2, (reachHolds_fst ..).trans fst, ?_, ?_,
      (makeDayClose_frame s).trans (reachHolds_frame ..), ?_, ?_⟩
    · rw [reachHolds_jnl, closes, raise_jnl]
      exact takeIn_jnl ..
    · rw [reachHolds_atu, closes, offerMoney_admitted ((one_le_freeSlots_iff _).2 room)]
      exact raise_atu_congr (s := { takeIn record s with scl := s.scl.closed, fst := { s.fst with dayTotal := 0, saturated := false } }) (t := takeIn record s)
        rfl (congrArg Scl.voyage (takeIn_scl record s)).symm _ _ _
    · rw [reachHolds_chu, makeDayClose_chu]
    · rw [reachHolds_scl, reachHolds_fst]
      exact reachesHolds_congr (sameForStages_makeDayClose s) (reachesHolds_reachHolds before _)
  case held =>
    have keeps := makeDayClose_of_full full
    have scl : (makeDayClose s).scl = { s.scl with closeHeld := true } := by rw [keeps]
    have fst : (makeDayClose s).fst = s.fst := by rw [keeps]; exact raise_fst ..
    refine ⟨_, exec_dayClose stage, (reachHolds_scl ..).trans scl, (reachHolds_fst ..).trans fst, ?_, ?_, (makeDayClose_frame s).trans (reachHolds_frame ..), ?_, ?_⟩
    · rw [reachHolds_jnl, keeps]; exact raise_jnl ..
    · rw [reachHolds_atu, keeps]
    · rw [reachHolds_chu, makeDayClose_chu]
    · have same := sameForStages_makeDayClose s
      rw [fst] at same
      rw [reachHolds_scl]
      exact reachesHolds_congr same (reachesHolds_reachHolds before _)
  case hold =>
    intro goesOn
    have run : exec .holdExpiry s = .next (reachHolds before rest (expireHold folio number s)) := exec_holdExpiry stage
    have frame : boundaryFrame s (reachHolds before rest (expireHold folio number s)) := (expireHold_frame folio number s).trans (reachHolds_frame ..)
    have cause (c : Cause) : (reachHolds before rest (expireHold folio number s)).cause c = (expireHold folio number s).cause c := cause_of_atu (reachHolds_atu ..)
    have next := reachHolds_goesOn before folio number rest s
    refine ⟨fun room => ?_, fun full => ?_⟩
    · have expires := expireHold_of_room inUse found room
      have clock : (takeIn (expireRecord folio h) s).scl = s.scl := takeIn_scl ..
      have fst : (takeIn (expireRecord folio h) s).fst = s.fst := takeIn_fst ..
      refine ⟨_, ((f.without number).nearTested s.fst.band).near, run, nearTested_near_iff (f.without number) s.fst.band, ?_, ?_, ?_, ?_, frame, ?_, ?_,
        fun c high near => ?_, next⟩
      · rw [reachHolds_fst, expires, nearTest_putFolio_fst, fst]
        rfl
      · rw [reachHolds_jnl, expires, nearTest_jnl, putFolio_jnl, takeIn_jnl]
        rfl
      · rw [reachHolds_scl, expires, nearTest_scl, putFolio_scl, clock]
      · rw [reachHolds_chu, expireHold_chu]
      · refine raisedWhen_of_cause ((cause _).trans ?_) (raisedWhen_takeIn (expireRecord folio h) s)
        rw [expires]
        exact cause_nearTest_other (by decide) ..
      · refine raisedWhen_of_cause (cause _) ?_
        rw [expires]
        exact raisedWhen_nearTest folio (f.without number) (cause_takeIn (by decide) ..) (by rw [clock]) (by rw [fst])
      · rw [cause, expires]
        exact (cause_nearTest_other near ..).trans (cause_takeIn high ..)
    · have expires := expireHold_of_full inUse found full
      refine ⟨_, run, ?_, ?_, ?_, ?_, ?_, frame, next⟩
      · rw [reachHolds_fst, expires, putFolio_fst, raise_fst]
        rfl
      · rw [reachHolds_jnl, expires, putFolio_jnl, raise_jnl]
      · rw [reachHolds_atu, expires, putFolio_atu]
      · rw [reachHolds_scl, expires, putFolio_scl, raise_scl]
      · rw [reachHolds_chu, expireHold_chu]

/-! ### ALL_ABOARD_EXPIRY and WALK_STEP (R161-R163) -/

theorem exec_allAboardExpiry {before : Nat} (stage : s.boundary = some ⟨before, .timer⟩) :
    exec .allAboardExpiry s = .next (finishBoundary before { s with pru := s.pru.expire }) := by
  have past : s.past 3 := State.past_of_stage stage
  show execAllAboardExpiry s = _
  simp only [execAllAboardExpiry, settle, settleHolds_of_past past, stage, passTimer]

theorem Pru.expire_of_due {r : Pru} {d : Nat} (due : r.timer = .running d ∨ r.timer = .armed d) : r.expire = { r with timer := .expiring d 1, newlyMarked := 0 } := by
  unfold Pru.expire
  rcases due with timer | timer <;> rw [timer]

/-- The displays do not look at how many persons are newly marked. -/
theorem displayed_newlyMarked {before n : Nat} {u : State} (shown : displayed before { u with pru := { u.pru with newlyMarked := n } } t) : displayed before u t := shown

theorem markMissing_of_marked {walk : Nat} {p : Person} (person : s.persons.get walk = some p) (ashore : p.att.presence = .ashore) (unmarked : p.att.missing = false) :
    markMissing walk s = { putPerson walk { p with att := { p.att with missing := true } } s with
      pru := { s.pru with missingCount := s.pru.missingCount + 1, newlyMarked := s.pru.newlyMarked + 1 } } := by
  simp only [markMissing, person, ashore, unmarked, and_self, if_true]

theorem markMissing_of_passed {walk : Nat} (passed : ¬ ∃ p, s.persons.get walk = some p ∧ p.att.presence = .ashore ∧ p.att.missing = false) : markMissing walk s = s := by
  unfold markMissing
  split
  next p person => exact if_neg fun ⟨ashore, unmarked⟩ => passed ⟨p, person, ashore, unmarked⟩
  next => rfl

theorem exec_walkStep (settled : s.boundary = none) {d walk : Nat} (timer : s.pru.timer = .expiring d walk) : exec .walkStep s =
    .next (if walk + 1 > 8000 then endWalk d (markMissing walk s) else setTimer (.expiring d (walk + 1)) (markMissing walk s)) := by
  show execWalkStep s = _
  simp only [execWalkStep, settle_none settled, timer]

/-- Settles O22: the expiry by `finishBoundary`, a walk step by `markMissing`. -/
theorem allAboardWalkMarksTheAshore : Obligations.AllAboardWalkMarksTheAshore := by
  refine ⟨fun s before d stage due => ?expiry, fun s d walk settled timer => ?walk⟩
  case expiry =>
    have expired := Pru.expire_of_due due
    have run := exec_allAboardExpiry stage
    rw [expired] at run
    obtain ⟨u, isU⟩ : ∃ u : State, u = { s with pru := { s.pru with timer := .expiring d 1, newlyMarked := 0 } } := ⟨_, rfl⟩
    rw [← isU] at run
    have timer : (finishBoundary before u).pru.timer = .expiring d 1 := by rw [finishBoundary_timer, isU]; rfl
    have shown := displayed_finishBoundary before u
    rw [timer] at shown
    have frame := finishBoundary_frame before u
    subst isU
    exact ⟨_, run, rfl, timer, finishBoundary_newlyMarked .., displayed_newlyMarked (n := 0) shown,
      boundaryFrame.trans (t := { s with pru := { s.pru with timer := .expiring d 1, newlyMarked := 0 } })
        ⟨rfl, rfl, rfl, rfl, rfl, rfl, rfl, rfl, fun _ _ => rfl, rfl, rfl, rfl⟩ frame,
      finishBoundary_scl .., finishBoundary_atu .., finishBoundary_chu .., finishBoundary_fst .., finishBoundary_jnl ..⟩
  case walk =>
    intro marks goesOn
    refine ⟨fun passed => ?_, fun p person ashore unmarked => ?_⟩
    · rw [exec_walkStep settled timer, markMissing_of_passed passed]
      rfl
    · rw [exec_walkStep settled timer, markMissing_of_marked person ashore unmarked]
      rfl

end Sys2Proof.Machine
end

section
/-! O40: ADD CABIN, REMOVE CABIN and SET CABIN STATE (R110, R124, R127, R128, R131, R132). -/
namespace Sys2Proof.Machine
variable {s t : State} {v : Values}

theorem putLsc_putLsc (i : Fin 8) (l m : Lsc) (s : State) : putLsc i m (putLsc i l s) = putLsc i m s := by
  simp only [putLsc, Vector.set_set]

/-! ### ADD CABIN (R127, R131, R132) -/

/-- The state of a cabin to add, IN SERVICE when the field is absent. -/
def Values.askedState (v : Values) : CabinState := (v.optNat 4).elim .inService cabinStateOf

/-- The record of a cabin to add (R127). -/
def Values.askedCabin (v : Values) (i : Fin 8) : Cabin :=
  { segment := i, node := v.nat 3, state := v.askedState, entry := .unknown, privacy := false, bindings := [] }

theorem turnFrame_of_state (address : Nat) (st : CabinState) : turnFrame address st.mode = .mode address st.mode := by cases st <;> rfl

theorem listNode_of_running {i : Fin 8} (running : s.lscs[i].running = true) (address : Nat) (st : CabinState) :
    listNode i address st s = putLsc i { s.lscs[i] with nodes := s.lscs[i].nodes.set address (newNode st true) } s := by
  simp only [listNode, show (s.lsc i).running = true from running, if_true]
  rw [running]
  rfl

/-- A node listed on an IDLE segment begins a cycle with its own turn (R132, R135). -/
theorem listNode_of_idle {i : Fin 8} (idle : s.lscs[i].running = false) (empty : s.lscs[i].nodes = []) (address : Nat) (st : CabinState) :
    listNode i address st s = formed (.segment i) (.mode address st.mode) (putLsc i
      { nodes := [(address, newNode st false)], windowMs := s.lscs[i].windowMs, cycle := s.lscs[i].cycle, running := true,
        turn := some { address := address, sent := st.mode, replaced := false, windowMs := s.lscs[i].windowMs, window := .toBegin, removed := false, heldCard := none },
        lastTurn := some address, waitMs := none } s) := by
  have nodes : (s.lsc i).nodes = [] := empty
  simp only [listNode, show (s.lsc i).running = false from idle, nodes, Bool.false_eq_true, if_false]
  simp only [beginCycle, lsc_putLsc_same, Lsc.nextDue, Table.set, Node.due, newNode, List.find?_cons, Bool.not_false, Bool.true_and,
    show (NodeState.unprobed != NodeState.silent) = true from rfl, Bool.true_or]
  rw [beginTurn, send_eq, lsc_putLsc_same, putLsc_putLsc, putLsc_putLsc, turnFrame_of_state]
  rfl

section
variable {i : Fin 8} (named : v.nat 2 = i.val)

theorem addCabin_of_inUse (inUse : (t.cau.cabins.get (v.nat 1)).isSome = true) : addCabin v t = ({ status := .conflict, payload := .field 1 }, t) := by
  simp only [addCabin, inUse, if_true]

include named
variable (unused : t.cau.cabins.get (v.nat 1) = none)
include unused

theorem addCabin_of_taken (taken : (t.cau.cabinAt i (v.nat 3)).isSome = true) : addCabin v t = ({ status := .conflict, payload := .field 3 }, t) := by
  simp only [addCabin, named, segmentOf_val, unused, taken, Option.isSome_none, Bool.false_eq_true, if_false, if_true]

variable (vacant : t.cau.cabinAt i (v.nat 3) = none)
include vacant

theorem addCabin_of_full (full : 3200 ≤ t.cau.cabins.length) : addCabin v t = refuse .tableFull t := by
  simp only [addCabin, named, segmentOf_val, unused, vacant, Option.isSome_none, Bool.false_eq_true, if_false]
  exact if_pos full

theorem addCabin_of_room (room : t.cau.cabins.length < 3200) :
    addCabin v t = ({ status := .done }, listNode i (v.nat 3) v.askedState (putCabin (v.nat 1) (v.askedCabin i) t)) := by
  simp only [addCabin, named, segmentOf_val, unused, vacant, Option.isSome_none, Bool.false_eq_true, if_false]
  refine (if_neg (Nat.not_le.2 room)).trans ?_
  unfold Values.askedCabin Values.askedState
  cases v.optNat 4 <;> rfl
end

/-! ### REMOVE CABIN (R128) -/

theorem removeCabin_of_inUse {c : Cabin} (inUse : t.cau.cabins.get (v.nat 1) = some c) :
    removeCabin v t = ({ status := .done, payload := .bindings c.bindings.length },
      { t with persons := (c.bindings.foldl (fun u b => dropFromPerson b.person (v.nat 1) u) t).persons,
               cau := { t.cau with cabins := t.cau.cabins.erase (v.nat 1) },
               lscs := t.lscs.set c.segment { t.lscs[c.segment] with
                 nodes := t.lscs[c.segment].nodes.erase c.node,
                 turn := t.lscs[c.segment].turn.map (fun x => if x.address = c.node then { x with removed := true } else x) } }) := by
  simp only [removeCabin, inUse]
  rw [dropFromPersons_frame]
  rfl

/-! ### SET CABIN STATE (R124) -/

/-- The nodes of a segment with a pending mode set where the node is listed (R141). -/
def modeSet (m : LockMode) (a : Nat) (nodes : Table Node) : Table Node :=
  match nodes.get a with
  | some n => nodes.set a { n with pendingMode := m }
  | none => nodes

theorem modeSet_get (m : LockMode) (a : Nat) (nodes : Table Node) (node : Nat) :
    (modeSet m a nodes).get node = (nodes.get node).map (fun x => if a = node then { x with pendingMode := m } else x) := by
  unfold modeSet
  cases listed : nodes.get a with
  | none =>
    by_cases same : a = node
    · subst same; simp [listed]
    · simp [same]
  | some n =>
    by_cases same : a = node
    · subst same; simp [listed]
    · simp [same, Table.get_set_other _ _ _ _ (Ne.symm same)]

/-- The segment when the pending mode of a node is set (R141). -/
def Lsc.modeSetAt (m : LockMode) (a : Nat) (l : Lsc) : Lsc := { l with nodes := modeSet m a l.nodes, turn := l.turn.map (·.replacedAt a) }

theorem setOneCabin_eq (n : Nat) (c : Cabin) (st : CabinState) (s : State) :
    setOneCabin n c st s = putLsc c.segment (s.lscs[c.segment].modeSetAt st.mode c.node) (putCabin n { c with state := st } s) := by
  rw [setOneCabin, replaceMode_eq]
  rfl

theorem setCabinState_of_one {n : Nat} (one : v.opt 2 = some (n : Int)) {c : Cabin} (inUse : t.cau.cabins.get n = some c) :
    setCabinState v t = ({ status := .done, payload := .cabinsSet 1 }, setOneCabin n c (cabinStateOf (v.nat 4)) t) := by
  simp only [setCabinState, Values.optNat_of_opt one, inUse]

theorem setCabinState_of_unknown {n : Nat} (one : v.opt 2 = some (n : Int)) (unused : t.cau.cabins.get n = none) :
    setCabinState v t = refuse .notFound t := by
  simp only [setCabinState, Values.optNat_of_opt one, unused]

theorem setCabinState_of_segment (all : v.opt 2 = none) {i : Fin 8} (named : v.nat 3 = i.val) :
    setCabinState v t = ({ status := .done, payload := .cabinsSet (t.cau.onSegment i).length },
      (t.cau.onSegment i).foldl (fun t e => setOneCabin e.1 e.2 (cabinStateOf (v.nat 4)) t) t) := by
  simp only [setCabinState, Values.optNat_of_none all, named, segmentOf_val]

/-! ### SET CABIN STATE of a whole segment -/

section
variable {st : CabinState} {i : Fin 8} {es : List (Nat × Cabin)}

/-- The cabins of a segment set one after another: the cabin table and that segment change, and nothing else. -/
theorem setCabins_eq (onSegment : ∀ e ∈ es, e.2.segment = i) (s : State) :
    es.foldl (fun t e => setOneCabin e.1 e.2 st t) s = putLsc i (es.foldl (fun l e => l.modeSetAt st.mode e.2.node) s.lscs[i])
      { s with cau := { s.cau with cabins := es.foldl (fun t e => t.set e.1 { e.2 with state := st }) s.cau.cabins } } := by
  induction es generalizing s with
  | nil => simp only [List.foldl_nil, putLsc, Fin.getElem_fin, Vector.set_getElem_self]
  | cons e es ih =>
    have here : e.2.segment = i := onSegment e List.mem_cons_self
    subst here
    rw [List.foldl_cons, ih fun d later => onSegment d (List.mem_cons_of_mem _ later), setOneCabin_eq, List.foldl_cons, List.foldl_cons]
    rw [show (putLsc e.2.segment (s.lscs[e.2.segment].modeSetAt st.mode e.2.node) (putCabin e.1 { e.2 with state := st } s)).lscs[e.2.segment]
        = s.lscs[e.2.segment].modeSetAt st.mode e.2.node
      from lsc_putLsc_same ..]
    simp only [putLsc, Vector.set_set]
    rfl

theorem modeSets_nodes (m : LockMode) (l : Lsc) (node : Nat) : (es.foldl (fun l e => l.modeSetAt m e.2.node) l).nodes.get node =
    (l.nodes.get node).map (fun x => if es.any (fun e => e.2.node == node) then { x with pendingMode := m } else x) := by
  induction es generalizing l with
  | nil => simp
  | cons e es ih =>
    rw [List.foldl_cons, ih, Lsc.modeSetAt, modeSet_get, Option.map_map]
    congr 1; funext x
    rw [List.any_cons]
    by_cases here : e.2.node = node
    · simp [here]
    · simp only [here, beq_false_of_ne here, Bool.false_or, if_false, Function.comp_apply]

theorem modeSets_turn (m : LockMode) (l : Lsc) : es.foldl (fun l e => l.modeSetAt m e.2.node) l =
    { l with nodes := (es.foldl (fun l e => l.modeSetAt m e.2.node) l).nodes,
             turn := l.turn.map (fun x => if es.any (fun e => e.2.node == x.address) then { x with replaced := true } else x) } := by
  induction es generalizing l with
  | nil => simp
  | cons e es ih =>
    rw [List.foldl_cons, ih]
    simp only [Lsc.modeSetAt, Option.map_map]
    congr 2; funext x
    rw [List.any_cons, Function.comp_apply, Turn.replacedAt]
    by_cases here : e.2.node = x.address
    · simp [here]
    · simp only [Ne.symm here, beq_false_of_ne here, Bool.false_or, if_false]

/-- The cabins set one after another, each of them with a record that agrees with the table's but for the state. -/
theorem statesSet_get {cabins : Table Cabin} (held : ∀ e ∈ es, ∃ c, cabins.get e.1 = some c ∧ { e.2 with state := st } = { c with state := st }) (n : Nat) :
    (es.foldl (fun t e => Table.set t e.1 { e.2 with state := st }) cabins).get n =
      (cabins.get n).map (fun c => if es.any (fun e => e.1 == n) then { c with state := st } else c) := by
  induction es generalizing cabins with
  | nil => simp
  | cons e es ih =>
    obtain ⟨c, here, same⟩ := held e List.mem_cons_self
    rw [List.foldl_cons, ih fun d later => ?_]
    · rw [Table.get_set]
      by_cases own : n = e.1
      · subst own; simp [here, same]
      · rw [if_neg own]
        congr 1; funext x
        rw [List.any_cons, beq_false_of_ne (Ne.symm own), Bool.false_or]
    · obtain ⟨x, other, agrees⟩ := held d (List.mem_cons_of_mem _ later)
      rw [Table.get_set]
      by_cases own : d.1 = e.1
      · refine ⟨_, if_pos own, agrees.trans ?_⟩
        rw [own, here] at other
        cases other
        exact same.symm
      · exact ⟨x, (if_neg own).trans other, agrees⟩
end

theorem mem_onSegment {c : Cau} {i : Fin 8} {e : Nat × Cabin} : e ∈ c.onSegment i ↔ e ∈ c.cabins ∧ e.2.segment = i := by
  simp [Cau.onSegment]

theorem onSegment_any_number {c : Cau} (wf : c.cabins.wf = true) {n : Nat} {x : Cabin} (get : c.cabins.get n = some x) (i : Fin 8) :
    (c.onSegment i).any (fun e => e.1 == n) = true ↔ x.segment = i := by
  simp only [List.any_eq_true, mem_onSegment, beq_iff_eq]
  refine ⟨fun ⟨e, ⟨entry, here⟩, named⟩ => ?_, fun here => ⟨(n, x), ⟨Table.mem_of_get get, here⟩, rfl⟩⟩
  have same := Table.get_of_mem wf entry
  rw [named, get] at same
  cases same
  exact here

theorem onSegment_any_node (c : Cau) (i : Fin 8) (node : Nat) : (c.onSegment i).any (fun e => e.2.node == node) = (c.cabinAt i node).isSome := by
  rw [Cau.onSegment, List.any_filter, Cau.cabinAt, List.isSome_find?]

/-- SET CABIN STATE of a segment (R124, R141): its cabins, their nodes and the turn in progress. -/
theorem setSegment_eq (st : CabinState) (i : Fin 8) (wf : s.cau.cabins.wf = true) :
    let u := (s.cau.onSegment i).foldl (fun t e => setOneCabin e.1 e.2 st t) s
    (∀ n, u.cau.cabins.get n = (s.cau.cabins.get n).map (fun c => if c.segment = i then { c with state := st } else c))
    ∧ (∀ node, u.lscs[i].nodes.get node = (s.lscs[i].nodes.get node).map (fun x => if (s.cau.cabinAt i node).isSome then { x with pendingMode := st.mode } else x))
    ∧ u = { s with cau := { s.cau with cabins := u.cau.cabins },
                   lscs := s.lscs.set i { s.lscs[i] with
                     nodes := u.lscs[i].nodes,
                     turn := s.lscs[i].turn.map (fun x => if (s.cau.cabinAt i x.address).isSome then { x with replaced := true } else x) } } := by
  have form := setCabins_eq (st := st) (fun e (listed : e ∈ s.cau.onSegment i) => (mem_onSegment.1 listed).2) s
  have segment := modeSets_turn (es := s.cau.onSegment i) st.mode s.lscs[i]
  simp only [onSegment_any_node] at segment
  intro u
  have cabins : u.cau.cabins = (s.cau.onSegment i).foldl (fun t e => Table.set t e.1 { e.2 with state := st }) s.cau.cabins := by
    show ((s.cau.onSegment i).foldl _ s).cau.cabins = _
    rw [form]; rfl
  have lsc : u.lscs[i] = (s.cau.onSegment i).foldl (fun l e => l.modeSetAt st.mode e.2.node) s.lscs[i] := by
    show ((s.cau.onSegment i).foldl _ s).lscs[i] = _
    rw [form]
    exact lsc_putLsc_same ..
  refine ⟨fun n => ?_, fun node => ?_, ?_⟩
  · rw [cabins, statesSet_get fun e listed => ⟨e.2, Table.get_of_mem wf (mem_onSegment.1 listed).1, rfl⟩]
    refine Option.map_congr fun c get => ?_
    exact if_congr (onSegment_any_number wf get i) rfl rfl
  · rw [lsc, modeSets_nodes]
    simp only [onSegment_any_node]
  · rw [cabins, lsc, ← segment]
    exact form

/-- Settles O40: the branches of ADD CABIN by `listNode_of_running` and `listNode_of_idle`, a whole segment by `setSegment_eq`. -/
theorem cabinRequestsChangeTableAndPollList : Obligations.CabinRequestsChangeTableAndPollList := by
  intro s tag body v ready t modeOf
  have modes : modeOf = CabinState.mode := by funext st; cases st <;> rfl
  refine ⟨fun decoded i named => ?add, fun decoded => ⟨fun unused => request_answered ready decoded ?unknown, fun c inUse => ?remove⟩, fun judged => ?set⟩
  case add =>
    intro n node st l c listed u
    refine ⟨fun inUse => request_answered ready decoded (addCabin_of_inUse (t := t) inUse),
      fun unused taken => request_answered ready decoded (addCabin_of_taken (t := t) named unused taken),
      fun unused vacant full => request_answered ready decoded (addCabin_of_full (t := t) named unused vacant full),
      fun unused vacant room running => request_answered ready decoded ((addCabin_of_room (t := t) named unused vacant room).trans ?_),
      fun unused vacant room idle empty => ?_⟩
    · rw [listNode_of_running (s := putCabin (v.nat 1) (v.askedCabin i) t) running]
      simp only [u, listed, modes]
      rfl
    · intro turn running
      refine request_answered ready decoded ((addCabin_of_room (t := t) named unused vacant room).trans ?_)
      rw [listNode_of_idle (s := putCabin (v.nat 1) (v.askedCabin i) t) idle empty]
      have put : putLsc i running (u false) = putLsc i running (putCabin (v.nat 1) (v.askedCabin i) t) :=
        putLsc_putLsc i { l with nodes := l.nodes.set node (listed false) } running (putCabin (v.nat 1) (v.askedCabin i) t)
      rw [put]
      simp only [running, turn, listed, modes]
      rfl
  case unknown => simp only [removeCabin, show (heard .service s).cau.cabins.get (v.nat 1) = none from unused]; rfl
  case remove =>
    intro l
    refine ⟨_, request_answered ready decoded (removeCabin_of_inUse (t := t) inUse), fun m => ?_, rfl⟩
    exact dropFromPersons_persons_get (v.nat 1) c.bindings t m
  case set =>
    intro st
    refine ⟨fun n one => ⟨fun unused => judged_answered ready judged (setCabinState_of_unknown (t := t) one unused), fun c inUse => ?_⟩, fun all wf i named => ?_⟩
    · intro u l turn
      have run := judged_answered (tag := tag) (code := 0x44) ready judged (setCabinState_of_one (t := t) one inUse)
      rw [setOneCabin_eq] at run
      refine ⟨fun unlisted => run.trans ?_, fun x listed => run.trans ?_⟩
      · rw [Lsc.modeSetAt, modeSet, show t.lscs[c.segment].nodes.get c.node = none from unlisted]
        rfl
      · rw [Lsc.modeSetAt, modeSet, show t.lscs[c.segment].nodes.get c.node = some x from listed, modes]
        rfl
    · have run := judged_answered (tag := tag) (code := 0x44) ready judged (setCabinState_of_segment (t := t) all named)
      rw [modes]
      obtain ⟨cabins, nodes, rest⟩ := setSegment_eq (s := t) st i wf
      refine ⟨_, run.trans ?_, cabins, nodes, rest⟩
      rw [List.countP_eq_length_filter]
      rfl

end Sys2Proof.Machine
end

section
/-! O32: rounding and pricing (R44-R52). -/
namespace Sys2Proof.Machine

/-! ### Rounding (R44) -/

section
variable {rounding : Rounding} {x d : Int}

/-- The three cases of a rounding: below a half, above it, and a tie by the venue's setting. -/
theorem roundBy_cases (rounding : Rounding) (x : Int) (divisor : d = 16777216 ∨ d = 10000) :
    (2 * (x % d) < d ∧ roundBy rounding x d = x / d) ∨ (d < 2 * (x % d) ∧ roundBy rounding x d = x / d + 1)
    ∨ (2 * (x % d) = d ∧ rounding = .tiesUp ∧ roundBy rounding x d = x / d + 1)
    ∨ (2 * (x % d) = d ∧ rounding = .halfEven ∧ roundBy rounding x d % 2 = 0 ∧ (roundBy rounding x d = x / d ∨ roundBy rounding x d = x / d + 1)) := by
  have half : 2 * (d / 2) = d := by omega
  unfold roundBy
  dsimp only
  by_cases below : x % d < d / 2
  · exact .inl ⟨by omega, if_pos below⟩
  · by_cases above : d / 2 < x % d
    · exact .inr (.inl ⟨by omega, by rw [if_neg below, if_pos above]⟩)
    · rw [if_neg below, if_neg above]
      cases rounding with
      | tiesUp => exact .inr (.inr (.inl ⟨by omega, rfl, rfl⟩))
      | halfEven =>
        refine .inr (.inr (.inr ⟨by omega, rfl, ?_⟩))
        dsimp only
        generalize x / d = q
        by_cases even : q % 2 = 0
        · rw [if_pos even]; exact ⟨even, .inl rfl⟩
        · rw [if_neg even]; exact ⟨by omega, .inr rfl⟩

variable (divisor : d = 16777216 ∨ d = 10000)
include divisor

theorem roundBy_near (rounding : Rounding) (x : Int) : -d ≤ 2 * (x - d * roundBy rounding x d) ∧ 2 * (x - d * roundBy rounding x d) ≤ d := by
  have cases := roundBy_cases rounding x divisor
  generalize roundBy rounding x d = r at cases ⊢
  rcases divisor with rfl | rfl <;> omega

theorem roundBy_sign (rounding : Rounding) (x : Int) : (0 ≤ x → 0 ≤ roundBy rounding x d) ∧ (x ≤ 0 → roundBy rounding x d ≤ 0) := by
  have cases := roundBy_cases rounding x divisor
  generalize roundBy rounding x d = r at cases ⊢
  rcases divisor with rfl | rfl <;> omega

theorem roundBy_neg (symmetric : rounding = .halfEven ∨ 2 * (x % d) ≠ d) : roundBy rounding (-x) d = -roundBy rounding x d := by
  have here := roundBy_cases rounding x divisor
  have there := roundBy_cases rounding (-x) divisor
  generalize roundBy rounding x d = r at here ⊢
  generalize roundBy rounding (-x) d = q at there ⊢
  rcases symmetric with rfl | untied
  · simp only [reduceCtorEq, false_and, and_false, false_or, true_and] at here there
    rcases divisor with rfl | rfl <;> omega
  · rcases divisor with rfl | rfl <;> omega

theorem roundBy_neg_of_tie (ties : rounding = .tiesUp) (tie : 2 * (x % d) = d) : roundBy rounding (-x) d = 1 - roundBy rounding x d := by
  have here := roundBy_cases rounding x divisor
  have there := roundBy_cases rounding (-x) divisor
  generalize roundBy rounding x d = r at here ⊢
  generalize roundBy rounding (-x) d = q at there ⊢
  subst ties
  simp only [reduceCtorEq, false_and, and_false, or_false, true_and] at here there
  rcases divisor with rfl | rfl <;> omega
end

/-! ### Pricing (R45-R52) -/

/-- The amount fits a money field in size (R49, R50). -/
def fitsMoney (x : Int) : Prop := -8388607 ≤ x ∧ x ≤ 8388607

theorem outOfRange_eq_false_iff (x : Int) : outOfRange x = false ↔ fitsMoney x := by
  simp only [outOfRange, Config.maxMoney, Bool.or_eq_false_iff, decide_eq_false_iff_not, fitsMoney]
  omega

theorem outOfRange_eq_true_iff (x : Int) : outOfRange x = true ↔ ¬ fitsMoney x := by
  rw [← outOfRange_eq_false_iff, Bool.not_eq_false]

/-- A line whose base amount and total fit (R49). -/
def LineAmounts.fits (a : LineAmounts) : Prop := fitsMoney a.b ∧ fitsMoney a.l

section
variable {p : Pricing} {rate : Nat} {lines : List Line}

theorem priceLines_cons_of_fits {l : Line} (fits : (l.amounts p rate).fits) (i : Nat) (ls : List Line) :
    priceLines p rate i (l :: ls) = (priceLines p rate (i + 1) ls).map (l.amounts p rate :: ·) := by
  simp only [priceLines, (outOfRange_eq_false_iff _).2 fits.1, (outOfRange_eq_false_iff _).2 fits.2, Bool.false_eq_true, if_false]
  cases priceLines p rate (i + 1) ls <;> rfl

theorem priceLines_of_fits (fits : ∀ a ∈ lines.map (·.amounts p rate), a.fits) (i : Nat) :
    priceLines p rate i lines = .ok (lines.map (·.amounts p rate)) := by
  induction lines generalizing i with
  | nil => rfl
  | cons l ls ih =>
    rw [priceLines_cons_of_fits (fits _ List.mem_cons_self), ih (fun a later => fits a (List.mem_cons_of_mem _ later))]
    rfl

theorem priceLines_eq_ok {as : List LineAmounts} {i : Nat} (priced : priceLines p rate i lines = .ok as) :
    as = lines.map (·.amounts p rate) ∧ ∀ a ∈ lines.map (·.amounts p rate), a.fits := by
  induction lines generalizing i as with
  | nil => cases priced; exact ⟨rfl, nofun⟩
  | cons l ls ih =>
    unfold priceLines at priced
    dsimp only at priced
    split at priced
    next => cases priced
    next base =>
      split at priced
      next => cases priced
      next total =>
        split at priced
        next => cases priced
        next rest later =>
          cases priced
          obtain ⟨rfl, fits⟩ := ih later
          refine ⟨rfl, fun a among => ?_⟩
          rcases List.mem_cons.1 among with rfl | among
          · exact ⟨(outOfRange_eq_false_iff _).1 (Bool.eq_false_iff.2 base), (outOfRange_eq_false_iff _).1 (Bool.eq_false_iff.2 total)⟩
          · exact fits a among

/-- The first line that does not fit is named by its index (R49). -/
theorem priceLines_error {k : Nat} {l : Line} (line : lines[k]? = some l) (before : ∀ a ∈ (lines.map (·.amounts p rate)).take k, a.fits) (i : Nat) :
    (¬ fitsMoney (l.amounts p rate).b → priceLines p rate i lines = .error ⟨k + i, .b⟩)
    ∧ (fitsMoney (l.amounts p rate).b → ¬ fitsMoney (l.amounts p rate).l → priceLines p rate i lines = .error ⟨k + i, .l⟩) := by
  induction lines generalizing k i with
  | nil => cases line
  | cons m ls ih =>
    cases k with
    | zero =>
      cases line
      simp only [priceLines, Nat.zero_add]
      exact ⟨fun base => if_pos ((outOfRange_eq_true_iff _).2 base), fun base total => by
        rw [if_neg (Bool.eq_false_iff.1 ((outOfRange_eq_false_iff _).2 base)), if_pos ((outOfRange_eq_true_iff _).2 total)]⟩
    | succ k =>
      obtain ⟨ofBase, ofTotal⟩ := ih line (fun a among => before a (List.mem_cons_of_mem _ among)) (i + 1)
      have place : k + (i + 1) = k + 1 + i := by omega
      rw [place] at ofBase ofTotal
      rw [priceLines_cons_of_fits (before _ List.mem_cons_self)]
      exact ⟨fun base => by rw [ofBase base]; rfl, fun base total => by rw [ofTotal base total]; rfl⟩

theorem sumCheck_of_fits {as : List LineAmounts} (s : fitsMoney (as.map (·.l)).sum) (b : fitsMoney (as.map (·.b)).sum) (g : fitsMoney (as.map (·.g)).sum)
    (t : fitsMoney (as.map (·.t)).sum) : sumCheck as = .ok { s := (as.map (·.l)).sum, g := (as.map (·.g)).sum, t := (as.map (·.t)).sum } := by
  simp only [sumCheck, sumOf, (outOfRange_eq_false_iff _).2 s, (outOfRange_eq_false_iff _).2 b, (outOfRange_eq_false_iff _).2 g,
    (outOfRange_eq_false_iff _).2 t, Bool.false_eq_true, if_false]

theorem sumCheck_eq_ok {as : List LineAmounts} {sums : Sums} (checked : sumCheck as = .ok sums) :
    sums = { s := (as.map (·.l)).sum, g := (as.map (·.g)).sum, t := (as.map (·.t)).sum }
    ∧ fitsMoney (as.map (·.l)).sum ∧ fitsMoney (as.map (·.b)).sum ∧ fitsMoney (as.map (·.g)).sum ∧ fitsMoney (as.map (·.t)).sum := by
  simp only [← outOfRange_eq_false_iff]
  unfold sumCheck at checked
  split at checked
  next => cases checked
  next s =>
    split at checked
    next => cases checked
    next b =>
      split at checked
      next => cases checked
      next g =>
        split at checked
        next => cases checked
        next t =>
          cases checked
          exact ⟨rfl, Bool.eq_false_iff.2 s, Bool.eq_false_iff.2 b, Bool.eq_false_iff.2 g, Bool.eq_false_iff.2 t⟩

theorem priceCharge_of_fits (fits : ∀ a ∈ lines.map (·.amounts p rate), a.fits) : priceCharge p rate lines = sumCheck (lines.map (·.amounts p rate)) := by
  rw [priceCharge, priceLines_of_fits fits]

theorem priceCharge_eq_ok {sums : Sums} (priced : priceCharge p rate lines = .ok sums) :
    (∀ a ∈ lines.map (·.amounts p rate), a.fits) ∧ sumCheck (lines.map (·.amounts p rate)) = .ok sums := by
  unfold priceCharge at priced
  split at priced
  next => cases priced
  next as lined =>
    obtain ⟨rfl, fits⟩ := priceLines_eq_ok lined
    exact ⟨fits, priced⟩

theorem priceTab_eq_ok_iff {sums : Sums} : priceTab p rate lines = .ok sums ↔ priceCharge p rate lines = .ok sums ∧ 0 ≤ sums.s := by
  unfold priceTab
  cases priced : priceCharge p rate lines with
  | error f => simp
  | ok found =>
    dsimp only
    split
    next below => exact ⟨nofun, fun ⟨same, above⟩ => by cases same; omega⟩
    next above => exact ⟨fun same => ⟨same, by cases same; omega⟩, fun both => both.1⟩
end

theorem sum_lineTotals (as : List LineAmounts) : (as.map (·.l)).sum = (as.map (·.b)).sum + (as.map (·.g)).sum + (as.map (·.t)).sum := by
  induction as with
  | nil => rfl
  | cons a as ih =>
    rw [List.map_cons, List.sum_cons, ih]
    simp only [LineAmounts.l, List.map_cons, List.sum_cons]
    omega

/-- Settles O32: the rounding by `roundBy_cases`, a charge by `priceLines_of_fits` and `sumCheck_of_fits`. -/
theorem pricingRoundsStageByStage : Obligations.PricingRoundsStageByStage := by
  refine ⟨fun rounding x d divisor => ?round, fun l p rate => ?line, fun p rate lines => ?charge⟩
  case round =>
    have cases := roundBy_cases rounding x divisor
    refine ⟨fun below => ?_, fun above => ?_, fun tie up => ?_, fun tie even => ?_, (roundBy_near divisor rounding x).1, (roundBy_near divisor rounding x).2,
      (roundBy_sign divisor rounding x).1, (roundBy_sign divisor rounding x).2, roundBy_neg divisor, roundBy_neg_of_tie divisor⟩
    · omega
    · omega
    · subst up; simp only [reduceCtorEq, false_and, and_false, or_false, true_and] at cases; omega
    · subst even; simp only [reduceCtorEq, false_and, and_false, false_or, true_and] at cases; omega
  case line =>
    refine ⟨?_, rfl, rfl, rfl⟩
    show l.base p rate = _
    unfold Line.base
    cases p.currency <;> rfl
  case charge =>
    intro amounts s b g t fits
    refine ⟨sum_lineTotals amounts, fun each ofS ofB ofG ofT => (priceCharge_of_fits each).trans (sumCheck_of_fits ofS ofB ofG ofT), fun sums priced => ?_,
      fun i l a line named before => ?_, fun each ofS => (priceCharge_of_fits each).trans (if_pos ((outOfRange_eq_true_iff _).2 ofS)), fun sums => priceTab_eq_ok_iff⟩
    · obtain ⟨each, checked⟩ := priceCharge_eq_ok priced
      obtain ⟨same, ofS, ofB, ofG, ofT⟩ := sumCheck_eq_ok checked
      exact ⟨same, each, ofS, ofB, ofG, ofT⟩
    · subst named
      obtain ⟨ofBase, ofTotal⟩ := priceLines_error line before 1
      exact ⟨fun base => by rw [priceCharge, ofBase base], fun base total => by rw [priceCharge, ofTotal base total]⟩

end Sys2Proof.Machine
end

section
/-! O33: till frames, their faults and the gate (R88, R92, R93). -/
namespace Sys2Proof.Machine

section
variable {s : State} {kind : TillKind} {sequence : Byte} {body : List Byte}

theorem exec_tillCommand (kind : TillKind) (sequence : Byte) (body : List Byte) (s : State) :
    exec (tillCommand kind sequence body) s = .next (tillFrame kind sequence body s) := by
  cases kind <;> rfl

/-! ### Faults (R88) -/

/-- A till frame at fault is answered MALFORMED on the state that has heard it. -/
theorem tillFrame_malformed {f : TillFault} (settled : s.boundary = none) (read : tillRequestOf kind body = .error f) :
    tillFrame kind sequence body s = answerMalformed (kind.code ||| 0x80) sequence body f (heard .till s) := by
  simp only [tillFrame, read, received_none settled]
  rfl

/-- A till frame with no fault comes to the gate. -/
theorem tillFrame_gated {r : TillRequest} (settled : s.boundary = none) (read : tillRequestOf kind body = .ok r) :
    tillFrame kind sequence body s = tillGate sequence r (heard .till s) := by
  simp only [tillFrame, read, received_none settled]

theorem exec_malformed {kind : Byte} (settled : s.boundary = none) (unknown : knownTillRequest kind = false) :
    exec (.malformed kind sequence body) s = .next (answerMalformed (kind ||| 0x80) sequence body ⟨0, 0⟩ (heard .till s)) := by
  show execMalformed kind sequence body s = _
  simp only [execMalformed, unknown, Bool.false_eq_true, if_false, received_none settled]

theorem tillRequestOf_bad_length (short : tillLengthOk kind body = false) : tillRequestOf kind body = .error ⟨0, 0⟩ := by
  simp only [tillRequestOf, short, Bool.false_eq_true, if_false]

theorem tillRequestOf_bad_till (long : tillLengthOk kind body = true) (beyond : 128 ≤ leNat (slice body 0 1)) :
    tillRequestOf kind body = .error ⟨1, 0⟩ := by
  simp only [tillRequestOf, long, if_true, Nat.not_lt.2 beyond, dite_false]

theorem tillRequestOf_bad_serial (long : tillLengthOk kind body = true) (till : leNat (slice body 0 1) < 128)
    (serial : leNat (slice body 1 4) = 0 ∨ leNat (slice body 1 4) = 4294967295) : tillRequestOf kind body = .error ⟨2, 0⟩ := by
  simp only [tillRequestOf, long, if_true, till, dite_true, serial]

/-- A request is of the kind its frame asked for. -/
theorem tillAskOf_kind {ask : TillAsk} (read : tillAskOf kind body = .ok ask) : ask.kind = kind := by
  cases kind with
  | charge =>
    unfold tillAskOf at read
    dsimp only at read
    split at read <;> cases read
    rfl
  | openTab =>
    unfold tillAskOf at read
    dsimp only at read
    split at read <;> cases read
    rfl
  | closeTab =>
    unfold tillAskOf at read
    dsimp only at read
    split at read
    · split at read <;> cases read
      rfl
    · cases read
  | void => cases read; rfl

theorem tillRequestOf_kind {r : TillRequest} (read : tillRequestOf kind body = .ok r) : r.ask.kind = kind := by
  unfold tillRequestOf at read
  dsimp only at read
  split at read
  · split at read
    · split at read
      · cases read
      · split at read
        next => cases read
        next asked => cases read; exact tillAskOf_kind asked
    · cases read
  · cases read

/-! ### The gate (R92) -/

theorem Till.repeats_eq_none {t : Till} : t.repeats sequence = none ↔ (t.lastSequence = some sequence → t.lastDecision = none) := by
  unfold Till.repeats
  split
  next last => exact ⟨fun h _ => h, fun h => h last⟩
  next other => exact ⟨fun _ last => absurd last other, fun _ => rfl⟩

section
variable {r : TillRequest}

theorem tillGate_unconfigured (bare : (s.till r.till).venue = none) :
    tillGate sequence r s = tillAnswered (r.ask.kind.code ||| 0x80) sequence (BitVec.ofNat 8 r.till.val) false (bareAnswer .notConfigured) s := by
  simp only [tillGate, bare]
  rfl

variable {vn : Fin 64} (venue : (s.till r.till).venue = some vn)
include venue

theorem tillGate_repeated {d : Decision} (last : (s.till r.till).lastSequence = some sequence) (decision : (s.till r.till).lastDecision = some d) :
    tillGate sequence r s = tillAnswered (d.kind.code ||| 0x80) sequence (BitVec.ofNat 8 r.till.val) true d.body s := by
  simp only [tillGate, venue, Till.repeats, last, if_true, decision]
  rfl

variable (fresh : (s.till r.till).lastSequence = some sequence → (s.till r.till).lastDecision = none)
include fresh

theorem tillGate_busy (busy : (s.till r.till).working ≠ none) :
    tillGate sequence r s = tillAnswered (r.ask.kind.code ||| 0x80) sequence (BitVec.ofNat 8 r.till.val) false (bareAnswer .busy) s := by
  simp only [tillGate, venue, Till.repeats_eq_none.2 fresh, Option.isSome_iff_ne_none.2 busy, if_true]
  rfl

variable (idle : (s.till r.till).working = none)
include idle

theorem tillGate_loading (loading : s.slc.service = .loading) :
    tillGate sequence r s = tillAnswered (r.ask.kind.code ||| 0x80) sequence (BitVec.ofNat 8 r.till.val) false (bareAnswer .notServing) s := by
  simp only [tillGate, venue, Till.repeats_eq_none.2 fresh, idle, Option.isSome_none, Bool.false_eq_true, if_false, loading, if_true]
  rfl

theorem tillGate_serving (serving : s.slc.service = .serving) : tillGate sequence r s = take r.till vn sequence r s := by
  simp only [tillGate, venue, Till.repeats_eq_none.2 fresh, idle, Option.isSome_none, Bool.false_eq_true, if_false, serving, reduceCtorEq]

end

/-- Settles O33: the faults by `tillFrame_malformed`, the gate by `tillGate_*`. -/
theorem tillFramesAreAnsweredOrGated : Obligations.TillFramesAreAnsweredOrGated := by
  refine ⟨fun s sequence settled => ?faults, fun s kind sequence body r settled read => ?gate⟩
  case faults =>
    intro reports
    refine ⟨fun kind till rest f read => ?_, fun kind => ⟨BitVec.ofNat 8 s.freeValue, ?_⟩, fun kind till rest unknown => exec_malformed settled unknown,
      fun kind unknown => ⟨BitVec.ofNat 8 s.freeValue, exec_malformed settled unknown⟩, fun _ _ => tillRequestOf_bad_length,
      fun _ _ => tillRequestOf_bad_till, fun _ _ => tillRequestOf_bad_serial⟩
    · rw [exec_tillCommand, tillFrame_malformed settled read]
      rfl
    · have short : tillLengthOk kind [] = false := by cases kind <;> rfl
      rw [exec_tillCommand, tillFrame_malformed settled (tillRequestOf_bad_length short)]
      rfl
  case gate =>
    intro till number bare
    obtain rfl := tillRequestOf_kind read
    rw [exec_tillCommand, tillFrame_gated settled read]
    refine ⟨fun none => congrArg _ (tillGate_unconfigured none), fun configured => ?_⟩
    obtain ⟨vn, venue⟩ := Option.ne_none_iff_exists'.1 configured
    exact ⟨fun d last decision => congrArg _ (tillGate_repeated (s := heard .till s) venue last decision),
      fun fresh busy => congrArg _ (tillGate_busy (s := heard .till s) venue fresh busy),
      fun fresh idle loading => congrArg _ (tillGate_loading (s := heard .till s) venue fresh idle loading)⟩

end

end Sys2Proof.Machine
end

section
/-! O34 and O35: the takes, check by check (R101-R103, R107). -/
namespace Sys2Proof.Machine

section
variable {s : State} {n : Fin 128} {vn : Fin 64} {sequence : Byte} {r : TillRequest} {f : Found}

/-! ### A take's end -/

theorem take_of_declined {d : Decline} {u : State} (checked : takeChecks n vn sequence r s = (.declined d, u)) :
    take n vn sequence r s = decided n r.ask.kind sequence (declinedBody d.reason d.detail1 d.detail2 r.ask.holdNamed) u := by
  simp only [take, checked]
  rfl

theorem take_of_passed {w : Waiting} {u : State} (checked : takeChecks n vn sequence r s = (.passed w, u)) : take n vn sequence r s = madeWorking n w u := by
  simp only [take, checked]
  rfl

/-! ### Checks 1 and 2 (R101) -/

theorem takeChecks_closed (closed : (s.venue vn).isOpen = false) : takeChecks n vn sequence r s = (.declined { reason := .venueClosed }, s) := by
  simp only [takeChecks, closed, if_true]

section
variable (isOpen : (s.venue vn).isOpen = true)
include isOpen

theorem takeChecks_unknown (unknown : lookup r.serial s = none) : takeChecks n vn sequence r s = (.declined { reason := .unknownCard }, s) := by
  simp only [takeChecks, isOpen, Bool.true_eq_false, if_false, unknown]

variable (found : lookup r.serial s = some f)
include found

theorem takeChecks_card {d : Reason} (decline : cardDecline f.card.state = some d) (notLost : f.card.state ≠ .lost) :
    takeChecks n vn sequence r s = (.declined { reason := d }, if r.ask.kind = .void then s else failureUpdate r.serial s) := by
  simp only [takeChecks, isOpen, Bool.true_eq_false, if_false, found, decline, notLost]

theorem takeChecks_lost (lost : f.card.state = .lost) :
    takeChecks n vn sequence r s = (.declined { reason := .cardLost },
      if r.ask.kind = .void then raise .lostCardPresented r.serial (detail 2 n.val) s
      else failureUpdate r.serial (raise .lostCardPresented r.serial (detail 2 n.val) s)) := by
  simp only [takeChecks, isOpen, Bool.true_eq_false, if_false, found, lost, cardDecline, if_true]

variable (active : f.card.state = .active)
include active

theorem takeChecks_void {charge : Word32} (ask : r.ask = .void charge) :
    takeChecks n vn sequence r s = (voidTake n vn sequence r charge f s, s) := by
  simp only [takeChecks, isOpen, Bool.true_eq_false, if_false, found, active, cardDecline, ask]

theorem takeChecks_purchase (ask : r.ask.kind ≠ .void) : takeChecks n vn sequence r s = purchaseTake n vn sequence r f s := by
  simp only [takeChecks, isOpen, Bool.true_eq_false, if_false, found, active, cardDecline]
  cases asked : r.ask with
  | void charge => rw [asked] at ask; exact absurd rfl ask
  | _ => rfl

end

/-! ### The void (R107) -/

/-- A stored charge that a VOID by a person may take back (R107). -/
def Approved.voidable (a : Approved) (charge : Word32) (person : Nat) (s : State) : Prop :=
  a.charge = charge ∧ a.kind ≠ .tabClose ∧ s.scl.voyage < a.voyage + 120 ∧ a.person = person

theorem voidTake_refused {charge : Word32} (refused : ∀ a, (s.till n).lastApproved = some a → ¬ a.voidable charge f.card.person s) :
    voidTake n vn sequence r charge f s = .declined { reason := .voidRefused } := by
  unfold voidTake
  cases last : (s.till n).lastApproved with
  | none => rfl
  | some a =>
    have beyond := refused a last
    simp only [Approved.voidable] at beyond
    refine if_pos ?_
    simp only [Config.voidWindow]
    by_contra within
    simp only [not_or, not_not, Nat.not_le] at within
    exact beyond within

theorem voidTake_passed {charge : Word32} {a : Approved} (last : (s.till n).lastApproved = some a) (voidable : a.voidable charge f.card.person s) :
    voidTake n vn sequence r charge f s = .passed { sequence := sequence, folio := a.folio, person := a.person, serial := r.serial, venue := vn,
                                                    lenient := false, work := .void a } := by
  obtain ⟨number, notTab, window, person⟩ := voidable
  simp only [voidTake, last]
  refine if_neg ?_
  simp only [Config.voidWindow, not_or, not_not, Nat.not_le]
  exact ⟨number, notTab, window, person⟩

/-! ### Checks 3 and 4 (R101) -/

/-- The person has no privilege for a request of the kind (R101 check 3). -/
def Person.unprivileged (p : Person) (kind : TillKind) : Prop := p.spend.privilege = .noPrivilege ∨ (kind = .openTab ∧ p.spend.privilege ≠ .full)

/-- A minor asks for a line that carries AGE (R101 check 4). -/
def Person.tooYoung (p : Person) (ask : TillAsk) : Prop := p.spend.minor = true ∧ ∃ l ∈ ask.lines, l.age = true

theorem ageDecline_eq (ask : TillAsk) (p : Person) [Decidable (p.tooYoung ask)] : ageDecline ask p = if p.tooYoung ask then some .ageRestricted else none := by
  have same : (p.spend.minor = true ∧ ask.lines.any (·.age) = true) ↔ p.tooYoung ask := by rw [List.any_eq_true, Person.tooYoung]
  unfold ageDecline
  exact if_congr same rfl rfl

theorem purchaseTake_unprivileged (unprivileged : f.person.unprivileged r.ask.kind) :
    purchaseTake n vn sequence r f s = (.declined { reason := .noChargePrivilege }, failureUpdate r.serial s) := by
  have declined : privilegeDecline r.ask f.person = some .noChargePrivilege := if_pos unprivileged
  simp only [purchaseTake, declined]

section
variable (privileged : ¬ f.person.unprivileged r.ask.kind)
include privileged

theorem purchaseTake_noFolio (noFolio : f.person.ident.folio = 0) :
    purchaseTake n vn sequence r f s = (.declined { reason := .noFolio }, failureUpdate r.serial s) := by
  have declined : privilegeDecline r.ask f.person = some .noFolio := (if_neg privileged).trans (if_pos noFolio)
  simp only [purchaseTake, declined]

variable (folio : f.person.ident.folio ≠ 0)
include folio

theorem purchaseTake_tooYoung (young : f.person.tooYoung r.ask) :
    purchaseTake n vn sequence r f s = (.declined { reason := .ageRestricted }, failureUpdate r.serial s) := by
  classical
  have passed : privilegeDecline r.ask f.person = none := (if_neg privileged).trans (if_neg folio)
  have declined : ageDecline r.ask f.person = some .ageRestricted := (ageDecline_eq _ _).trans (if_pos young)
  simp only [purchaseTake, passed, declined]

variable (grown : ¬ f.person.tooYoung r.ask)
include grown

theorem purchaseTake_absent {d : Reason} {lenient : Bool} {u : State} (checked : presenceCheck n vn f s = (some d, lenient, u)) :
    purchaseTake n vn sequence r f s = (.declined { reason := d }, failureUpdate r.serial u) := by
  classical
  have passed : privilegeDecline r.ask f.person = none := (if_neg privileged).trans (if_neg folio)
  have ofAge : ageDecline r.ask f.person = none := (ageDecline_eq _ _).trans (if_neg grown)
  simp only [purchaseTake, passed, ofAge, checked]

theorem purchaseTake_present {lenient : Bool} {u : State} (checked : presenceCheck n vn f s = (none, lenient, u)) :
    purchaseTake n vn sequence r f s = (priceTake n vn sequence r f lenient u, u) := by
  classical
  have passed : privilegeDecline r.ask f.person = none := (if_neg privileged).trans (if_neg folio)
  have ofAge : ageDecline r.ask f.person = none := (ageDecline_eq _ _).trans (if_neg grown)
  simp only [purchaseTake, passed, ofAge, checked]

end

/-! ### Check 5 (R102) -/

theorem presenceCheck_passes (passes : (s.venue vn).exempt = true ∨ f.person.att.presence = .aboard) : presenceCheck n vn f s = (none, false, s) := by
  unfold presenceCheck
  rcases passes with exempt | aboard
  · exact if_pos exempt
  · rw [aboard]
    split <;> rfl

section
variable (counts : (s.venue vn).exempt = false) (away : f.person.att.presence = .ashore ∨ f.person.att.presence = .expected)
include counts away

theorem presenceCheck_strict (strict : s.chu.policy = .strict) :
    presenceCheck n vn f s = (some .ashore, false, raise .ashoreSighting (BitVec.ofNat 32 f.card.person) (detail 2 n.val) s) := by
  rcases away with place | place <;> simp only [presenceCheck, counts, Bool.false_eq_true, if_false, place, strict] <;> rfl

theorem presenceCheck_lenient (lenient : s.chu.policy = .lenient) :
    presenceCheck n vn f s = (none, true, sighting f.card.person f.person f.card.serial (.atTill n.val) s) := by
  rcases away with place | place <;> simp only [presenceCheck, counts, Bool.false_eq_true, if_false, place, lenient]

end

/-! ### Check 6 (R101) -/

theorem priceTake_passed {lenient : Bool} {w : Work} (work : workOf (s.venue vn).live s.chu.rateLive r.ask (s.till n).lastApproved = .ok w) :
    priceTake n vn sequence r f lenient s = .passed { sequence := sequence, folio := f.person.ident.folio, person := f.card.person, serial := r.serial,
                                                      venue := vn, lenient := lenient, work := w } := by
  simp only [priceTake, work]

theorem priceTake_declined {lenient : Bool} {d : Decline} (work : workOf (s.venue vn).live s.chu.rateLive r.ask (s.till n).lastApproved = .error d) :
    priceTake n vn sequence r f lenient s = .declined d := by
  simp only [priceTake, work]

/-- What a purchase works on follows the tills' and venues' records alone. -/
theorem workOf_congr {t : State} (chu : t.chu = s.chu) : workOf (t.venue vn).live t.chu.rateLive r.ask (t.till n).lastApproved
    = workOf (s.venue vn).live s.chu.rateLive r.ask (s.till n).lastApproved := by
  simp only [State.venue, State.till, chu]

/-! ### A purchase that comes to its price -/

section
variable (isOpen : (s.venue vn).isOpen = true) (found : lookup r.serial s = some f) (active : f.card.state = .active) (ask : r.ask.kind ≠ .void)
  (privileged : ¬ f.person.unprivileged r.ask.kind) (folio : f.person.ident.folio ≠ 0) (grown : ¬ f.person.tooYoung r.ask)
include isOpen found active ask privileged folio grown

theorem take_priced {lenient : Bool} {u : State} {w : Work} (checked : presenceCheck n vn f s = (none, lenient, u)) (chu : u.chu = s.chu)
    (work : workOf (s.venue vn).live s.chu.rateLive r.ask (s.till n).lastApproved = .ok w) :
    take n vn sequence r s = madeWorking n { sequence := sequence, folio := f.person.ident.folio, person := f.card.person, serial := r.serial,
                                             venue := vn, lenient := lenient, work := w } u :=
  take_of_passed ((takeChecks_purchase isOpen found active ask).trans ((purchaseTake_present privileged folio grown checked).trans
    (by rw [priceTake_passed ((workOf_congr chu).trans work)])))

theorem take_outOfRange {lenient : Bool} {u : State} {e : RangeFault} (checked : presenceCheck n vn f s = (none, lenient, u)) (chu : u.chu = s.chu)
    (work : workOf (s.venue vn).live s.chu.rateLive r.ask (s.till n).lastApproved = .error e.decline) :
    take n vn sequence r s = decided n r.ask.kind sequence (declinedBody .amountRange e.line e.quantity.number r.ask.holdNamed) u :=
  take_of_declined (d := e.decline) ((takeChecks_purchase isOpen found active ask).trans ((purchaseTake_present privileged folio grown checked).trans
    (by rw [priceTake_declined ((workOf_congr chu).trans work)])))

/-- A purchase whose presence passes, by an exempt venue, a person ABOARD or a LENIENT sighting, waits for its settlement (R102). -/
theorem take_works {w : Work} (work : workOf (s.venue vn).live s.chu.rateLive r.ask (s.till n).lastApproved = .ok w) :
    ((s.venue vn).exempt = true ∨ f.person.att.presence = .aboard →
      take n vn sequence r s = madeWorking n { sequence := sequence, folio := f.person.ident.folio, person := f.card.person, serial := r.serial,
                                               venue := vn, lenient := false, work := w } s)
    ∧ ((s.venue vn).exempt = false ∧ (f.person.att.presence = .ashore ∨ f.person.att.presence = .expected) ∧ s.chu.policy = .lenient →
      take n vn sequence r s = madeWorking n { sequence := sequence, folio := f.person.ident.folio, person := f.card.person, serial := r.serial,
                                               venue := vn, lenient := true, work := w }
        (sighting f.card.person f.person f.card.serial (.atTill n.val) s)) :=
  ⟨fun passes => take_priced isOpen found active ask privileged folio grown (presenceCheck_passes passes) rfl work,
    fun ⟨counts, away, lenient⟩ => take_priced isOpen found active ask privileged folio grown (presenceCheck_lenient counts away lenient)
      (sighting_chu ..) work⟩

end

/-! ### The work priced -/

theorem workOf_charge {p : Pricing} {rate : Nat} {lines : List Line} {of : Option Approved} {sums : Sums} (priced : priceCharge p rate lines = .ok sums) :
    workOf p rate (.charge lines) of = .ok (.charge sums lines.length) := by
  simp only [workOf, priced]

theorem workOf_closeTab {p : Pricing} {rate : Nat} {hold : Nat} {lines : List Line} {of : Option Approved} {sums : Sums}
    (priced : priceTab p rate lines = .ok sums) : workOf p rate (.closeTab hold lines) of = .ok (.closeTab hold sums lines.length) := by
  simp only [workOf, priced]

/-- A charge or a tab whose pricing fails is declined with the fault (R53). -/
theorem workOf_error {p : Pricing} {rate : Nat} {ask : TillAsk} {of : Option Approved} {e : RangeFault}
    (fails : (ask.kind = .charge ∧ priceCharge p rate ask.lines = .error e) ∨ (ask.kind = .closeTab ∧ priceTab p rate ask.lines = .error e)) :
    workOf p rate ask of = .error e.decline := by
  cases ask with
  | charge lines =>
    rcases fails with ⟨-, fails⟩ | ⟨other, -⟩
    · simp only [TillAsk.lines] at fails; simp only [workOf, fails]
    · cases other
  | closeTab hold lines =>
    rcases fails with ⟨other, -⟩ | ⟨-, fails⟩
    · cases other
    · simp only [TillAsk.lines] at fails; simp only [workOf, fails]
  | openTab amount => rcases fails with ⟨other, -⟩ | ⟨other, -⟩ <;> cases other
  | void charge => rcases fails with ⟨other, -⟩ | ⟨other, -⟩ <;> cases other

/-! ### The obligations -/

/-- A till request that the gate lets through is taken (R92). -/
theorem exec_taken {kind : TillKind} {body : List Byte} (read : tillRequestOf kind body = .ok r) (gate : s.gateOpen r.till vn sequence) :
    exec (tillCommand kind sequence body) s = .next (take r.till vn sequence r (heard .till s)) := by
  obtain ⟨settled, venue, fresh, idle, serving⟩ := gate
  rw [exec_tillCommand, tillFrame_gated settled read, tillGate_serving (s := heard .till s) venue fresh idle serving]

end

/-- Settles O34: each kind comes to its price by `take_works`, a VOID by `voidTake_passed`. -/
theorem takesMakeTheTillWorking : Obligations.TakesMakeTheTillWorking := by
  intro s n vn sequence body serial f gate isOpen found active p venue t waits passes sighted seen
  have ofAge : ∀ {ask : TillAsk}, (p.spend.minor = false ∨ ∀ l ∈ ask.lines, l.age = false) → ¬ p.tooYoung ask := by
    rintro ask (grown | plain) ⟨young, l, among, age⟩
    · rw [grown] at young; cases young
    · rw [plain l among] at age; cases age
  refine ⟨fun lines sums read privileged folio grown priced => ?charge, fun amount read privileged folio => ?openTab,
    fun hold lines sums read privileged folio grown priced => ?closeTab, fun a read last kind window person => ?void⟩
  case charge =>
    rw [show Instr.charge sequence body = tillCommand .charge sequence body from rfl, exec_taken (vn := vn) read gate]
    have works := take_works (s := t) (n := n) (vn := vn) (sequence := sequence) (r := ⟨n, serial, .charge lines⟩) isOpen found active nofun
      (fun no => no.elim privileged fun tab => nomatch tab.1) folio (ofAge grown) (workOf_charge priced)
    exact ⟨fun pass => congrArg _ (works.1 pass), fun pass => congrArg _ (works.2 pass)⟩
  case openTab =>
    rw [show Instr.openTab sequence body = tillCommand .openTab sequence body from rfl, exec_taken (vn := vn) read gate]
    have full : ¬ p.unprivileged .openTab := fun no => no.elim (fun none => by rw [privileged] at none; cases none) fun tab => tab.2 privileged
    have works := take_works (s := t) (n := n) (vn := vn) (sequence := sequence) (r := ⟨n, serial, .openTab amount⟩) isOpen found active nofun
      full folio (ofAge (.inr nofun)) (w := .openTab amount) rfl
    exact ⟨fun pass => congrArg _ (works.1 pass), fun pass => congrArg _ (works.2 pass)⟩
  case closeTab =>
    rw [show Instr.closeTab sequence body = tillCommand .closeTab sequence body from rfl, exec_taken (vn := vn) read gate]
    have works := take_works (s := t) (n := n) (vn := vn) (sequence := sequence) (r := ⟨n, serial, .closeTab hold lines⟩) isOpen found active nofun
      (fun no => no.elim privileged fun tab => nomatch tab.1) folio (ofAge grown) (workOf_closeTab priced)
    exact ⟨fun pass => congrArg _ (works.1 pass), fun pass => congrArg _ (works.2 pass)⟩
  case void =>
    rw [show Instr.void sequence body = tillCommand .void sequence body from rfl, exec_taken (vn := vn) read gate]
    have voidable : a.voidable a.charge f.card.person t := ⟨rfl, by rw [kind]; exact nofun, window, person⟩
    have passed := voidTake_passed (s := t) (n := n) (vn := vn) (sequence := sequence) (r := ⟨n, serial, .void a.charge⟩) (f := f) last voidable
    have checked := takeChecks_void (s := t) (n := n) (sequence := sequence) (r := ⟨n, serial, .void a.charge⟩) (charge := a.charge) isOpen found active rfl
    rw [passed] at checked
    exact congrArg _ (take_of_passed checked)

/-- Settles O35: each check's decline by `take_of_declined`. -/
theorem takesDeclineInOrder : Obligations.TakesDeclineInOrder := by
  intro s kind sequence body r vn read gate t venue hold declines failed
  obtain rfl := tillRequestOf_kind read
  have holdIs : hold = r.ask.holdNamed := by
    show (match r.ask with | .closeTab h _ => h | _ => 0) = _
    cases r.ask <;> rfl
  clear_value hold
  have taken := exec_taken read gate
  have ends : ∀ {reason : Reason} {u : State}, takeChecks r.till vn sequence r t = (.declined { reason := reason }, u) → declines reason u :=
    fun checked => by show exec _ _ = _; rw [taken, take_of_declined checked, holdIs]
  refine ⟨fun closed => ends (takeChecks_closed closed), fun isOpen => ⟨fun unknown => ends (takeChecks_unknown isOpen unknown), fun f found => ?_⟩⟩
  have isOpen : (t.venue vn).isOpen = true := isOpen
  have found : lookup r.serial t = some f := found
  refine ⟨fun lost => ends (takeChecks_lost isOpen found lost), fun suspended => ends (takeChecks_card isOpen found (by rw [suspended]; rfl) (by rw [suspended]; nofun)),
    fun departed => ends (takeChecks_card isOpen found (by rw [departed]; rfl) (by rw [departed]; nofun)), fun active void refused => ?takenBack,
    fun active purchase => ?purchase⟩
  case takenBack =>
    cases asked : r.ask with
    | void charge =>
      refine ends ((takeChecks_void isOpen found active asked).trans (by
        rw [voidTake_refused fun a last ⟨number, notTab, window, person⟩ => ?_]))
      rcases refused a last with other | tab | late | stranger
      · exact other (by rw [asked, number])
      · exact notTab tab
      · exact absurd window (Nat.not_lt.2 late)
      · exact stranger person
    | _ => rw [asked] at void; cases void
  case purchase =>
    intro p noPrivilege lines minor
    have linesAre : lines = r.ask.lines := by
      show (match r.ask with | .charge ls => ls | .closeTab _ ls => ls | _ => []) = _
      cases r.ask <;> rfl
    have same : minor ↔ p.tooYoung r.ask := by rw [Person.tooYoung, ← linesAre]
    have failed_eq : ∀ u, failed u = failureUpdate r.serial u := fun u => if_neg purchase
    have bought := takeChecks_purchase (n := r.till) (vn := vn) (sequence := sequence) isOpen found active purchase
    simp only [failed_eq, same]
    refine ⟨fun no => ends (bought.trans (purchaseTake_unprivileged no)), fun privileged noFolio => ends (bought.trans (purchaseTake_noFolio privileged noFolio)),
      fun privileged folio young => ends (bought.trans (purchaseTake_tooYoung privileged folio young)),
      fun privileged folio grown counts away strict => ends (bought.trans (purchaseTake_absent privileged folio grown (presenceCheck_strict (s := t) counts away strict))),
      fun privileged folio grown passes e fails => ?_, fun privileged folio grown counts away lenient e fails => ?_⟩
    · rw [linesAre] at fails
      rw [taken, holdIs, take_outOfRange isOpen found active purchase privileged folio grown (presenceCheck_passes (s := t) passes) rfl (workOf_error fails)]
    · rw [linesAre] at fails
      rw [taken, holdIs, take_outOfRange isOpen found active purchase privileged folio grown (presenceCheck_lenient (s := t) counts away lenient)
        (sighting_chu ..) (workOf_error fails)]

end Sys2Proof.Machine
end

section
/-! What a settlement is made of (R94, R99, R100, R104-R108). -/
namespace Sys2Proof.Machine

section
variable {s u v : State} {n : Fin 128} {kind : TillKind} {sequence : Byte} {b : AnswerBody} {w : Waiting}

/-! ### The decision -/

theorem decided_eq (n : Fin 128) (kind : TillKind) (sequence : Byte) (b : AnswerBody) (s : State) : decided n kind sequence b s =
    formed .till (.tillAnswer { kind := kind.code ||| 0x80, sequence := sequence, till := BitVec.ofNat 8 n.val, repeated := false, body := b })
      (putTill n { s.chu.tills[n] with working := none, lastSequence := some sequence, lastDecision := some { kind := kind, body := b } } s) := rfl

@[simp] theorem decided_crg : (decided n kind sequence b s).crg = s.crg := rfl
@[simp] theorem decided_persons : (decided n kind sequence b s).persons = s.persons := rfl
@[simp] theorem decided_fst : (decided n kind sequence b s).fst = s.fst := rfl
@[simp] theorem decided_jnl : (decided n kind sequence b s).jnl = s.jnl := rfl
@[simp] theorem decided_atu : (decided n kind sequence b s).atu = s.atu := rfl

theorem decided_chu_congr (same : u.chu = s.chu) : (decided n kind sequence b u).chu = (decided n kind sequence b s).chu := by
  simp only [decided_eq, formed_chu, putTill_chu, same]

/-- The till of an approval: IDLE, with the sequence, the answer and the charge approved last. -/
theorem decided_setApproved_chu {a : Option Approved} (same : u.chu = (setApproved n a v).chu) (chu : v.chu = s.chu) : (decided n kind sequence b u).chu =
    { s.chu with tills := s.chu.tills.set n { venue := s.chu.tills[n].venue, working := none, lastSequence := some sequence,
                                              lastDecision := some { kind := kind, body := b }, lastApproved := a } } := by
  rw [decided_chu_congr same]
  simp only [decided_eq, formed_chu, putTill_chu, setApproved_chu, State.till, chu, Fin.getElem_fin, Vector.getElem_set_self, Vector.set_set]

theorem decided_txOf_till (ports : u.ports = s.ports) : (decided n kind sequence b u).txOf .till = s.txOf .till ++
    [.tillAnswer { kind := kind.code ||| 0x80, sequence := sequence, till := BitVec.ofNat 8 n.val, repeated := false, body := b }] := by
  rw [decided_eq, txOf_formed, if_pos rfl, State.txOf, putTill_ports, ports]
  rfl

theorem settlementFrame_decided (slc : u.slc = s.slc) (scl : u.scl = s.scl) (cau : u.cau = s.cau) (lscs : u.lscs = s.lscs) (pru : u.pru = s.pru)
    (ports : u.ports = s.ports) (boundary : u.boundary = s.boundary) (free : u.free = s.free) (lines : u.lines = s.lines) (pending : u.pending = s.pending) :
    settlementFrame s (decided n kind sequence b u) := by
  refine ⟨slc, scl, cau, lscs, pru, (congrArg Ports.rx ports :), fun p other => ?_, boundary, free, lines, pending⟩
  rw [decided_eq, txOf_formed, if_neg (Ne.symm other), State.txOf, putTill_ports, ports]
  rfl

/-! ### The spending (R99, R100) -/

section
variable {person : Nat} {f : Spending → Spending}
@[simp] theorem changeSpending_slc : (changeSpending person f s).slc = s.slc := by unfold changeSpending; split <;> rfl
@[simp] theorem changeSpending_atu : (changeSpending person f s).atu = s.atu := by unfold changeSpending; split <;> rfl
@[simp] theorem changeSpending_crg : (changeSpending person f s).crg = s.crg := by unfold changeSpending; split <;> rfl
@[simp] theorem changeSpending_scl : (changeSpending person f s).scl = s.scl := by unfold changeSpending; split <;> rfl
@[simp] theorem changeSpending_chu : (changeSpending person f s).chu = s.chu := by unfold changeSpending; split <;> rfl
@[simp] theorem changeSpending_fst : (changeSpending person f s).fst = s.fst := by unfold changeSpending; split <;> rfl
@[simp] theorem changeSpending_cau : (changeSpending person f s).cau = s.cau := by unfold changeSpending; split <;> rfl
@[simp] theorem changeSpending_lscs : (changeSpending person f s).lscs = s.lscs := by unfold changeSpending; split <;> rfl
@[simp] theorem changeSpending_pru : (changeSpending person f s).pru = s.pru := by unfold changeSpending; split <;> rfl
@[simp] theorem changeSpending_jnl : (changeSpending person f s).jnl = s.jnl := by unfold changeSpending; split <;> rfl
@[simp] theorem changeSpending_ports : (changeSpending person f s).ports = s.ports := by unfold changeSpending; split <;> rfl
@[simp] theorem changeSpending_boundary : (changeSpending person f s).boundary = s.boundary := by unfold changeSpending; split <;> rfl
@[simp] theorem changeSpending_free : (changeSpending person f s).free = s.free := by unfold changeSpending; split <;> rfl
@[simp] theorem changeSpending_lines : (changeSpending person f s).lines = s.lines := by unfold changeSpending; split <;> rfl
@[simp] theorem changeSpending_pending : (changeSpending person f s).pending = s.pending := by unfold changeSpending; split <;> rfl

theorem changeSpending_get_same {p : Person} (inUse : s.persons.get person = some p) :
    (changeSpending person f s).persons.get person = some { p with spend := f p.spend } := by
  simp only [changeSpending, inUse]
  exact Table.get_set_same ..

theorem changeSpending_get_other {m : Nat} (other : m ≠ person) : (changeSpending person f s).persons.get m = s.persons.get m := by
  unfold changeSpending
  split
  · exact Table.get_set_other _ _ _ _ other
  · rfl
end

theorem heldSpent_eq (x : Int) : heldSpent x = max 0 (min 8388607 x) := by
  unfold heldSpent
  simp only [Config.maxMoney]
  split
  · omega
  · split <;> omega

theorem Spending.posted_of_allowance {p : Spending} (allowance : p.privilege = .allowance) (amount : Int) (day : Nat) : p.posted amount day =
    { p with spentToday := max 0 (min 8388607 ((if p.spendDay = some day then p.spentToday else 0) + amount)), spendDay := some day } := by
  rw [← heldSpent_eq]
  exact if_pos allowance

theorem Spending.posted_of_other {p : Spending} (other : p.privilege ≠ .allowance) (amount : Int) (day : Nat) : p.posted amount day = p := if_neg other

theorem Spending.voided_of_today {p : Spending} {day : Nat} (today : p.spendDay = some day) (total : Int) :
    p.voided total day = { p with spentToday := max 0 (min 8388607 (p.spentToday - total)) } := by
  rw [← heldSpent_eq]
  exact if_pos today

theorem Spending.voided_of_earlier {p : Spending} {day : Nat} (earlier : p.spendDay ≠ some day) (total : Int) : p.voided total day = p := if_neg earlier

/-! ### The card -/

theorem successUpdate_crg_congr (ring : u.crg = s.crg) (clock : u.scl = s.scl) (serial : Word32) :
    (successUpdate serial u).crg = (successUpdate serial s).crg := by
  simp only [successUpdate, ring, clock]
  split
  · split
    · exact ring
    · simp only [putCard, ring]
  · exact ring

theorem cause_successUpdate (c : Cause) (serial : Word32) (s : State) : (successUpdate serial s).cause c = s.cause c := cause_of_atu (successUpdate_atu ..)

/-- The decision, the card's success and the charge kept for a void touch no cause. -/
theorem cause_approved (c : Cause) (serial : Word32) (a : Option Approved) :
    (decided n kind sequence b (successUpdate serial (setApproved n a s))).cause c = s.cause c := cause_successUpdate c serial (setApproved n a s)

/-! ### The folio and its causes (R60, R70, R76) -/

theorem Fst.addToDay_withFolios (base : Fst) (folios : Table Folio) (amount : Int) :
    Fst.addToDay { base with folios := folios } amount = { base.addToDay amount with folios := folios } := by
  unfold Fst.addToDay
  dsimp only
  split
  · rfl
  · split <;> rfl

@[simp] theorem Fst.addToDay_folios (fst : Fst) (amount : Int) : (fst.addToDay amount).folios = fst.folios := by
  unfold Fst.addToDay; split
  · rfl
  · split <;> rfl

@[simp] theorem Fst.addToDay_band (fst : Fst) (amount : Int) : (fst.addToDay amount).band = fst.band := by
  unfold Fst.addToDay; split
  · rfl
  · split <;> rfl

/-- The folios after the NEAR test of a folio that has just been written. -/
theorem nearTest_fst_of_set {m band : Nat} {g : Folio} {base : Fst} {folios : Table Folio} (is : s.fst = { base with folios := folios.set m g })
    (within : base.band = band) : (nearTest m s).fst = { base with folios := folios.set m (g.nearTested band) } := by
  subst within
  have inUse : s.fst.folios.get m = some g := by rw [is]; exact Table.get_set_same ..
  have band : s.fst.band = base.band := by rw [is]
  by_cases due : g.nearDue base.band = true
  · rw [nearTest_of_due inUse (band ▸ due), raise_fst, putFolio_fst, is]
    simp only [Table.set_set, Folio.nearTested, due, Bool.or_true]
  · rw [Bool.not_eq_true] at due
    rw [nearTest_of_clear inUse (band ▸ due), is]
    simp only [Folio.nearTested, due, Bool.or_false]

theorem raisedWhen_nearTest_of_set {m band : Nat} {g : Folio} {base : Fst} {folios : Table Folio} (is : u.fst = { base with folios := folios.set m g })
    (within : base.band = band) (entry : u.cause .folioNearLimit = s.cause .folioNearLimit) (clock : u.scl = s.scl) :
    raisedWhen ((g.nearTested band).near = true ∧ g.near = false) .folioNearLimit (BitVec.ofNat 32 m) s (nearTest m u) := by
  subst within
  have inUse : u.fst.folios.get m = some g := by rw [is]; exact Table.get_set_same ..
  have band : u.fst.band = base.band := by rw [is]
  rw [← nearDue_iff_nearTested, ← band]
  refine ⟨fun due => ?_, fun clear => ?_⟩
  · rw [nearTest_of_due inUse due]
    exact cause_raise_congr (s := putFolio m { g with near := true } u) entry (congrArg Scl.voyage clock) _ _
  · rw [nearTest_of_clear inUse (Bool.not_eq_true _ ▸ clear)]
    exact entry

theorem postFromTill_fst (m : Nat) (g : Folio) (s : State) : (postFromTill m g s).fst = { s.fst with folios := s.fst.folios.set m g.frozenIfOver } := by
  unfold postFromTill
  dsimp only
  split <;> simp

theorem cause_postFromTill_other {c : Cause} (other : c ≠ .folioOverLimit) (m : Nat) (g : Folio) (s : State) :
    (postFromTill m g s).cause c = s.cause c := by
  unfold postFromTill
  dsimp only
  split
  · exact cause_raise_other other ..
  · rfl

theorem raisedWhen_postFromTill (m : Nat) (g : Folio) (entry : u.cause .folioOverLimit = s.cause .folioOverLimit) (clock : u.scl = s.scl) :
    raisedWhen (g.state = .opened ∧ g.limit < g.balance + (g.holds.map (·.amount)).sum) .folioOverLimit (BitVec.ofNat 32 m) s (postFromTill m g u) := by
  rw [← Folio.overLimit_iff]
  refine ⟨fun ⟨opened, exceeds⟩ => ?_, fun within => ?_⟩
  · rw [postFromTill_of_over opened exceeds]
    exact cause_raise_congr (s := putFolio m { g with state := .frozen } u) entry (congrArg Scl.voyage clock) _ _
  · rw [postFromTill_of_within within]
    exact entry

/-! ### The settlement of a request that waits -/

/-- A settlement's command finds the work that its till waits for. -/
theorem exec_settlement (settled : s.boundary = none) (waits : s.chu.tills[n].working = some w) :
    (∀ sums lines, w.work = .charge sums lines → exec (.chargeSettlement n) s = .next (settleCharge n w sums lines s))
    ∧ (∀ amount, w.work = .openTab amount → exec (.openTabSettlement n) s = .next (settleOpenTab n w amount s))
    ∧ (∀ number sums lines, w.work = .closeTab number sums lines → exec (.closeTabSettlement n) s = .next (settleCloseTab n w number sums s))
    ∧ (∀ a, w.work = .void a → exec (.voidSettlement n) s = .next (settleVoid n w a s)) := by
  have waits : (s.till n).working = some w := waits
  refine ⟨fun sums lines work => ?_, fun amount work => ?_, fun number sums lines work => ?_, fun a work => ?_⟩
  · show execChargeSettlement n s = _
    simp only [execChargeSettlement, settle_none settled, waits, work]
  · show execOpenTabSettlement n s = _
    simp only [execOpenTabSettlement, settle_none settled, waits, work]
  · show execCloseTabSettlement n s = _
    simp only [execCloseTabSettlement, settle_none settled, waits, work]
  · show execVoidSettlement n s = _
    simp only [execVoidSettlement, settle_none settled, waits, work]

theorem offerMoney_of_room (room : s.jnl.used < 16384) (r : Record) : offerMoney r s = (some s.jnl.next, takeIn r s) :=
  offerMoney_admitted ((one_le_freeSlots_iff _).2 room) r

theorem offerMoney_of_full (full : 16384 ≤ s.jnl.used) (r : Record) : offerMoney r s = (none, raise .journalFull (subj r.kind.code) {} s) :=
  offerMoney_refused (by rw [one_le_freeSlots_iff]; omega) r

end

end Sys2Proof.Machine
end

section
/-! O36: the settlement of a CHARGE (R67-R69, R100, R104). -/
namespace Sys2Proof.Machine

section
variable {s : State} {n : Fin 128} {w : Waiting} {sums : Sums} {lines : Nat} {f : Folio} {amount : Int}

/-! ### Check 7 (R67, R68, R100) -/

theorem overAllowance_iff {person : Nat} : s.overAllowance person amount = true ↔ ∃ p, s.persons.get person = some p ∧ p.spend.privilege = .allowance
    ∧ p.spend.allowance < (if p.spend.spendDay = some s.scl.folioDay then p.spend.spentToday else 0) + amount := by
  unfold State.overAllowance
  cases s.persons.get person with
  | none => simp
  | some p => simp [Spending.effective]

theorem chargeDecline_noFolio (free : s.fst.folios.get w.folio = none) (notReturn : 0 ≤ amount) :
    chargeDecline w amount s = some { reason := .folioClosed } := by
  have notNegative : ¬ amount < 0 := by omega
  simp only [chargeDecline, free, notNegative, false_and, if_false, ite_self]

theorem chargeDecline_returns (negative : amount < 0) (refused : s.chu.venues[w.venue].returns = false) :
    chargeDecline w amount s = some { reason := .returnsRefused } := by
  have notPositive : ¬ amount > 0 := by omega
  exact (if_neg notPositive).trans (if_pos ⟨negative, refused⟩)

section
variable (inUse : s.fst.folios.get w.folio = some f)
include inUse

section
variable (positive : 0 < amount)
include positive

theorem chargeDecline_frozen (frozen : f.state = .frozen) : chargeDecline w amount s = some { reason := .folioFrozen } := by
  simp only [chargeDecline, gt_iff_lt, positive, if_true, inUse, frozen]

theorem chargeDecline_of_opened (opened : f.state = .opened) : chargeDecline w amount s =
    if f.limit < f.balance + (f.holds.map (·.amount)).sum + amount then some { reason := .overLimit }
    else if s.overAllowance w.person amount then some { reason := .overAllowance } else none := by
  simp only [chargeDecline, gt_iff_lt, positive, if_true, inUse, opened, reduceCtorEq, if_false]
  rfl
end

theorem chargeDecline_closed (closed : f.state = .closed) (taken : 0 ≤ amount ∨ s.chu.venues[w.venue].returns = true) :
    chargeDecline w amount s = some { reason := .folioClosed } := by
  have notRefused : ¬ (amount < 0 ∧ (s.venue w.venue).returns = false) := fun ⟨negative, refused⟩ =>
    taken.elim (fun above => by omega) fun returns => Bool.noConfusion (returns.symm.trans refused)
  simp only [chargeDecline, inUse, closed, reduceCtorEq, if_false, if_true, notRefused, ite_self]

theorem chargeDecline_of_return (negative : amount ≤ 0) (taken : amount < 0 → s.chu.venues[w.venue].returns = true) (unclosed : f.state ≠ .closed) :
    chargeDecline w amount s = if f.balance + amount < -1073741824 then some { reason := .amountRange, detail1 := 0, detail2 := 3 } else none := by
  have notPositive : ¬ amount > 0 := by omega
  have notRefused : ¬ (amount < 0 ∧ (s.venue w.venue).returns = false) := fun ⟨below, refused⟩ => Bool.noConfusion ((taken below).symm.trans refused)
  simp only [chargeDecline, notPositive, notRefused, inUse, unclosed, if_false]
  rfl

/-- A charge that its folio and its person's allowance bear passes check 7. -/
theorem chargeDecline_passes
    (bought : 0 < amount → f.state = .opened ∧ f.balance + (f.holds.map (·.amount)).sum + amount ≤ f.limit
      ∧ ∀ p, s.persons.get w.person = some p → p.spend.privilege = .allowance →
          (if p.spend.spendDay = some s.scl.folioDay then p.spend.spentToday else 0) + amount ≤ p.spend.allowance)
    (returned : amount ≤ 0 → f.state ≠ .closed ∧ -1073741824 ≤ f.balance + amount ∧ (amount < 0 → s.chu.venues[w.venue].returns = true)) :
    chargeDecline w amount s = none := by
  by_cases positive : 0 < amount
  · obtain ⟨opened, within, allowed⟩ := bought positive
    have bears : ¬ s.overAllowance w.person amount = true := fun beyond => by
      obtain ⟨p, person, allowance, exceeds⟩ := overAllowance_iff.1 beyond
      exact absurd (allowed p person allowance) (Int.not_le.2 exceeds)
    rw [chargeDecline_of_opened inUse positive opened, if_neg (Int.not_lt.2 within), if_neg bears]
  · obtain ⟨unclosed, above, returns⟩ := returned (Int.not_lt.1 positive)
    rw [chargeDecline_of_return inUse (Int.not_lt.1 positive) returns unclosed, if_neg (Int.not_lt.2 above)]

end

/-! ### The settlement (R104) -/

theorem settleCharge_declined {d : Decline} (decline : chargeDecline w sums.s s = some d) :
    settleCharge n w sums lines s = decided n .charge w.sequence (declinedBody d.reason d.detail1 d.detail2 0) s := by
  simp only [settleCharge, decline]
  rfl

theorem settleCharge_full (passes : chargeDecline w sums.s s = none) (full : 16384 ≤ s.jnl.used) :
    settleCharge n w sums lines s = decided n .charge w.sequence (declinedBody .journalFull 0 0 0) (raise .journalFull 1 {} s) := by
  simp only [settleCharge, passes, offerMoney_of_full full]
  rfl

/-- The state of an approved CHARGE up to its NEAR test. -/
def chargePosted (w : Waiting) (sums : Sums) (f : Folio) (s : State) : State :=
  changeSpending w.person (·.posted sums.s s.scl.folioDay) (addToDay sums.s (putFolio w.folio (f.plus sums.s) s))

theorem settleCharge_posted (inUse : s.fst.folios.get w.folio = some f) (passes : chargeDecline w sums.s s = none) (room : s.jnl.used < 16384) :
    settleCharge n w sums lines s = decided n .charge w.sequence (approvedBody s.jnl.next sums.s sums.g sums.t 0) (successUpdate w.serial
      (setApproved n (some { kind := .charge, charge := s.jnl.next, voyage := s.scl.voyage, folio := w.folio, person := w.person, total := sums.s })
        (nearTest w.folio (chargePosted w sums f (takeIn (chargeRecord n w sums lines) s))))) := by
  have inUse' : (takeIn (chargeRecord n w sums lines) s).fst.folios.get w.folio = some f := by rw [takeIn_fst]; exact inUse
  simp only [settleCharge, passes, offerMoney_of_room room, postCharge, changeFolio, inUse', takeIn_scl, chargePosted]
  rfl

theorem chargePosted_persons_of_none (free : s.persons.get w.person = none) : (chargePosted w sums f s).persons = s.persons := by
  simp only [chargePosted, changeSpending, addToDay_persons, putFolio_persons, free]

theorem chargePosted_persons_of_some {p : Person} (inUse : s.persons.get w.person = some p) : (chargePosted w sums f s).persons =
    s.persons.set w.person { p with spend := if p.spend.privilege = .allowance then
      { p.spend with spentToday := max 0 (min 8388607 ((if p.spend.spendDay = some s.scl.folioDay then p.spend.spentToday else 0) + sums.s)),
                     spendDay := some s.scl.folioDay } else p.spend } := by
  simp only [chargePosted, changeSpending, addToDay_persons, putFolio_persons, inUse, ← heldSpent_eq]
  rfl

end

/-- Settles O36: the posting part by part from `postCharge_eq`, the declines by check 7. -/
theorem chargeSettlementPostsOrDeclines : Obligations.ChargeSettlementPostsOrDeclines := by
  refine ⟨fun s n w sums lines f settled waits work inUse room bought returned => ?posts, fun s n w sums lines settled waits work => ?declines⟩
  case posts =>
    have passes := chargeDecline_passes inUse bought returned
    have ended := ((exec_settlement settled waits).1 sums lines work).trans (congrArg _ (settleCharge_posted inUse passes room))
    let r := chargeRecord n w sums lines
    have posted : (chargePosted w sums f (takeIn r s)).fst = { s.fst.addToDay sums.s with folios := s.fst.folios.set w.folio (f.plus sums.s) } := by
      simp only [chargePosted, changeSpending_fst, addToDay_fst, putFolio_fst, takeIn_fst, Fst.addToDay_withFolios]
    have causes : ∀ c, (chargePosted w sums f (takeIn r s)).cause c = (takeIn r s).cause c := fun c => cause_of_atu (by simp [chargePosted])
    have clock : (chargePosted w sums f (takeIn r s)).scl = s.scl := by simp [chargePosted]
    refine ⟨_, ((f.plus sums.s).nearTested s.fst.band).near, ended, ?fst, nearTested_near_iff (f.plus sums.s) _, ?jnl, ?persons,
      ?crg, decided_setApproved_chu (successUpdate_chu ..) (by simp [chargePosted]), decided_txOf_till (by simp [chargePosted]), ?high, ?near, ?frame, ?other⟩
    case fst =>
      rw [decided_fst, successUpdate_fst, setApproved_fst, nearTest_fst_of_set posted (Fst.addToDay_band ..)]
      rfl
    case jnl =>
      simp [chargePosted, chargeRecord]
    case persons =>
      rw [decided_persons, successUpdate_persons, setApproved_persons, nearTest_persons]
      cases person : s.persons.get w.person with
      | none => exact (chargePosted_persons_of_none ((congrArg (Table.get · w.person) (takeIn_persons r s)).trans person)).trans (takeIn_persons r s)
      | some p =>
        rw [chargePosted_persons_of_some ((congrArg (Table.get · w.person) (takeIn_persons r s)).trans person), takeIn_persons, takeIn_scl]
    case crg => exact successUpdate_crg_congr (by simp [chargePosted]) (by simp [chargePosted]) _
    case high =>
      refine raisedWhen_of_cause (t := takeIn r s) ?_ (raisedWhen_takeIn r s)
      exact (cause_approved ..).trans ((cause_nearTest_other (by decide) ..).trans (causes _))
    case near =>
      exact raisedWhen_of_cause (cause_approved ..)
        (raisedWhen_nearTest_of_set posted (Fst.addToDay_band ..) ((causes _).trans (cause_takeIn (by decide) ..)) clock)
    case frame => apply settlementFrame_decided <;> simp [chargePosted]
    case other =>
      intro c notHigh notNear
      exact (cause_approved ..).trans ((cause_nearTest_other notNear ..).trans ((causes _).trans (cause_takeIn notHigh ..)))
  case declines =>
    intro declines
    have ends : ∀ {d : Decline}, chargeDecline w sums.s s = some d → declines d.reason d.detail1 d.detail2 s := fun decline =>
      ((exec_settlement settled waits).1 sums lines work).trans (congrArg _ (settleCharge_declined decline))
    refine ⟨fun free above => ends (chargeDecline_noFolio free above), fun negative refused => ends (chargeDecline_returns negative refused), fun f inUse => ?_⟩
    refine ⟨fun positive frozen => ends (chargeDecline_frozen inUse positive frozen), fun closed taken => ends (chargeDecline_closed inUse closed taken),
      fun positive opened beyond => ends ((chargeDecline_of_opened inUse positive opened).trans (if_pos beyond)),
      fun p positive opened within person allowance beyond => ends ((chargeDecline_of_opened inUse positive opened).trans
        ((if_neg (Int.not_lt.2 within)).trans (if_pos (overAllowance_iff.2 ⟨p, person, allowance, beyond⟩)))),
      fun negative returns unclosed below => ends ((chargeDecline_of_return inUse (Int.le_of_lt negative) (fun _ => returns) unclosed).trans (if_pos below)),
      fun full bought returned => ((exec_settlement settled waits).1 sums lines work).trans
        (congrArg _ (settleCharge_full (chargeDecline_passes inUse bought returned) full))⟩

end Sys2Proof.Machine
end

section
/-! O37: the settlement of an OPEN TAB, and the number of a new hold (R65, R72, R105). -/
namespace Sys2Proof.Machine

/-! ### The number of a new hold (R65) -/

section
variable {used : List Nat} {k n : Nat}

theorem nextHoldNumber_range (low : 1 ≤ n) (high : n ≤ 65535) : 1 ≤ nextHoldNumber n ∧ nextHoldNumber n ≤ 65535 := by
  unfold nextHoldNumber
  split <;> omega

/-- After j trials the number tried is j further on, from 65,535 back to 1. -/
theorem nextHoldNumber_iterate (low : 1 ≤ n) (high : n ≤ 65535) (j : Nat) : nextHoldNumber^[j] n = (n - 1 + j) % 65535 + 1 := by
  induction j with
  | zero => rw [Function.iterate_zero_apply]; omega
  | succ j ih =>
    rw [Function.iterate_succ_apply', ih, nextHoldNumber]
    split <;> omega

theorem freeHoldNumber_range (low : 1 ≤ n) (high : n ≤ 65535) : 1 ≤ freeHoldNumber used k n ∧ freeHoldNumber used k n ≤ 65535 := by
  induction k generalizing n with
  | zero => exact ⟨low, high⟩
  | succ k ih =>
    unfold freeHoldNumber
    split
    · exact ih (nextHoldNumber_range low high).1 (nextHoldNumber_range low high).2
    · exact ⟨low, high⟩

theorem freeHoldNumber_of_free (free : n ∉ used) : freeHoldNumber used k n = n := by
  cases k with
  | zero => rfl
  | succ k => exact if_neg free

/-- The search ends at a number that is not used, unless every number it tried is. -/
theorem freeHoldNumber_free_or_full (used : List Nat) (k n : Nat) : freeHoldNumber used k n ∉ used ∨ ∀ j ≤ k, nextHoldNumber^[j] n ∈ used := by
  by_cases taken : n ∈ used
  · induction k generalizing n with
    | zero =>
      refine .inr fun j none => ?_
      obtain rfl := Nat.le_zero.1 none
      exact taken
    | succ k ih =>
      rw [freeHoldNumber, if_pos taken]
      by_cases next : nextHoldNumber n ∈ used
      · refine (ih (nextHoldNumber n) next).imp_right fun full j tried => ?_
        cases j with
        | zero => exact taken
        | succ j => exact full j (Nat.le_of_succ_le_succ tried)
      · exact .inl (by rw [freeHoldNumber_of_free next]; exact next)
  · exact .inl (by rw [freeHoldNumber_of_free taken]; exact taken)

/-- With as many trials as numbers used the search ends at a free one: more numbers than are used differ. -/
theorem freeHoldNumber_not_mem (few : used.length < 65535) (low : 1 ≤ n) (high : n ≤ 65535) : freeHoldNumber used used.length n ∉ used := by
  rcases freeHoldNumber_free_or_full used used.length n with free | full
  · exact free
  · exfalso
    have differ : ((List.range (used.length + 1)).map (nextHoldNumber^[·] n)).Nodup := by
      refine List.Nodup.map_on (fun i tried j tried' same => ?_) List.nodup_range
      rw [List.mem_range] at tried tried'
      rw [nextHoldNumber_iterate low high, nextHoldNumber_iterate low high] at same
      omega
    have among : (List.range (used.length + 1)).map (nextHoldNumber^[·] n) ⊆ used := by
      intro x tried
      obtain ⟨j, within, rfl⟩ := List.mem_map.1 tried
      exact full j (Nat.lt_succ_iff.1 (List.mem_range.1 within))
    have count := (differ.subperm among).length_le
    simp only [List.length_map, List.length_range] at count
    omega

end

section
variable {s : State} {n : Fin 128} {w : Waiting} {amount : Int} {f : Folio}

theorem holdNumber_unused (few : s.fst.outstanding.length < 65535) (low : 1 ≤ s.fst.nextHold) (high : s.fst.nextHold ≤ 65535) :
    1 ≤ s.fst.holdNumber ∧ s.fst.holdNumber ≤ 65535 ∧ ∀ h ∈ s.fst.outstanding, h.number ≠ s.fst.holdNumber := by
  have length : (s.fst.outstanding.map (·.number)).length = s.fst.outstanding.length := List.length_map ..
  have free := freeHoldNumber_not_mem (length ▸ few) low high
  rw [length] at free
  exact ⟨(freeHoldNumber_range low high).1, (freeHoldNumber_range low high).2, fun h out same => free (List.mem_map.2 ⟨h, out, same⟩)⟩

theorem holdNumber_next (free : ∀ h ∈ s.fst.outstanding, h.number ≠ s.fst.nextHold) : s.fst.holdNumber = s.fst.nextHold :=
  freeHoldNumber_of_free fun taken => by
    obtain ⟨h, out, same⟩ := List.mem_map.1 taken
    exact free h out same

/-! ### Check 7 (R72) -/

theorem openTabDecline_noFolio (free : s.fst.folios.get w.folio = none) : openTabDecline w amount s = some { reason := .folioClosed } := by
  simp only [openTabDecline, free]

section
variable (inUse : s.fst.folios.get w.folio = some f)
include inUse

theorem openTabDecline_frozen (frozen : f.state = .frozen) : openTabDecline w amount s = some { reason := .folioFrozen } := by
  simp only [openTabDecline, inUse, frozen, if_true]

theorem openTabDecline_closed (closed : f.state = .closed) : openTabDecline w amount s = some { reason := .folioClosed } := by
  simp only [openTabDecline, inUse, closed, reduceCtorEq, if_false, if_true]

theorem openTabDecline_of_opened (opened : f.state = .opened) : openTabDecline w amount s =
    if 4 ≤ f.holds.length then some { reason := .holdsFull }
    else if f.limit < f.balance + (f.holds.map (·.amount)).sum + amount then some { reason := .overLimit } else none := by
  simp only [openTabDecline, inUse, opened, reduceCtorEq, if_false]
  rfl

theorem openTabDecline_passes (opened : f.state = .opened) (few : f.holds.length < 4) (within : f.balance + (f.holds.map (·.amount)).sum + amount ≤ f.limit) :
    openTabDecline w amount s = none := by
  rw [openTabDecline_of_opened inUse opened, if_neg (Nat.not_le.2 few), if_neg (Int.not_lt.2 within)]

end

/-! ### The settlement (R105) -/

theorem settleOpenTab_declined {d : Decline} (decline : openTabDecline w amount s = some d) :
    settleOpenTab n w amount s = decided n .openTab w.sequence (declinedBody d.reason d.detail1 d.detail2 0) s := by
  simp only [settleOpenTab, decline]
  rfl

theorem settleOpenTab_full (passes : openTabDecline w amount s = none) (full : 16384 ≤ s.jnl.used) :
    settleOpenTab n w amount s = decided n .openTab w.sequence (declinedBody .journalFull 0 0 0) (raise .journalFull 3 {} s) := by
  simp only [settleOpenTab, passes, offerMoney_of_full full]
  rfl

/-- The hold that an OPEN TAB reserves. -/
def holdOpened (n : Fin 128) (w : Waiting) (amount : Int) (s : State) : Hold :=
  { number := s.fst.holdNumber, venue := w.venue, till := n, person := w.person, amount := amount, openedAt := s.scl.voyage, fallenDue := false }

/-- The state of an opened tab up to its NEAR test. -/
def tabReserved (w : Waiting) (f : Folio) (h : Hold) (s : State) : State :=
  { putFolio w.folio (f.addHold h) s with fst := { (putFolio w.folio (f.addHold h) s).fst with nextHold := nextHoldNumber h.number } }

theorem settleOpenTab_posted (inUse : s.fst.folios.get w.folio = some f) (passes : openTabDecline w amount s = none) (room : s.jnl.used < 16384) :
    settleOpenTab n w amount s = decided n .openTab w.sequence (approvedBody 0 amount 0 0 s.fst.holdNumber) (successUpdate w.serial
      (nearTest w.folio (tabReserved w f (holdOpened n w amount s) (takeIn (openTabRecord n w amount s.fst.holdNumber) s)))) := by
  have inUse' : (takeIn (openTabRecord n w amount s.fst.holdNumber) s).fst.folios.get w.folio = some f := by rw [takeIn_fst]; exact inUse
  simp only [settleOpenTab, passes, offerMoney_of_room room, postOpenTab, changeFolio, inUse', takeIn_scl, tabReserved, holdOpened]
  rfl

end

/-- Settles O37: the number by `holdNumber_unused`, the hold part by part from `settleOpenTab_posted`, the declines by check 7. -/
theorem openTabSettlementReservesAHold : Obligations.OpenTabSettlementReservesAHold := by
  intro s n w amount settled waits work declines
  have ended := (exec_settlement settled waits).2.1 amount work
  have ends : ∀ {d : Decline}, openTabDecline w amount s = some d → d.detail1 = 0 → d.detail2 = 0 → declines d.reason s := fun {d} decline none none' => by
    show exec _ _ = _
    rw [ended, settleOpenTab_declined decline, none, none']
  refine ⟨fun free => ends (openTabDecline_noFolio free) rfl rfl, fun f inUse => ⟨fun frozen => ends (openTabDecline_frozen inUse frozen) rfl rfl,
    fun closed => ends (openTabDecline_closed inUse closed) rfl rfl,
    fun opened full => ends ((openTabDecline_of_opened inUse opened).trans (if_pos full)) rfl rfl,
    fun opened few beyond => ends ((openTabDecline_of_opened inUse opened).trans ((if_neg (Nat.not_le.2 few)).trans (if_pos beyond))) rfl rfl,
    fun opened few within full => ended.trans (congrArg _ (settleOpenTab_full (openTabDecline_passes inUse opened few within) full)),
    fun opened few within room => ?_⟩⟩
  have posted := ended.trans (congrArg _ (settleOpenTab_posted inUse (openTabDecline_passes inUse opened few within) room))
  let r := openTabRecord n w amount s.fst.holdNumber
  let h := holdOpened n w amount s
  have fst : (tabReserved w f h (takeIn r s)).fst =
      { { s.fst with nextHold := nextHoldNumber s.fst.holdNumber } with folios := s.fst.folios.set w.folio (f.addHold h) } := by
    simp only [tabReserved, putFolio_fst, takeIn_fst]
    rfl
  have causes : ∀ c, (tabReserved w f h (takeIn r s)).cause c = (takeIn r s).cause c := fun c => rfl
  refine ⟨_, s.fst.holdNumber, ((f.addHold h).nearTested s.fst.band).near, posted, ?marked, holdNumber_unused, holdNumber_next, ?fst, ?jnl,
    successUpdate_crg_congr (by simp [tabReserved]) (by simp [tabReserved]) _, by simp [tabReserved], decided_chu_congr (by simp [tabReserved]),
    ?answer, ?high, ?near, ?frame, ?other⟩
  case marked =>
    rw [nearTested_near_iff]
    simp only [Folio.addHold, List.map_append, List.sum_append, List.map_cons, List.map_nil, List.sum_cons, List.sum_nil, Int.add_zero, ← Int.add_assoc]
    rfl
  case fst =>
    rw [decided_fst, successUpdate_fst, nearTest_fst_of_set fst rfl]
    rfl
  case jnl => simp [tabReserved, openTabRecord, holdAux]
  case answer => rw [decided_txOf_till (s := s) (by simp [tabReserved]), decided_txOf_till (s := s) rfl]
  case high =>
    refine raisedWhen_of_cause (t := takeIn r s) ?_ (raisedWhen_takeIn r s)
    exact (cause_successUpdate ..).trans ((cause_nearTest_other (by decide) ..).trans (causes _))
  case near =>
    exact raisedWhen_of_cause (cause_successUpdate ..)
      (raisedWhen_nearTest_of_set fst rfl ((causes _).trans (cause_takeIn (by decide) ..)) (by simp [tabReserved]))
  case frame => apply settlementFrame_decided <;> simp [tabReserved]
  case other =>
    intro c notHigh notNear
    exact (cause_successUpdate ..).trans ((cause_nearTest_other notNear ..).trans ((causes _).trans (cause_takeIn notHigh ..)))

end Sys2Proof.Machine
end

section
/-! O38 and O39: the settlements of a CLOSE TAB and of a VOID (R70, R71, R73, R74, R106, R108). -/
namespace Sys2Proof.Machine

section
variable {s t : State} {n : Fin 128} {w : Waiting} {sums : Sums} {number : Nat} {f : Folio} {a : Approved}

/-! ### A till posting with the freeze (R70) -/

theorem frozenIfOver_nearTested (g : Folio) (band : Nat) : g.frozenIfOver.nearTested band =
    { g with near := (g.nearTested band).near,
             state := if g.state = .opened ∧ g.limit < g.balance + (g.holds.map (·.amount)).sum then .frozen else g.state } := by
  rw [Folio.frozenIfOver_eq]
  rfl

theorem frozenIfOver_near (g : Folio) (band : Nat) : (g.frozenIfOver.nearTested band).near = (g.nearTested band).near ∧ g.frozenIfOver.near = g.near := by
  unfold Folio.frozenIfOver
  split <;> exact ⟨rfl, rfl⟩

/-- The folio has taken a posting with the freeze, and the day total the amount. -/
def tillPosted (m : Nat) (g : Folio) (amount : Int) (s : State) : State := addToDay amount (postFromTill m g s)

theorem tillPosted_fst (m : Nat) (g : Folio) (amount : Int) (same : t.fst = s.fst) : (tillPosted m g amount t).fst =
    { s.fst.addToDay amount with folios := s.fst.folios.set m g.frozenIfOver } := by
  rw [tillPosted, addToDay_fst, postFromTill_fst, Fst.addToDay_withFolios, same]

theorem cause_tillPosted_other {c : Cause} (other : c ≠ .folioOverLimit) (m : Nat) (g : Folio) (amount : Int) (s : State) :
    (tillPosted m g amount s).cause c = s.cause c := cause_postFromTill_other other ..

theorem cause_changeSpending (c : Cause) (person : Nat) (change : Spending → Spending) (s : State) : (changeSpending person change s).cause c = s.cause c :=
  cause_of_atu changeSpending_atu

/-! ### Check 7 of a CLOSE TAB (R73, R106) -/

theorem closeTabHold_noFolio (free : s.fst.folios.get w.folio = none) : closeTabHold w number s = .error { reason := .folioClosed } := by
  simp only [closeTabHold, free]

section
variable (inUse : s.fst.folios.get w.folio = some f)
include inUse

theorem closeTabHold_closed (closed : f.state = .closed) : closeTabHold w number s = .error { reason := .folioClosed } := by
  simp only [closeTabHold, inUse, closed, if_true]

variable (unclosed : f.state ≠ .closed)
include unclosed

theorem closeTabHold_unknown (unknown : f.hold number = none) : closeTabHold w number s = .error { reason := .holdUnknown } := by
  simp only [closeTabHold, inUse, unclosed, if_false, unknown]

theorem closeTabHold_found {h : Hold} (found : f.hold number = some h) : closeTabHold w number s = .ok h := by
  simp only [closeTabHold, inUse, unclosed, if_false, found]

end

theorem settleCloseTab_declined {d : Decline} (decline : closeTabHold w number s = .error d) :
    settleCloseTab n w number sums s = decided n .closeTab w.sequence (declinedBody d.reason d.detail1 d.detail2 number) s := by
  simp only [settleCloseTab, decline]
  rfl

theorem settleCloseTab_full {h : Hold} (found : closeTabHold w number s = .ok h) (full : 16384 ≤ s.jnl.used) :
    settleCloseTab n w number sums s = decided n .closeTab w.sequence (declinedBody .journalFull 0 0 number) (raise .journalFull 4 {} s) := by
  simp only [settleCloseTab, found, offerMoney_of_full full]
  rfl

/-- The state of a closed tab up to its spending. -/
def tabPosted (w : Waiting) (sums : Sums) (number : Nat) (f : Folio) (s : State) : State :=
  changeSpending w.person (·.posted sums.s s.scl.folioDay) (nearTest w.folio (tillPosted w.folio ((f.without number).plus sums.s) sums.s s))

theorem settleCloseTab_posted {h : Hold} (inUse : s.fst.folios.get w.folio = some f) (found : closeTabHold w number s = .ok h) (room : s.jnl.used < 16384) :
    settleCloseTab n w number sums s = decided n .closeTab w.sequence (approvedBody s.jnl.next sums.s sums.g sums.t number) (successUpdate w.serial
      (setApproved n (some { kind := .tabClose, charge := s.jnl.next, voyage := s.scl.voyage, folio := w.folio, person := w.person, total := sums.s })
        (tabPosted w sums number f (takeIn (closeTabRecord n w h sums) s)))) := by
  have inUse' : (takeIn (closeTabRecord n w h sums) s).fst.folios.get w.folio = some f := by rw [takeIn_fst]; exact inUse
  simp only [settleCloseTab, found, offerMoney_of_room room, postCloseTab, postToFolio, inUse', takeIn_scl, tabPosted, tillPosted]
  rfl

/-! ### Check 7 of a VOID (R71, R74) -/

theorem voidOutOfRange_iff (balance total : Int) : voidOutOfRange balance total = true ↔
    (0 < total ∧ balance - total < -1073741824) ∨ (total < 0 ∧ 1073741824 < balance - total) := by
  simp [voidOutOfRange, Config.balanceBound]

theorem voidDecline_noFolio (free : s.fst.folios.get w.folio = none) : voidDecline w a s = some { reason := .folioClosed } := by
  simp only [voidDecline, free]

section
variable (inUse : s.fst.folios.get w.folio = some f)
include inUse

theorem voidDecline_refused (refused : f.state = .closed ∨ voidOutOfRange f.balance a.total = true) : voidDecline w a s = some { reason := .voidRefused } := by
  unfold voidDecline
  rw [inUse]
  dsimp only
  split
  · rfl
  next unclosed => exact if_pos (refused.resolve_left unclosed)

theorem voidDecline_passes (unclosed : f.state ≠ .closed) (within : ¬ voidOutOfRange f.balance a.total = true) : voidDecline w a s = none := by
  simp only [voidDecline, inUse, unclosed, within, if_false, Bool.false_eq_true]

end

theorem settleVoid_declined {d : Decline} (decline : voidDecline w a s = some d) :
    settleVoid n w a s = decided n .void w.sequence (declinedBody d.reason d.detail1 d.detail2 0) s := by
  simp only [settleVoid, decline]
  rfl

theorem settleVoid_full (passes : voidDecline w a s = none) (full : 16384 ≤ s.jnl.used) :
    settleVoid n w a s = decided n .void w.sequence (declinedBody .journalFull 0 0 0) (raise .journalFull 2 {} s) := by
  simp only [settleVoid, passes, offerMoney_of_full full]
  rfl

/-- The state of a void up to its NEAR test. -/
def voidPosted (w : Waiting) (a : Approved) (f : Folio) (s : State) : State :=
  changeSpending w.person (·.voided a.total s.scl.folioDay) (tillPosted w.folio (f.plus (-a.total)) (-a.total) s)

theorem settleVoid_posted (inUse : s.fst.folios.get w.folio = some f) (passes : voidDecline w a s = none) (room : s.jnl.used < 16384) :
    settleVoid n w a s = decided n .void w.sequence (approvedBody s.jnl.next a.total 0 0 0)
      (setApproved n none (nearTest w.folio (voidPosted w a f (takeIn (voidRecord n w a) s)))) := by
  have inUse' : (takeIn (voidRecord n w a) s).fst.folios.get w.folio = some f := by rw [takeIn_fst]; exact inUse
  simp only [settleVoid, passes, offerMoney_of_room room, postVoid, postToFolio, inUse', takeIn_scl, voidPosted, tillPosted]
  rfl

end

/-- The decision of a void touches no cause. -/
theorem cause_voided {s : State} {n : Fin 128} {sequence : Byte} {b : AnswerBody} (c : Cause) (v : Option Approved) :
    (decided n .void sequence b (setApproved n v s)).cause c = s.cause c := rfl

/-! ### The obligations -/

/-- Settles O38: the posting part by part from `settleCloseTab_posted`, the declines by check 7. -/
theorem closeTabSettlementPostsTheTab : Obligations.CloseTabSettlementPostsTheTab := by
  rintro s n w number sums settled waits ⟨lines, work⟩ declines
  have ended := (exec_settlement settled waits).2.2.1 number sums lines work
  have ends : ∀ {d : Decline}, closeTabHold w number s = .error d → d.detail1 = 0 → d.detail2 = 0 → declines d.reason s := fun {d} decline none none' => by
    show exec _ _ = _
    rw [ended, settleCloseTab_declined decline, none, none']
  refine ⟨fun free => ends (closeTabHold_noFolio free) rfl rfl, fun f inUse => ⟨fun closed => ends (closeTabHold_closed inUse closed) rfl rfl,
    fun unclosed unknown => ends (closeTabHold_unknown inUse unclosed unknown) rfl rfl, fun h unclosed held =>
    ⟨fun full => ended.trans (congrArg _ (settleCloseTab_full (closeTabHold_found inUse unclosed held) full)), fun room => ?_⟩⟩⟩
  intro holds exceeds
  have posted := ended.trans (congrArg _ (settleCloseTab_posted inUse (closeTabHold_found inUse unclosed held) room))
  have numbered : h.number = number := by simpa using List.find?_some held
  let r := closeTabRecord n w h sums
  let g := (f.without number).plus sums.s
  have fst := tillPosted_fst (s := s) (t := takeIn r s) w.folio g sums.s (takeIn_fst ..)
  have near_eq := frozenIfOver_near g s.fst.band
  have spent : ∀ {p : Person}, s.persons.get w.person = some p →
      (tabPosted w sums number f (takeIn r s)).persons.get w.person = some { p with spend := p.spend.posted sums.s s.scl.folioDay } := fun {p} person => by
    rw [tabPosted, changeSpending_get_same (p := p), takeIn_scl]
    simpa [tillPosted] using person
  have causes : ∀ c, c ≠ .folioNearLimit → c ≠ .folioOverLimit → (tabPosted w sums number f (takeIn r s)).cause c = (takeIn r s).cause c :=
    fun c notNear notOver => (cause_changeSpending ..).trans ((cause_nearTest_other notNear ..).trans (cause_tillPosted_other notOver ..))
  refine ⟨_, (g.nearTested s.fst.band).near, posted, nearTested_near_iff g _, ?fst, ?jnl, successUpdate_crg_congr (by simp [tabPosted, tillPosted]) (by simp [tabPosted, tillPosted]) _,
    fun p person other => ?_, fun p person allowance => ?_, fun m other => ?_,
    decided_setApproved_chu (successUpdate_chu ..) (by simp [tabPosted, tillPosted]), decided_txOf_till (by simp [tabPosted, tillPosted]), ?high, ?near, ?frozen, ?frame, ?other⟩
  case fst =>
    rw [decided_fst, successUpdate_fst, setApproved_fst, tabPosted, changeSpending_fst, nearTest_fst_of_set fst (Fst.addToDay_band ..), frozenIfOver_nearTested]
    rfl
  case jnl => simp [tabPosted, tillPosted, closeTabRecord, holdAux]
  · rw [decided_persons, successUpdate_persons, setApproved_persons, spent person, Spending.posted_of_other other]
  · rw [decided_persons, successUpdate_persons, setApproved_persons, spent person, Spending.posted_of_allowance allowance]
  · rw [decided_persons, successUpdate_persons, setApproved_persons, tabPosted, changeSpending_get_other other]
    simp [tillPosted]
  case high => exact raisedWhen_of_cause ((cause_approved ..).trans (causes _ (by decide) (by decide))) (raisedWhen_takeIn r s)
  case near =>
    have near := raisedWhen_nearTest_of_set (s := s) fst (Fst.addToDay_band ..) ((cause_tillPosted_other (by decide) ..).trans (cause_takeIn (by decide) ..))
      (by simp [tillPosted])
    rw [near_eq.1, near_eq.2] at near
    exact raisedWhen_of_cause ((cause_approved ..).trans (cause_changeSpending ..)) near
  case frozen =>
    exact raisedWhen_of_cause ((cause_approved ..).trans ((cause_changeSpending ..).trans (cause_nearTest_other (by decide) ..)))
      (raisedWhen_postFromTill w.folio g (cause_takeIn (by decide) ..) (takeIn_scl ..))
  case frame => apply settlementFrame_decided <;> simp [tabPosted, tillPosted]
  case other =>
    exact fun c notHigh notNear notOver => (cause_approved ..).trans ((causes c notNear notOver).trans (cause_takeIn notHigh ..))

/-- Settles O39: the taking back part by part from `settleVoid_posted`, the declines by check 7. -/
theorem voidSettlementTakesTheTotalBack : Obligations.VoidSettlementTakesTheTotalBack := by
  intro s n w a settled waits work declines
  have ended := (exec_settlement settled waits).2.2.2 a work
  have ends : ∀ {d : Decline}, voidDecline w a s = some d → d.detail1 = 0 → d.detail2 = 0 → declines d.reason s := fun {d} decline none none' => by
    show exec _ _ = _
    rw [ended, settleVoid_declined decline, none, none']
  refine ⟨fun free => ends (voidDecline_noFolio free) rfl rfl, fun f inUse => ?_⟩
  intro beyond
  have beyond_iff := voidOutOfRange_iff f.balance a.total
  refine ⟨fun refused => ends (voidDecline_refused inUse (refused.imp_right beyond_iff.2)) rfl rfl,
    fun unclosed within full => ended.trans (congrArg _ (settleVoid_full (voidDecline_passes inUse unclosed (mt beyond_iff.1 within)) full)),
    fun unclosed within room => ?_⟩
  intro exceeds
  have posted := ended.trans (congrArg _ (settleVoid_posted inUse (voidDecline_passes inUse unclosed (mt beyond_iff.1 within)) room))
  let r := voidRecord n w a
  let g := f.plus (-a.total)
  have fst := tillPosted_fst (s := s) (t := takeIn r s) w.folio g (-a.total) (takeIn_fst ..)
  have fst : (voidPosted w a f (takeIn r s)).fst = _ := changeSpending_fst.trans fst
  have near_eq := frozenIfOver_near g s.fst.band
  have spent : ∀ {p : Person}, s.persons.get w.person = some p →
      (voidPosted w a f (takeIn r s)).persons.get w.person = some { p with spend := p.spend.voided a.total s.scl.folioDay } := fun {p} person => by
    rw [voidPosted, changeSpending_get_same (p := p), takeIn_scl]
    simpa [tillPosted] using person
  have causes : ∀ c, c ≠ .folioOverLimit → (voidPosted w a f (takeIn r s)).cause c = (takeIn r s).cause c :=
    fun c notOver => (cause_changeSpending ..).trans (cause_tillPosted_other notOver ..)
  refine ⟨_, (g.nearTested s.fst.band).near, posted, nearTested_near_iff g _, ?fst, ?jnl, by simp [voidPosted, tillPosted],
    fun p person earlier => ?_, fun p person today => ?_, fun m other => ?_,
    decided_setApproved_chu rfl (by simp [voidPosted, tillPosted]), decided_txOf_till (by simp [voidPosted, tillPosted]), ?high, ?near, ?frozen, ?frame, ?other⟩
  case fst =>
    rw [decided_fst, setApproved_fst, nearTest_fst_of_set fst (Fst.addToDay_band ..), frozenIfOver_nearTested]
    rfl
  case jnl => simp [voidPosted, tillPosted, voidRecord]
  · rw [decided_persons, setApproved_persons, nearTest_persons, spent person, Spending.voided_of_earlier earlier]
  · rw [decided_persons, setApproved_persons, nearTest_persons, spent person, Spending.voided_of_today today]
  · rw [decided_persons, setApproved_persons, nearTest_persons, voidPosted, changeSpending_get_other other]
    simp [tillPosted]
  case high => exact raisedWhen_of_cause ((cause_voided ..).trans ((cause_nearTest_other (by decide) ..).trans (causes _ (by decide)))) (raisedWhen_takeIn r s)
  case near =>
    have near := raisedWhen_nearTest_of_set (s := s) fst (Fst.addToDay_band ..) ((causes _ (by decide)).trans (cause_takeIn (by decide) ..))
      (by simp [voidPosted, tillPosted])
    rw [near_eq.1, near_eq.2] at near
    exact raisedWhen_of_cause (cause_voided ..) near
  case frozen =>
    exact raisedWhen_of_cause ((cause_voided ..).trans ((cause_nearTest_other (by decide) ..).trans (cause_changeSpending ..)))
      (raisedWhen_postFromTill w.folio g (cause_takeIn (by decide) ..) (takeIn_scl ..))
  case frame => apply settlementFrame_decided <;> simp [voidPosted, tillPosted]
  case other =>
    exact fun c notHigh notNear notOver => (cause_voided ..).trans ((cause_nearTest_other notNear ..).trans ((causes c notOver).trans (cause_takeIn notHigh ..)))

end Sys2Proof.Machine
end

section
/-! O42: the access decision (R116-R122). -/
namespace Sys2Proof.Machine

theorem Cau.cabinNumberAt_eq (c : Cau) (i : Fin 8) (node : Nat) : c.cabinNumberAt i node = (c.cabinAt i node).elim 0 (·.1) := by
  unfold Cau.cabinNumberAt
  cases c.cabinAt i node <;> rfl

section
variable {s u : State} {i : Fin 8} {node : Nat} {serial : Word32} {f : Found} {d : AccessDecision} {n : Nat} {c : Cabin}

/-! ### The update and the record (R121, R122) -/

theorem accessUpdate_eq (decides : d ≠ .defer) (serial : Word32) (s : State) :
    accessUpdate d serial s = if d = .grant ∨ d = .grantMaster then successUpdate serial s else failureUpdate serial s := by
  cases d with
  | defer => exact absurd rfl decides
  | _ => rfl

@[simp] theorem accessUpdate_cau : (accessUpdate d serial s).cau = s.cau := by
  unfold accessUpdate
  split <;> simp

/-- In LOADING every presentation is deferred (R116). -/
theorem present_loading (loading : s.slc.service = .loading) : present i node serial s =
    (.defer, logAccess .defer { kind := .access, index := s.cau.cabinNumberAt i node, serial := serial, place := i.val,
                                reason := AccessDecision.defer.number, b := node } s) := by
  simp only [present, loading, if_true]
  rfl

section
variable (serving : s.slc.service = .serving) (decided : decideServing i node serial s = ⟨d, false, s⟩) (unknown : lookup serial s = none)
include serving decided unknown

theorem present_unknown (denies : d = .denyNotBound ∨ d = .denyUnknown) : present i node serial s =
    (d, logAccess d { kind := .access, index := s.cau.cabinNumberAt i node, serial := serial, place := i.val, reason := d.number, b := node }
      (failureUpdate serial s)) := by
  have denial : accessUpdate d serial s = failureUpdate serial s := by rcases denies with rfl | rfl <;> rfl
  simp only [present, serving, reduceCtorEq, if_false, decided, unknown, denial, accessRecord]
end

theorem present_found {lenient : Bool} (serving : s.slc.service = .serving) (decided : decideServing i node serial s = ⟨d, lenient, u⟩)
    (found : lookup serial s = some f) (decides : d ≠ .defer) : present i node serial s =
    (d, logAccess d { kind := .access, flags := { lenient := lenient, irregular := u.irregular f.card.person }, index := s.cau.cabinNumberAt i node,
                      serial := serial, folio := f.person.ident.folio, place := i.val, reason := d.number, a := f.card.person, b := node,
                      c := f.card.keyLevel.number }
      (if d = .grant ∨ d = .grantMaster then successUpdate serial u else failureUpdate serial u)) := by
  simp only [present, serving, reduceCtorEq, if_false, decided, found, accessRecord, accessUpdate_eq decides]

theorem Logging.records_eq (l : Logging) (d : AccessDecision) :
    l.records d = match l with | .nothing => false | .denials => decide (4 ≤ d.number) | .all => true := by
  cases l <;> rfl

/-! ### Lines 2 to 4 (R117, R118) -/

theorem decideServing_noCabin (free : s.cau.cabinAt i node = none) : decideServing i node serial s = ⟨.denyNotBound, false, s⟩ := by
  simp only [decideServing, free]

section
variable (cabin : s.cau.cabinAt i node = some (n, c))
include cabin

theorem decideServing_unknown (unknown : lookup serial s = none) : decideServing i node serial s = ⟨.denyUnknown, false, s⟩ := by
  simp only [decideServing, cabin, unknown]

variable (found : lookup serial s = some f)
include found

theorem decideServing_card (denial : cardDenial f.card.state = some d) : decideServing i node serial s =
    ⟨d, false, if f.card.state = .lost then raise .lostCardPresented serial (detail 1 n) s else s⟩ := by
  simp only [decideServing, cabin, found, denial]

variable (active : f.card.state = .active)
include active

theorem decideServing_active : decideServing i node serial s = presenceLine n c f s := by
  simp only [decideServing, cabin, found, active, cardDenial]

theorem decideServing_strict (away : f.person.att.presence = .ashore ∨ f.person.att.presence = .expected) (strict : s.cau.policy = .strict) :
    decideServing i node serial s = ⟨.denyAshore, false, raise .ashoreSighting (BitVec.ofNat 32 f.card.person) (detail 1 c.segment.val n) s⟩ := by
  rw [decideServing_active cabin found active]
  rcases away with place | place <;> simp only [presenceLine, place, strict] <;> rfl

/-- Past line 4 the door decides: the person is ABOARD, or a LENIENT sighting has brought them so. -/
theorem decideServing_door {lenient : Bool} (passes : (lenient = false ∧ u = s ∧ f.person.att.presence = .aboard)
      ∨ (lenient = true ∧ s.cau.policy = .lenient ∧ (f.person.att.presence = .ashore ∨ f.person.att.presence = .expected)
          ∧ u = sighting f.card.person f.person f.card.serial (.atLock c.segment.val n) s)) :
    decideServing i node serial s = ⟨doorDecision c f s.scl.voyage, lenient, u⟩ ∧ u.cau = s.cau := by
  rw [decideServing_active cabin found active]
  rcases passes with ⟨rfl, rfl, aboard⟩ | ⟨rfl, policy, away, rfl⟩
  · exact ⟨by simp only [presenceLine, aboard], rfl⟩
  · exact ⟨by rcases away with place | place <;> simp only [presenceLine, place, policy], sighting_cau ..⟩

end

/-! ### Lines 5 to 9 (R119, R120) -/

theorem Card.isMaster_iff (k : Card) (segment : Fin 8) : k.isMaster segment = true ↔ k.keyLevel ≠ .noKey ∧ k.mask.getLsbD segment.val = true := by
  simp [Card.isMaster]

section
variable {now : Nat}

theorem doorDecision_master (master : f.card.keyLevel ≠ .noKey ∧ f.card.mask.getLsbD c.segment.val = true) :
    doorDecision c f now = masterDecision f.card.keyLevel c := if_pos ((Card.isMaster_iff ..).2 master)

theorem masterDecision_officer (closed : c.state = .lockedDown ∨ c.privacy = true) : masterDecision .officer c = .grantMaster := by
  rw [masterDecision]
  by_cases locked : c.state = .lockedDown
  · rw [if_pos locked, if_pos rfl]
  · rw [if_neg locked, if_pos (closed.resolve_left locked), if_pos rfl]

theorem masterDecision_lockedDown {level : KeyLevel} (closed : c.state = .lockedDown) (other : level ≠ .officer) : masterDecision level c = .denyCabinClosed := by
  rw [masterDecision, if_pos closed, if_neg other]

theorem masterDecision_privacy {level : KeyLevel} (unlocked : c.state ≠ .lockedDown) (privacy : c.privacy = true) (other : level ≠ .officer) :
    masterDecision level c = .denyPrivacy := by
  rw [masterDecision, if_neg unlocked, if_pos privacy, if_neg other]

theorem masterDecision_plain {level : KeyLevel} (unlocked : c.state ≠ .lockedDown) (plain : c.privacy = false) : masterDecision level c = .grantMaster := by
  rw [masterDecision, if_neg unlocked, if_neg (Bool.eq_false_iff.1 plain)]

section
variable (holder : ¬ (f.card.keyLevel ≠ .noKey ∧ f.card.mask.getLsbD c.segment.val = true))
include holder

theorem doorDecision_own : doorDecision c f now = ownDecision c f.card.person now := if_neg fun master => holder ((Card.isMaster_iff ..).1 master)

theorem doorDecision_closed (closed : c.state ≠ .inService) : doorDecision c f now = .denyCabinClosed := by
  rw [doorDecision_own holder, ownDecision, if_pos closed]

variable (inService : c.state = .inService)
include inService

theorem doorDecision_unbound (unbound : c.bindings.find? (fun b => b.person == f.card.person) = none) : doorDecision c f now = .denyNotBound := by
  simp only [doorDecision_own holder, ownDecision, Cabin.bindingOf, inService, ne_eq, not_true_eq_false, if_false, unbound]

variable {b : Binding} (bound : c.bindings.find? (fun b => b.person == f.card.person) = some b)
include bound

theorem doorDecision_bound : doorDecision c f now = if b.notYet now then .denyNotYet else if b.expired now then .denyExpired
    else if c.privacy ∧ b.kind = .service then .denyPrivacy else .grant := by
  simp only [doorDecision_own holder, ownDecision, Cabin.bindingOf, inService, ne_eq, not_true_eq_false, if_false, bound]

theorem doorDecision_notYet (early : now < b.validFrom) : doorDecision c f now = .denyNotYet := by
  have notYet : b.notYet now = true := decide_eq_true early
  rw [doorDecision_bound holder inService bound, if_pos notYet]

variable (begun : b.validFrom ≤ now)
include begun

theorem doorDecision_expired (late : ∃ e, b.validUntil = some e ∧ e ≤ now) : doorDecision c f now = .denyExpired := by
  obtain ⟨e, until_, past⟩ := late
  have valid : ¬ b.notYet now = true := fun early => absurd (of_decide_eq_true early) (Nat.not_lt.2 begun)
  have expired : b.expired now = true := by simp only [Binding.expired, until_, past, decide_true]
  rw [doorDecision_bound holder inService bound, if_neg valid, if_pos expired]

theorem doorDecision_valid (inTime : ∀ e, b.validUntil = some e → now < e) :
    doorDecision c f now = if c.privacy ∧ b.kind = .service then .denyPrivacy else .grant := by
  have valid : ¬ b.notYet now = true := fun early => absurd (of_decide_eq_true early) (Nat.not_lt.2 begun)
  have unexpired : ¬ b.expired now = true := by
    unfold Binding.expired
    cases ends : b.validUntil with
    | none => nofun
    | some e => simpa using inTime e ends
  rw [doorDecision_bound holder inService bound, if_neg valid, if_neg unexpired]

end
end
end

/-- Settles O42: lines 1 to 4 by `decideServing_*`, lines 5 to 9 by `doorDecision_*`. -/
theorem accessDecisionsFollowTheLines : Obligations.AccessDecisionsFollowTheLines := by
  intro s i node serial cabin logged record written
  have cabin_eq : cabin = s.cau.cabinNumberAt i node := (Cau.cabinNumberAt_eq ..).symm
  have written_eq : ∀ d r u, u.cau = s.cau → written d r u = logAccess d r u := by
    intro d r u cau
    have same : logged d = u.cau.logging.records d := (Logging.records_eq s.cau.logging d).symm.trans (by rw [cau])
    exact if_congr (by rw [same]) rfl rfl
  refine ⟨fun loading => ?_, fun serving => ?_⟩
  · rw [present_loading loading, written_eq _ _ _ rfl, ← cabin_eq]
    rfl
  · intro unknown
    have denied : ∀ {d : AccessDecision}, d = .denyNotBound ∨ d = .denyUnknown → lookup serial s = none → decideServing i node serial s = ⟨d, false, s⟩ → unknown d := by
      intro d denies noCard decided
      show present i node serial s = (d, written d _ _)
      rw [present_unknown serving decided noCard denies, written_eq _ _ _ (failureUpdate_cau ..), ← cabin_eq]
      rfl
    refine ⟨fun noCard => ⟨fun free => denied (.inl rfl) noCard (decideServing_noCabin free), fun listed => ?_⟩, fun f found => ?_⟩
    · obtain ⟨⟨n, c⟩, at_⟩ := Option.ne_none_iff_exists'.1 listed
      exact denied (.inr rfl) noCard (decideServing_unknown at_ noCard)
    · intro decides
      have ends : ∀ {d : AccessDecision} {lenient : Bool} {u : State}, d ≠ .defer → decideServing i node serial s = ⟨d, lenient, u⟩ → u.cau = s.cau →
          decides d lenient u := by
        intro d lenient u other decided cau
        show present i node serial s = (d, written d _ _)
        have updated : (if d = .grant ∨ d = .grantMaster then successUpdate serial u else failureUpdate serial u).cau = s.cau := by
          split
          · exact (successUpdate_cau ..).trans cau
          · exact (failureUpdate_cau ..).trans cau
        rw [present_found serving decided found other, written_eq _ _ _ updated, ← cabin_eq]
      refine ⟨fun free => ends nofun (decideServing_noCabin free) rfl, fun n c at_ => ⟨fun lost => ?_, fun suspended => ?_, fun departed => ?_,
        fun active away strict => ends nofun (decideServing_strict at_ found active away strict) (raise_cau ..), fun active lenient u passes => ?_⟩⟩
      · have decided := decideServing_card at_ found (d := .denyLost) (by rw [lost]; rfl)
        rw [if_pos lost] at decided
        exact ends nofun decided (raise_cau ..)
      · have decided := decideServing_card at_ found (d := .denySuspended) (by rw [suspended]; rfl)
        rw [if_neg (by rw [suspended]; nofun)] at decided
        exact ends nofun decided rfl
      · have decided := decideServing_card at_ found (d := .denyDeparted) (by rw [departed]; rfl)
        rw [if_neg (by rw [departed]; nofun)] at decided
        exact ends nofun decided rfl
      · intro isMaster officer own
        obtain ⟨door, cau⟩ := decideServing_door at_ found active passes
        have opens : ∀ {d : AccessDecision}, d ≠ .defer → doorDecision c f s.scl.voyage = d → decides d lenient u := fun other is => ends other (is ▸ door) cau
        refine ⟨fun master closed level => opens nofun ((doorDecision_master master).trans (level ▸ masterDecision_officer closed)),
          fun master closed level => opens nofun ((doorDecision_master master).trans (masterDecision_lockedDown closed level)),
          fun master unlocked privacy level => opens nofun ((doorDecision_master master).trans (masterDecision_privacy unlocked privacy level)),
          fun master unlocked plain => opens nofun ((doorDecision_master master).trans (masterDecision_plain unlocked plain)),
          fun holder closed => opens nofun (doorDecision_closed holder closed), fun holder inService unbound => opens nofun (doorDecision_unbound holder inService unbound),
          fun b holder inService bound => ⟨fun early => opens nofun (doorDecision_notYet holder inService bound early),
            fun begun late => opens nofun (doorDecision_expired holder inService bound begun late), fun begun inTime => ⟨fun privacy service => ?_, fun plain => ?_⟩⟩⟩
        · exact opens nofun ((doorDecision_valid holder inService bound begun inTime).trans (if_pos ⟨privacy, service⟩))
        · refine opens nofun ((doorDecision_valid holder inService bound begun inTime).trans (if_neg fun ⟨privacy, service⟩ => ?_))
          exact plain.elim (fun off => Bool.noConfusion (privacy.symm.trans off)) fun other => other service

end Sys2Proof.Machine
end

section
/-! O45: the station lines and the fetch (R147, R149, R150). -/
namespace Sys2Proof.Machine

section
variable {s u : State} {g : Fin 4} {x y : Station}

/-! ### Writing a station beside the other operations -/

theorem raise_putStation (c : Cause) (subject : Word32) (d : Detail) (g : Fin 4) (y : Station) (s : State) :
    raise c subject d (putStation g y s) = putStation g y (raise c subject d s) := by
  unfold raise
  rw [show (putStation g y s).cause c = s.cause c from rfl]
  split <;> rfl

theorem raise_setRx (c : Cause) (subject : Word32) (d : Detail) (p : Port) (r : Receiver) (s : State) :
    raise c subject d (setRx p r s) = setRx p r (raise c subject d s) := by
  unfold raise
  rw [show (setRx p r s).cause c = s.cause c from rfl]
  split <;> rfl

theorem rxOf_raise (c : Cause) (subject : Word32) (d : Detail) (p : Port) (s : State) : (raise c subject d s).rxOf p = s.rxOf p := by
  rw [State.rxOf, raise_ports]
  rfl

/-! ### Judging a fetch (R149) -/

/-- A station that has just been written is fetched from when its conditions are met. -/
theorem judgeFetch_putStation (slc : u.slc = s.slc) : judgeFetch g (putStation g y u) =
    if s.slc.service = .serving ∧ y.attached = .attached ∧ y.shortSeen = true ∧ y.fetch = .none then
      formed (.station g) .fetch (putStation g { y with shortSeen := false, fetch := .waiting .toBegin } u)
    else putStation g y u := by
  have wants : (putStation g y u).wantsFetch g = true ↔ s.slc.service = .serving ∧ y.attached = .attached ∧ y.shortSeen = true ∧ y.fetch = .none := by
    rw [← slc]
    simp only [State.wantsFetch, Station.idle, station_putStation, Bool.and_eq_true, decide_eq_true_eq, and_assoc]
    rfl
  unfold judgeFetch
  refine if_congr wants ?_ rfl
  simp only [startFetch, station_putStation, putStation_putStation]
  rfl

/-- A station that is not ATTACHED is not fetched from. -/
theorem judgeFetch_of_unattached (unattached : y.attached ≠ .attached) : judgeFetch g (putStation g y u) = putStation g y u :=
  (judgeFetch_putStation (s := u) rfl).trans (if_neg fun wants => unattached wants.2.1)

/-! ### A fetch's failure (R150) -/

section
variable (station : s.station g = x)
include station

theorem fetchFails_of_silent (silent : x.attached = .silent) : fetchFails g s =
    putStation g { x with failures := min 3 (x.failures + 1), fetch := .none, retryMs := some 5000 } s := by
  subst station
  have failed : (s.station g).failed = { s.station g with failures := min 3 ((s.station g).failures + 1), fetch := .none, retryMs := some 5000 } := by
    simp only [Station.failed, silent, true_or, if_true]
  have kept : failFetch g s = putStation g (s.station g).failed s := by
    simp only [failFetch, silent, reduceCtorEq, false_and, if_false]
  rw [fetchFails, kept, failed]
  exact judgeFetch_of_unattached (by rw [silent]; nofun)

theorem fetchFails_of_third (attached : x.attached = .attached) (third : min 3 (x.failures + 1) = 3) : fetchFails g s =
    raise .stationSilent (BitVec.ofNat 32 g.val) {}
      (putStation g { x with failures := 3, fetch := .none, attached := .silent, retryMs := some 5000 } s) := by
  subst station
  have failed : (s.station g).failed = { s.station g with failures := 3, fetch := .none, attached := .silent, retryMs := some 5000 } := by
    simp only [Station.failed, attached, third, and_self, or_true, if_true]
  have fell : failFetch g s = raise .stationSilent (stationSubject g) {} (putStation g (s.station g).failed s) := by
    simp only [failFetch, attached, failed, and_self, if_true]
  rw [fetchFails, fell, failed, raise_putStation]
  refine (judgeFetch_of_unattached ?_).trans (raise_putStation ..).symm
  nofun

theorem fetchFails_of_attached (attached : x.attached = .attached) (more : min 3 (x.failures + 1) < 3) : fetchFails g s =
    judgeFetch g (putStation g { x with failures := min 3 (x.failures + 1), fetch := .none } s) := by
  subst station
  have failed : (s.station g).failed = { s.station g with failures := min 3 ((s.station g).failures + 1), fetch := .none } := by
    simp only [Station.failed, attached, Nat.ne_of_lt more, and_false, reduceCtorEq, false_or, if_false]
  have kept : failFetch g s = putStation g (s.station g).failed s := by
    simp only [failFetch, attached, failed, reduceCtorEq, and_false, if_false]
  rw [fetchFails, kept, failed]

theorem fetchFails_of_detached (detached : x.attached = .detached) : fetchFails g s =
    putStation g { x with failures := min 3 (x.failures + 1), fetch := .none } s := by
  subst station
  have failed : (s.station g).failed = { s.station g with failures := min 3 ((s.station g).failures + 1), fetch := .none } := by
    simp only [Station.failed, detached, reduceCtorEq, false_and, or_self, if_false]
  have kept : failFetch g s = putStation g (s.station g).failed s := by
    simp only [failFetch, detached, reduceCtorEq, false_and, if_false]
  rw [fetchFails, kept, failed]
  exact judgeFetch_of_unattached (by rw [detached]; nofun)

end

/-! ### The line (R147) -/

theorem Station.restartPulsed_eq (present : x.attached ≠ .detached) : x.restartPulsed =
    { x with lineHigh := true, longSeen := true, expected := none, failures := 0, attached := .attached,
             retryMs := if x.attached = .silent then none else x.retryMs, lastShown := none } := by
  have attached : (if x.attached = .silent then .attached else x.attached) = AttachState.attached := by
    cases attached : x.attached with
    | detached => exact absurd attached present
    | _ => rfl
  simp only [Station.restartPulsed, attached]

theorem discardOnStation_of_over (past : (s.station g).fetch = .waiting .over) : discardOnStation g s = fetchFails g (heard (.station g) s) := by
  have past : ((setRx (.station g) .hunting s).station g).fetch = .waiting .over := past
  simp only [discardOnStation, past]
  rfl

theorem begunInFetch_iff (w : Window) : begunInFetch g w s = true ↔
    (∃ bytes, s.rxOf (.station g) = .collecting true bytes) ∨ (s.rxOf (.station g) = .hunting ∧ w = .running) := by
  unfold begunInFetch
  cases s.rxOf (.station g) with
  | hunting => simp
  | collecting inWindow bytes => cases inWindow <;> simp

section
variable (settled : s.boundary = none)
include settled

theorem exec_requestPulse {ms : Nat} (present : (s.station g).attached ≠ .detached) (short : ms < (s.station g).pulseLimit) :
    exec (.requestPulse g ms) s = .next (judgeFetch g (putStation g { s.station g with lineHigh := true, shortSeen := true } s)) := by
  show execRequestPulse g ms s = _
  simp only [execRequestPulse, settle_none settled, present, short, ne_eq, not_false_eq_true, and_self, if_true]

theorem exec_restartPulse {ms : Nat} (present : (s.station g).attached ≠ .detached) (long : (s.station g).pulseLimit ≤ ms) (brief : ms < 1000) :
    exec (.restartPulse g ms) s = .next (judgeFetch g (putStation g (s.station g).restartPulsed (raise .stationRestart (BitVec.ofNat 32 g.val) {} s))) := by
  show execRestartPulse g ms s = _
  simp only [execRestartPulse, settle_none settled, present, long, brief, ne_eq, not_false_eq_true, and_self, if_true, raise_putStation]
  rfl

theorem exec_detach_of_detached (detached : (s.station g).attached = .detached) : exec (.detach g) s = .next s := by
  show execDetach g s = _
  simp only [execDetach, settle_none settled, detached, if_true]

section
variable (present : (s.station g).attached ≠ .detached)
include present

theorem exec_detach_idle (noReply : ∀ w, (s.station g).fetch ≠ .waiting w) : exec (.detach g) s =
    .next (raise .stationDetached (BitVec.ofNat 32 g.val) {} (putStation g (s.station g).detachedNow s)) := by
  show execDetach g s = _
  simp only [execDetach, settle_none settled, present, if_false, raise_putStation, station_putStation]
  split
  next w waiting => exact absurd waiting (noReply w)
  next => rfl

theorem exec_detach_waiting {w : Window} (waiting : (s.station g).fetch = .waiting w) : exec (.detach g) s =
    .next (fetchFails g (putStation g (s.station g).detachedNow
      (raise .stationDetached (BitVec.ofNat 32 g.val) {} (setRx (.station g) (s.rxOf (.station g)).windowless s)))) := by
  have still : (s.station g).detachedNow.fetch = .waiting w := waiting
  show execDetach g s = _
  simp only [execDetach, settle_none settled, present, if_false, raise_putStation, station_putStation, still, dropWindow, raise_setRx]
  rw [show (putStation g (s.station g).detachedNow (raise .stationDetached (stationSubject g) {} s)).rxOf (.station g) = s.rxOf (.station g) from rxOf_raise ..]
  rfl

end

theorem exec_retryFetch (silent : (s.station g).attached = .silent) (time : (s.station g).retryMs ≠ none) (idle : (s.station g).fetch = .none) :
    exec (.retryFetch g) s = .next (startFetch g s) := by
  show execRetryFetch g s = _
  simp only [execRetryFetch, settle_none settled, silent, Option.isSome_iff_ne_none.2 time, Station.idle, idle, decide_true, and_self, if_true]

/-! ### The reply (R150) -/

theorem exec_fetchFailure (running : (s.station g).fetch = .waiting .running) (outside : ¬ ∃ bytes, s.rxOf (.station g) = .collecting true bytes) :
    exec (.fetchFailure g) s = .next (fetchFails g s) := by
  show execFetchFailure g s = _
  simp only [execFetchFailure, settle_none settled, running]
  split
  next bytes coming => exact absurd ⟨bytes, coming⟩ outside
  next => rfl

theorem exec_fetchFailure_coming {bytes : List Byte} (running : (s.station g).fetch = .waiting .running) (coming : s.rxOf (.station g) = .collecting true bytes) :
    exec (.fetchFailure g) s = .next (putStation g { s.station g with fetch := .waiting .over } s) := by
  show execFetchFailure g s = _
  simp only [execFetchFailure, settle_none settled, running, coming]

theorem exec_passages_discarded {body : List Byte} (unread : passagesOf body = none ∨ (∀ w, (s.station g).fetch ≠ .waiting w)
      ∨ (∃ bytes, s.rxOf (.station g) = .collecting false bytes) ∨ (s.rxOf (.station g) = .hunting ∧ (s.station g).fetch ≠ .waiting .running)) :
    exec (.passages g body) s = .next (discardOnStation g s) := by
  show execPassages g body s = _
  simp only [execPassages, settle_none settled]
  split
  next w records waiting read =>
    refine congrArg _ (if_neg fun begun => ?_)
    rw [begunInFetch_iff] at begun
    rcases unread with no | none | ⟨bytes, outside⟩ | ⟨hunting, past⟩
    · rw [read] at no; cases no
    · exact none w waiting
    · rcases begun with ⟨other, inside⟩ | ⟨hunting, -⟩
      · rw [outside] at inside; cases inside
      · rw [outside] at hunting; cases hunting
    · rcases begun with ⟨other, inside⟩ | ⟨-, running⟩
      · rw [hunting] at inside; cases inside
      · exact past (running ▸ waiting)
  next => rfl

theorem exec_passages_accepted {body : List Byte} {records : List Passage} {w : Window} (waiting : (s.station g).fetch = .waiting w)
    (read : passagesOf body = some records)
    (begun : (∃ bytes, s.rxOf (.station g) = .collecting true bytes) ∨ (s.rxOf (.station g) = .hunting ∧ w = .running)) :
    exec (.passages g body) s = .next (acceptPassages g records (heard (.station g) s)) := by
  show execPassages g body s = _
  simp only [execPassages, settle_none settled, waiting, read, (begunInFetch_iff w).2 begun, if_true]
  rfl

end

/-- The station once a reply of it has been accepted (R150). -/
def Station.accepted (x : Station) : Station :=
  { x with failures := 0, retryMs := none, attached := if x.attached = .silent then .attached else x.attached }

theorem acceptPassages_records {records : List Passage} (some_ : records ≠ []) :
    acceptPassages g records s = putStation g { (s.station g).accepted with fetch := .judging records [] } s := by
  cases records with
  | nil => exact absurd rfl some_
  | cons r rest => rfl

theorem acceptPassages_none (present : (s.station g).attached ≠ .detached) : acceptPassages g [] s =
    judgeFetch g (putStation g { (s.station g).accepted with fetch := .none } (formed (.station g) (.verdicts []) s)) := by
  have attached : (s.station g).accepted.attached ≠ .detached := by
    unfold Station.accepted
    dsimp only
    split
    · nofun
    · exact present
  show endFetch g [] (putStation g (s.station g).accepted s) = _
  simp only [endFetch, station_putStation, attached, if_false]
  rw [show (send (.station g) (.verdicts []) (putStation g (s.station g).accepted s)).station g = (s.station g).accepted from station_putStation g s _]
  refine congrArg (judgeFetch g) ?_
  exact putStation_putStation g (formed (.station g) (.verdicts []) s) (s.station g).accepted _

end

/-- Settles O45: the lines by `exec_*Pulse` and `exec_detach_*`, the failures by `fetchFails_*`, the replies by `acceptPassages_*`. -/
theorem stationLinesAndFetches : Obligations.StationLinesAndFetches := by
  intro s g settled x fetches failures outside begunInside h fails
  have outside_eq : outside = (s.rxOf (.station g)).windowless := by
    show (match s.rxOf (.station g) with | .hunting => .hunting | .collecting _ bytes => .collecting false bytes : Receiver) = _
    cases s.rxOf (.station g) <;> rfl
  have judged : ∀ {y : Station} {u : State}, u.slc = s.slc → judgeFetch g (putStation g y u) = fetches y u := judgeFetch_putStation
  have failed : ∀ {u : State}, u.slc = s.slc → u.station g = x → fails u (fetchFails g u) := fun slc station =>
    ⟨fetchFails_of_silent station, fetchFails_of_third station, fun attached more => (fetchFails_of_attached station attached more).trans (judged slc)⟩
  refine ⟨?fall, fun ms present short => ?request, fun ms present long brief => ?restart, fun present noReply => exec_detach_idle settled present noReply,
    fun w present waiting => ?detach, fun detached => ⟨exec_detach_of_detached settled detached, ?attach⟩, fun silent time idle => exec_retryFetch settled silent time idle,
    fun running out => ⟨_, exec_fetchFailure settled running out, failed rfl rfl⟩, fun running ⟨bytes, coming⟩ => exec_fetchFailure_coming settled running coming,
    fun why fits past => ⟨_, (discardedFrame_of_fit settled fits).trans (congrArg _ (discardOnStation_of_over past)), failed (u := h) rfl rfl⟩,
    fun body unread => ⟨fun still => ?_, fun past => ⟨_, (exec_passages_discarded settled unread).trans (congrArg _ (discardOnStation_of_over past)), failed (u := h) rfl rfl⟩⟩,
    fun body records w waiting read begun => ⟨fun some_ => ?_, fun none present => ?_⟩⟩
  case fall =>
    show execStationLineFall g s = _
    rw [execStationLineFall, settle_none settled]
    rfl
  case request => exact (exec_requestPulse settled present short).trans (congrArg _ (judged rfl))
  case restart =>
    rw [exec_restartPulse settled present long brief, Station.restartPulsed_eq (x := s.station g) present]
    exact congrArg _ (judged (raise_slc ..))
  case detach =>
    rw [exec_detach_waiting settled present waiting, outside_eq,
      fetchFails_of_detached (x := (s.station g).detachedNow) (station_putStation ..) rfl, putStation_putStation]
    rfl
  case attach =>
    show execAttach g s = _
    have detached : (s.station g).attached = .detached := detached
    simp only [execAttach, settle_none settled, detached, if_true]
    rfl
  · exact (exec_passages_discarded settled unread).trans (congrArg _ (discardOnStation_of_open still))
  · exact (exec_passages_accepted settled waiting read begun).trans (congrArg _ (acceptPassages_records (s := h) some_))
  · subst none
    exact (exec_passages_accepted settled waiting read begun).trans (congrArg _ ((acceptPassages_none (s := h) present).trans (judged rfl)))

end Sys2Proof.Machine
end

section
/-! O44: the poll cycle, and what an acceptance does to a node's record (R132-R141). -/
namespace Sys2Proof.Machine

section
variable {s : State} {i : Fin 8} {tr : Turn} {x : Node} {acknowledges : Bool}

/-! ### An acceptance (R136, R140, R141) -/

theorem nodeRecord_eq (i : Fin 8) (address : Nat) (x : Node) (reason : Nat) (s : State) : nodeRecord i address x reason s =
    { kind := .node, index := (s.cau.cabinAt i address).elim 0 (·.1), place := i.val, reason := reason, a := address, b := x.pendingMode.number,
      c := (s.lsc i).cycle } := by
  rw [nodeRecord, Cau.cabinNumberAt_eq]

theorem answerNode_of_removed (removed : tr.removed = true) : answerNode i tr acknowledges s = s := if_pos removed

section
variable (listed : tr.removed = false) (record : (s.lsc i).nodes.get tr.address = some x)
include listed record

theorem answerNode_of_heard (loud : x.state ≠ .silent) : answerNode i tr acknowledges s =
    putLsc i { s.lsc i with nodes := (s.lsc i).nodes.set tr.address (x.answered tr acknowledges) } s := by
  simp only [answerNode, listed, Bool.false_eq_true, if_false, record, loud, changeNode]

theorem answerNode_of_silent (silent : x.state = .silent) : answerNode i tr acknowledges s =
    putLsc i { s.lsc i with nodes := (s.lsc i).nodes.set tr.address (x.answered tr acknowledges) } (offerEvent (nodeRecord i tr.address x 2 s) s) := by
  have same : (offerEvent (nodeRecord i tr.address x 2 s) s).lsc i = s.lsc i := by simp [State.lsc]
  simp only [answerNode, listed, Bool.false_eq_true, if_false, record, silent, if_true, changeNode, same]

end

/-! ### The next turn (R132) -/

section
variable {l : Lsc} {a : Nat}

/-- The record is passed over by the cycle: it is new, or SILENT in a cycle that leaves such records out. -/
theorem Node.due_eq_false_iff (x : Node) (cycle : Nat) : x.due cycle = false ↔ x.isNew = true ∨ (x.state = .silent ∧ cycle ≠ 0) := by
  simp only [Node.due]
  cases x.isNew <;> simp

/-- The record at an address is one that the cycle comes to now. -/
def Lsc.comesTo (l : Lsc) (e : Nat × Node) : Bool :=
  (match l.lastTurn with | some d => decide (d < e.1) | none => true) && e.2.due l.cycle

theorem Lsc.nextDue_eq (l : Lsc) : l.nextDue = l.nodes.find? l.comesTo := rfl

theorem Lsc.comesTo_iff (l : Lsc) (b : Nat) (y : Node) : l.comesTo (b, y) = true ↔ (∀ d, l.lastTurn = some d → d < b) ∧ y.due l.cycle = true := by
  unfold Lsc.comesTo
  cases l.lastTurn <;> simp

/-- A record beyond the last turn to which the cycle does not come is passed over. -/
theorem Lsc.passed_of_not_comesTo {b : Nat} {y : Node} (passed : l.comesTo (b, y) ≠ true) (beyond : ∀ d, l.lastTurn = some d → d < b) :
    y.isNew = true ∨ (y.state = .silent ∧ l.cycle ≠ 0) :=
  (y.due_eq_false_iff l.cycle).1 (Bool.eq_false_iff.2 fun due => passed ((l.comesTo_iff b y).2 ⟨beyond, due⟩))

theorem Lsc.nextDue_eq_some (next : l.nextDue = some (a, x)) (wf : l.nodes.wf = true) : l.nodes.get a = some x ∧ x.isNew = false
    ∧ (x.state = .silent → l.cycle = 0) ∧ (∀ d, l.lastTurn = some d → d < a)
    ∧ ∀ b y, l.nodes.get b = some y → b < a → (∀ d, l.lastTurn = some d → d < b) → y.isNew = true ∨ (y.state = .silent ∧ l.cycle ≠ 0) := by
  rw [Lsc.nextDue_eq, List.find?_eq_some_iff_append] at next
  obtain ⟨comes, before, after, nodes, passed⟩ := next
  obtain ⟨beyond, due⟩ := (l.comesTo_iff a x).1 comes
  have not_passed : ¬ (x.isNew = true ∨ (x.state = .silent ∧ l.cycle ≠ 0)) := fun p => by
    rw [(x.due_eq_false_iff l.cycle).2 p] at due; cases due
  rw [not_or, Bool.not_eq_true, not_and, not_not] at not_passed
  refine ⟨Table.get_of_mem wf (by rw [nodes]; simp), not_passed.1, not_passed.2, beyond, fun b y get below further => ?_⟩
  have listed : (b, y) ∈ before ++ (a, x) :: after := nodes ▸ Table.mem_of_get get
  have sorted : (before ++ (a, x) :: after).Pairwise (fun e f => e.1 < f.1) := nodes ▸ (Table.wf_iff _).1 wf
  rcases List.mem_append.1 listed with early | late
  · exact Lsc.passed_of_not_comesTo (by simpa using passed _ early) further
  · exfalso
    rcases List.mem_cons.1 late with same | later
    · cases same; omega
    · have order := (List.pairwise_cons.1 (List.pairwise_append.1 sorted).2.1).1 _ later
      dsimp only at order
      omega

theorem Lsc.nextDue_eq_none (last : l.nextDue = none) {b : Nat} {y : Node} (get : l.nodes.get b = some y) (beyond : ∀ d, l.lastTurn = some d → d < b) :
    y.isNew = true ∨ (y.state = .silent ∧ l.cycle ≠ 0) :=
  Lsc.passed_of_not_comesTo (List.find?_eq_none.1 (l.nextDue_eq ▸ last) _ (Table.mem_of_get get)) beyond

end

/-! ### Turns and cycles begin (R132, R133, R135) -/

theorem turnFrame_eq (address : Nat) (m : LockMode) : turnFrame address m = if m = .noMode then .poll address else .mode address m := by
  cases m <;> rfl

theorem beginTurn_putLsc (i : Fin 8) (a : Nat) (x : Node) (l : Lsc) (s : State) : beginTurn i a x (putLsc i l s) =
    formed (.segment i) (if x.pendingMode = .noMode then .poll a else .mode a x.pendingMode) (putLsc i (l.withTurn a x) s) := by
  rw [beginTurn, turnFrame_eq, lsc_putLsc_same, putLsc_putLsc]
  rfl

theorem endTurn_of_next {a : Nat} (next : (s.lsc i).nextDue = some (a, x)) :
    endTurn i s = beginTurn i a x (putLsc i { s.lsc i with turn := none } s) := by
  have next : ({ s.lsc i with turn := none } : Lsc).nextDue = some (a, x) := next
  simp only [endTurn, next]

theorem endTurn_of_last (last : (s.lsc i).nextDue = none) : endTurn i s = endCycle i (putLsc i { s.lsc i with turn := none } s) := by
  have last : ({ s.lsc i with turn := none } : Lsc).nextDue = none := last
  simp only [endTurn, last]

theorem endCycle_of_empty (empty : (s.lsc i).nodes = []) : endCycle i s = putLsc i (s.lsc i).cycleOver s := by
  have over_ : (s.lsc i).cycleOver.nodes.isEmpty = true := by simp [Lsc.cycleOver, Table.mapVals, empty]
  simp only [endCycle, over_, if_true]

theorem endCycle_of_listed (listed : (s.lsc i).nodes ≠ []) : endCycle i s = beginCycle i (putLsc i (s.lsc i).cycleOver s) := by
  have over_ : (s.lsc i).cycleOver.nodes.isEmpty = false := by simpa [Lsc.cycleOver, Table.mapVals] using listed
  simp only [endCycle, over_, Bool.false_eq_true, if_false]

theorem beginCycle_eq (i : Fin 8) (l : Lsc) (s : State) : beginCycle i (putLsc i l.cycleOver s) = l.cycleOver.nextDue.elim
    (putLsc i { l.cycleOver with running := true, waitMs := some l.windowMs } s)
    fun e => beginTurn i e.1 e.2 (putLsc i { l.cycleOver with running := true } s) := by
  unfold beginCycle
  simp only [lsc_putLsc_same, putLsc_putLsc]
  rw [show Lsc.nextDue { l.cycleOver with running := true, turn := none, lastTurn := none, waitMs := none } = l.cycleOver.nextDue from rfl]
  cases l.cycleOver.nextDue <;> rfl

end

/-- Settles O44: the record by `answerNode_*`, the next turn by `Lsc.nextDue_*`, the cycles by `endTurn_*` and `endCycle_*`. -/
theorem pollCyclesGoThroughTheList : Obligations.PollCyclesGoThroughTheList := by
  intro s i l opens turnOf
  refine ⟨fun tr acknowledges x listed record => ⟨fun loud => answerNode_of_heard listed record loud, fun silent => ?silent⟩,
    fun tr acknowledges removed => answerNode_of_removed removed, fun a x next wf => Lsc.nextDue_eq_some next wf, fun a x next => ?turn,
    fun last b y get beyond => Lsc.nextDue_eq_none last get beyond, fun last => endTurn_of_last last, ?cycle⟩
  case silent =>
    have answered := answerNode_of_silent (acknowledges := acknowledges) listed record silent
    rw [nodeRecord_eq] at answered
    exact answered
  case turn => exact (endTurn_of_next next).trans (beginTurn_putLsc ..)
  case cycle =>
    intro ended
    refine ⟨fun empty => endCycle_of_empty empty, fun listed last => (endCycle_of_listed listed).trans ?_, fun a x next => ?_⟩
    · have last : l.cycleOver.nextDue = none := last
      exact (beginCycle_eq i l s).trans (by rw [last]; rfl)
    · have next : l.cycleOver.nextDue = some (a, x) := next
      have listed : l.nodes ≠ [] := fun empty => by
        have nothing : l.cycleOver.nodes = [] := by simp [Lsc.cycleOver, Table.mapVals, empty]
        rw [Lsc.nextDue_eq, nothing] at next
        cases next
      refine (endCycle_of_listed listed).trans ((beginCycle_eq i l s).trans ?_)
      rw [next]
      exact beginTurn_putLsc ..

end Sys2Proof.Machine
end

section
/-! O43: the outcomes of a node's turn (R125, R132, R135-R140). -/
namespace Sys2Proof.Machine

section
variable {s : State} {i : Fin 8} {body : List Byte} {tr : Turn} {x : Node} {a : Nat}

/-! ### Frames that are accepted (R136) -/

theorem begunInTurn_iff (i : Fin 8) (tr : Turn) (s : State) : begunInTurn i tr s = true ↔
    (∃ bytes, s.rxOf (.segment i) = .collecting true bytes) ∨ (s.rxOf (.segment i) = .hunting ∧ tr.window ≠ .over) := by
  unfold begunInTurn
  cases s.rxOf (.segment i) with
  | hunting => simp
  | collecting inWindow bytes => cases inWindow <;> simp

theorem acceptedTurn_iff (i : Fin 8) (fr : NodeFrame) (tr : Turn) (s : State) : acceptedTurn i (some fr) s = some (tr, fr) ↔
    (s.lsc i).turn = some tr ∧ fr.address = tr.address
      ∧ ((∃ bytes, s.rxOf (.segment i) = .collecting true bytes) ∨ (s.rxOf (.segment i) = .hunting ∧ tr.window ≠ .over)) := by
  rw [← begunInTurn_iff]
  unfold acceptedTurn
  cases (s.lsc i).turn with
  | none => exact ⟨nofun, fun both => nomatch both.1⟩
  | some turn =>
    simp only [Option.ite_none_right_eq_some, Option.some.injEq, Prod.mk.injEq, and_true]
    constructor
    · rintro ⟨both, rfl⟩
      exact ⟨rfl, both⟩
    · rintro ⟨rfl, both⟩
      exact ⟨both, rfl⟩

@[simp] theorem answerNode_cau (i : Fin 8) (tr : Turn) (acknowledges : Bool) (s : State) : (answerNode i tr acknowledges s).cau = s.cau := by
  unfold answerNode
  split
  · rfl
  · split
    · unfold changeNode
      dsimp only
      split <;> split <;> simp
    · rfl

section
variable (settled : s.boundary = none)
include settled

theorem exec_quiet_accepted (accepted : acceptedTurn i (quietOf body) s = some (tr, ⟨a, .quiet⟩)) :
    exec (.quiet i body) s = .next (endTurn i (answerNode i tr true (heard (.segment i) s))) := by
  show execQuiet i body s = _
  simp only [execQuiet, settle_none settled, accepted]
  rfl

theorem exec_card_accepted {serial : Word32} (accepted : acceptedTurn i (cardOf body) s = some (tr, ⟨a, .card serial⟩)) :
    exec (.card i body) s = .next (acceptCard i tr serial (heard (.segment i) s)) := by
  show execCard i body s = _
  simp only [execCard, settle_none settled, accepted]
  rfl

theorem exec_entry_accepted {e : EntryState} {privacy : Bool} (accepted : acceptedTurn i (entryOf body) s = some (tr, ⟨a, .entry e privacy⟩)) :
    exec (.entry i body) s = .next (acceptEntry i tr e privacy (heard (.segment i) s)) := by
  show execEntry i body s = _
  simp only [execEntry, settle_none settled, accepted]
  rfl

theorem exec_restarted_accepted (accepted : acceptedTurn i (restartedOf body) s = some (tr, ⟨a, .restarted⟩)) :
    exec (.restarted i body) s = .next (acceptRestarted i tr (heard (.segment i) s)) := by
  show execRestarted i body s = _
  simp only [execRestarted, settle_none settled, accepted]
  rfl

/-- A frame that is not accepted is discarded (R136). -/
theorem exec_nodeFrame_discarded :
    (acceptedTurn i (quietOf body) s = none → exec (.quiet i body) s = .next (discardOnSegment i s))
    ∧ (acceptedTurn i (cardOf body) s = none → exec (.card i body) s = .next (discardOnSegment i s))
    ∧ (acceptedTurn i (entryOf body) s = none → exec (.entry i body) s = .next (discardOnSegment i s))
    ∧ (acceptedTurn i (restartedOf body) s = none → exec (.restarted i body) s = .next (discardOnSegment i s)) := by
  refine ⟨fun refused => ?_, fun refused => ?_, fun refused => ?_, fun refused => ?_⟩
  · show execQuiet i body s = _
    simp only [execQuiet, settle_none settled, refused]
  · show execCard i body s = _
    simp only [execCard, settle_none settled, refused]
  · show execEntry i body s = _
    simp only [execEntry, settle_none settled, refused]
  · show execRestarted i body s = _
    simp only [execRestarted, settle_none settled, refused]

end

/-! ### A restart (R139) -/

theorem acceptRestarted_of_removed (removed : tr.removed = true) : acceptRestarted i tr s = endTurn i s := by
  simp only [acceptRestarted, answerNode_of_removed removed, removed, if_true]

theorem acceptRestarted_of_listed {n : Nat} {c : Cabin} (listed : tr.removed = false) (cabin : s.cau.cabinAt i tr.address = some (n, c)) :
    acceptRestarted i tr s = endTurn i (raise .nodeRestarted (lockAddress i tr.address) (detail n) (putCabin n { c with entry := .unknown }
      (changeNode i tr.address (fun x => { x with pendingMode := c.state.mode }) (answerNode i tr false s)))) := by
  simp only [acceptRestarted, listed, Bool.false_eq_true, if_false, restartNode, answerNode_cau, cabin]

/-! ### A miss (R140) -/

theorem missTurn_of_removed (removed : tr.removed = true) : missTurn i tr s = endTurn i s := by
  simp only [missTurn, removed, if_true]

theorem Node.missed_eq (x : Node) : x.missed = { x with missCount := min 3 (x.missCount + 1), state := if 2 ≤ x.missCount then .silent else x.state } := by
  have third : x.missCount + 1 ≥ 3 ↔ 2 ≤ x.missCount := by omega
  simp only [Node.missed, third]

theorem Node.fallsSilent_iff (x : Node) : x.fallsSilent = true ↔ x.state ≠ .silent ∧ 2 ≤ x.missCount := by
  have third : x.missCount + 1 ≥ 3 ↔ 2 ≤ x.missCount := by omega
  simp [Node.fallsSilent, third]

section
variable (listed : tr.removed = false) (record : (s.lsc i).nodes.get tr.address = some x)
include listed record

theorem missTurn_of_heard (kept : ¬ (x.state ≠ .silent ∧ 2 ≤ x.missCount)) :
    missTurn i tr s = endTurn i (putLsc i { s.lsc i with nodes := (s.lsc i).nodes.set tr.address x.missed } s) := by
  rw [← Node.fallsSilent_iff, Bool.not_eq_true] at kept
  simp only [missTurn, listed, Bool.false_eq_true, if_false, missNode, record, kept, changeNode]

theorem missTurn_of_silent (falls : x.state ≠ .silent ∧ 2 ≤ x.missCount) : missTurn i tr s = endTurn i (offerEvent (nodeRecord i tr.address x 1 s)
      (raise .nodeSilent (lockAddress i tr.address) (detail (s.cau.cabinNumberAt i tr.address))
        (putLsc i { s.lsc i with nodes := (s.lsc i).nodes.set tr.address x.missed } s))) := by
  rw [← Node.fallsSilent_iff] at falls
  simp only [missTurn, listed, Bool.false_eq_true, if_false, missNode, record, falls, if_true, changeNode]

end

section
variable (settled : s.boundary = none) (turn : (s.lsc i).turn = some tr)
include turn

theorem discardOnSegment_of_over (past : tr.window = .over) : discardOnSegment i s = missTurn i tr (heard (.segment i) s) := by
  have turn : ((setRx (.segment i) .hunting s).lsc i).turn = some tr := turn
  simp only [discardOnSegment, turn, past, if_true]
  rfl

include settled

theorem exec_miss (running : tr.window = .running) (outside : ¬ ∃ bytes, s.rxOf (.segment i) = .collecting true bytes) :
    exec (.miss i) s = .next (missTurn i tr s) := by
  show execMiss i s = _
  simp only [execMiss, settle_none settled, turn, running, windowEnds]
  split
  next bytes coming => exact absurd ⟨bytes, coming⟩ outside
  next => rfl

theorem exec_miss_coming {bytes : List Byte} (running : tr.window = .running) (coming : s.rxOf (.segment i) = .collecting true bytes) :
    exec (.miss i) s = .next (putLsc i { s.lsc i with turn := some { tr with window := .over } } s) := by
  show execMiss i s = _
  simp only [execMiss, settle_none settled, turn, running, windowEnds, coming]
  rfl

end

/-! ### Entry reports (R125) -/

theorem exec_entryReport (settled : s.boundary = none) {r : EntryReport} {rest : List EntryReport} (reports : s.cau.reports = r :: rest) :
    exec .entryReport s = .next (takeReport r { s with cau := { s.cau with reports := rest } }) := by
  show execEntryReport s = _
  simp only [execEntryReport, settle_none settled, reports]

theorem takeReport_of_none {r : EntryReport} (free : s.cau.cabinAt r.segment r.node = none) : takeReport r s = s := by
  simp only [takeReport, free]

theorem takeReport_of_cabin {r : EntryReport} {n : Nat} {c : Cabin} (cabin : s.cau.cabinAt r.segment r.node = some (n, c)) : takeReport r s =
    if r.entry = .heldOpen ∧ c.entry ≠ .heldOpen then raise .entryHeldOpen (BitVec.ofNat 32 n) {} (putCabin n { c with entry := r.entry, privacy := r.privacy } s)
    else putCabin n { c with entry := r.entry, privacy := r.privacy } s := by
  simp only [takeReport, cabin]
  rfl

end

/-- Settles O43: the replies by `exec_*_accepted`, the misses by `missTurn_*`, the reports by `takeReport_*`. -/
theorem turnsEndByReplyOrMiss : Obligations.TurnsEndByReplyOrMiss := by
  intro s i body settled h l begunInside
  obtain ⟨quietDiscarded, cardDiscarded, entryDiscarded, restartedDiscarded⟩ := exec_nodeFrame_discarded (s := s) (i := i) (body := body) settled
  refine ⟨fun fr tr => acceptedTurn_iff i fr tr s, fun tr a => exec_quiet_accepted settled, fun tr a serial => exec_card_accepted settled,
    fun tr a e privacy => exec_entry_accepted settled, fun tr a n c accepted listed cabin => ?restarted,
    fun tr a accepted removed => (exec_restarted_accepted settled accepted).trans (congrArg _ (acceptRestarted_of_removed removed)), fun runs => ?discards,
    fun tr turn => ?misses, fun waits => ?cycleWait, fun r rest reports => ?report⟩
  case restarted =>
    rw [exec_restarted_accepted settled accepted, acceptRestarted_of_listed (s := h) listed cabin]
    cases c.state <;> rfl
  case discards =>
    have discarded : discardOnSegment i s = h := discardOnSegment_of_open runs
    exact ⟨fun refused => discarded ▸ quietDiscarded refused, fun refused => discarded ▸ cardDiscarded refused,
      fun refused => discarded ▸ entryDiscarded refused, fun refused => discarded ▸ restartedDiscarded refused⟩
  case misses =>
    intro misses
    have missed : ∀ {w : State}, w.lsc i = l → w.cau = s.cau → misses w (missTurn i tr w) := by
      intro w same cau
      refine ⟨missTurn_of_removed, fun x listed record => ?_⟩
      have record : (w.lsc i).nodes.get tr.address = some x := same ▸ record
      intro silent y u cabin
      have missed_eq : x.missed = y := x.missed_eq
      refine ⟨fun kept => ?_, fun falls => ?_⟩
      · rw [missTurn_of_heard listed record kept, missed_eq, same]
      · rw [missTurn_of_silent listed record falls, missed_eq, same, nodeRecord_eq, Cau.cabinNumberAt_eq, cau, same]
        rfl
    have past : tr.window = .over → discardOnSegment i s = missTurn i tr h := discardOnSegment_of_over turn
    refine ⟨fun running outside => ⟨_, exec_miss settled turn running outside, missed rfl rfl⟩, fun running ⟨bytes, coming⟩ => exec_miss_coming settled turn running coming,
      fun over_ => ⟨fun why fits => ⟨_, (discardedFrame_of_fit settled fits).trans (congrArg _ (past over_)), missed (w := h) rfl rfl⟩,
        fun refused => ⟨_, (quietDiscarded refused).trans (congrArg _ (past over_)), missed (w := h) rfl rfl⟩,
        fun refused => ⟨_, (cardDiscarded refused).trans (congrArg _ (past over_)), missed (w := h) rfl rfl⟩,
        fun refused => ⟨_, (entryDiscarded refused).trans (congrArg _ (past over_)), missed (w := h) rfl rfl⟩,
        fun refused => ⟨_, (restartedDiscarded refused).trans (congrArg _ (past over_)), missed (w := h) rfl rfl⟩⟩⟩
  case cycleWait =>
    show execCycleWait i s = _
    have waits : (s.lsc i).waitMs.isSome = true := Option.isSome_iff_ne_none.2 waits
    simp only [execCycleWait, settle_none settled, waits, if_true]
  case report =>
    intro u
    exact ⟨fun free => (exec_entryReport settled reports).trans (congrArg _ (takeReport_of_none (s := u) free)),
      fun n c cabin => (exec_entryReport settled reports).trans (congrArg _ (takeReport_of_cabin (s := u) cabin))⟩

end Sys2Proof.Machine
end

section
/-! O8: what comes in on a line (R185, R187). -/
namespace Sys2Proof.Machine

section
variable {bytes : List Byte}

/-! ### What has been collected (R185) -/

theorem collect_short (short : bytes.length < 3) : collect bytes = .more := if_pos short

section
variable (length : 3 ≤ bytes.length)
include length

theorem collect_badLength (unfit : leNat (slice bytes 1 2) < 2 ∨ 1024 < leNat (slice bytes 1 2)) :
    collect bytes = .badLength (BitVec.ofNat 16 (leNat (slice bytes 1 2))) :=
  (if_neg (Nat.not_lt.2 length)).trans (if_pos unfit)

variable (least : 2 ≤ leNat (slice bytes 1 2)) (most : leNat (slice bytes 1 2) ≤ 1024)
include least most

theorem collect_incomplete (short : bytes.length < leNat (slice bytes 1 2) + 5) : collect bytes = .more :=
  (if_neg (Nat.not_lt.2 length)).trans ((if_neg fun unfit => unfit.elim (Nat.not_lt.2 least) (Nat.not_lt.2 most)).trans (if_pos short))

theorem collect_complete (whole : leNat (slice bytes 1 2) + 5 ≤ bytes.length) : collect bytes =
    if leNat (bytes.drop (bytes.length - 2)) = (crc16 (slice bytes 1 (bytes.length - 3))).toNat
    then .frame (bytes.getD 3 0) (bytes.getD 4 0) (slice bytes 5 (leNat (slice bytes 1 2) - 2)) else .badCrc := by
  refine (if_neg (Nat.not_lt.2 length)).trans ((if_neg fun unfit => unfit.elim (Nat.not_lt.2 least) (Nat.not_lt.2 most)).trans
    ((if_neg (Nat.not_lt.2 whole)).trans ?_))
  exact if_congr decide_eq_true_iff rfl rfl

end
end

/-! ### What comes to a receiver -/

section
variable {s : State} {p : Port}

theorem takeLine_of_hunting (hunting : s.rxOf p = .hunting) : (∀ b, takeLine p (.byte b) s = huntByte p b s) ∧ takeLine p .gap s = s := by
  simp only [takeLine, hunting, implies_true, and_self]

theorem takeLine_of_collecting {w : Bool} {bytes : List Byte} (coming : s.rxOf p = .collecting w bytes) :
    (∀ b, takeLine p (.byte b) s = collectBytes p w (bytes ++ [b]) s) ∧ takeLine p .gap s = summon (.discardedFrame p .gap) s := by
  simp only [takeLine, coming, implies_true, and_self]

theorem step_line {e : LineEvent} {rest : List (Port × LineEvent)} (idle : s.pending = []) (lines : s.lines = (p, e) :: rest) :
    step s = .next (takeLine p e { s with lines := rest }) := by
  simp only [step, idle, lines]

end

theorem summon_of_idle {s : State} (idle : s.pending = []) (c : Instr) : summon c s = { s with pending := [c] } := by
  rw [summon, idle, List.nil_append]

/-- Settles O8: event by event, a collected byte by `collect_*`. -/
theorem lineEventsComeToTheReceivers : Obligations.LineEventsComeToTheReceivers := by
  intro s p e rest idle lines u brings
  have summoned : ∀ c, summon c u = { u with pending := [c] } := fun c => summon_of_idle (s := u) idle c
  have taken : step s = .next (takeLine p e u) := step_line idle lines
  refine ⟨fun hunting => ?hunting, fun w bytes coming => ?collecting⟩
  case hunting =>
    obtain ⟨byte, gap⟩ := takeLine_of_hunting (s := u) hunting
    refine ⟨fun start => ?_, fun b other unlike => ?_, fun pause => ?_⟩
    · subst start
      exact taken.trans (congrArg _ ((byte _).trans (summoned _)))
    · subst other
      exact taken.trans (congrArg _ ((byte _).trans (if_neg unlike)))
    · subst pause
      exact taken.trans (congrArg _ gap)
  case collecting =>
    obtain ⟨byte, gap⟩ := takeLine_of_collecting (s := u) coming
    refine ⟨fun pause => ?_, fun b another => ?_⟩
    · subst pause
      exact taken.trans (congrArg _ (gap.trans (summoned _)))
    subst another
    rw [byte] at taken
    intro frame n crc
    refine ⟨fun short => ?_, fun length unfit => ?_, fun length least most => ⟨fun short => ?_, fun whole ok => ?_, fun whole fails => ?_⟩⟩
    · rw [taken, collectBytes, collect_short short]
    · rw [taken, collectBytes, collect_badLength length unfit]
      exact congrArg _ (summon_of_idle (s := { u with lines := frame.tail.map (fun x => (p, .byte x)) ++ rest }) idle _)
    · rw [taken, collectBytes, collect_incomplete length least most short]
    · rw [collectBytes, collect_complete length least most whole, if_pos ok] at taken
      exact taken.trans (congrArg _ (summoned _))
    · rw [collectBytes, collect_complete length least most whole, if_neg fails] at taken
      exact taken.trans (congrArg _ (summoned _))

end Sys2Proof.Machine
end

section
/-! Little-endian bytes and slices of a frame (chapter 0, "Frames and layouts"). -/
namespace Sys2Proof.Machine

/-- x as w little-endian bytes, each byte a power of 256 further on. -/
def littleEndian (w : Nat) (x : Int) : List Byte := (List.range w).map (fun k => BitVec.ofInt 8 (x / 256 ^ k))

section
variable {w : Nat} {x y : Int} {bytes : List Byte}

@[simp] theorem length_littleEndian (w : Nat) (x : Int) : (littleEndian w x).length = w := by simp [littleEndian]

theorem littleEndian_zero (x : Int) : littleEndian 0 x = [] := rfl

/-- The first byte is the remainder by 256, the others those of the quotient. -/
theorem littleEndian_succ (w : Nat) (x : Int) : littleEndian (w + 1) x = BitVec.ofInt 8 x :: littleEndian w (x / 256) := by
  simp only [littleEndian, List.range_succ_eq_map, List.map_cons, List.map_map, Int.pow_zero, Int.ediv_one, List.cons.injEq, true_and]
  refine List.map_congr_left fun k _ => ?_
  rw [Function.comp_apply, Int.pow_succ', Int.ediv_ediv_of_nonneg (by decide)]

theorem toNat_ofInt_byte (x : Int) : ((BitVec.ofInt 8 x).toNat : Int) = x % 256 := by
  rw [BitVec.toNat_ofInt]
  omega

/-- The remainder by 256 times a number, from the first byte and what follows it. -/
theorem emod_byte_mul (x : Int) {m : Int} (positive : 0 < m) : x % 256 + 256 * (x / 256 % m) = x % (256 * m) := by
  have parts : x = (x % 256 + 256 * (x / 256 % m)) + 256 * m * (x / 256 / m) := by
    have inner := Int.emod_add_mul_ediv (x / 256) m
    rw [Int.mul_assoc]
    generalize m * (x / 256 / m) = q at inner ⊢
    omega
  have low := Int.emod_nonneg (x / 256) (Int.ne_of_gt positive)
  have high := Int.emod_lt_of_pos (x / 256) positive
  conv_rhs => rw [parts, Int.add_mul_emod_self_left]
  exact (Int.emod_eq_of_lt (by omega) (by omega)).symm

/-- The bytes say the number up to multiples of 256 to the power of their count. -/
theorem leNat_littleEndian (w : Nat) (x : Int) : (leNat (littleEndian w x) : Int) = x % 256 ^ w := by
  induction w generalizing x with
  | zero => simp [littleEndian_zero, leNat]
  | succ w ih =>
    rw [littleEndian_succ, leNat, Int.natCast_add, toNat_ofInt_byte, Int.natCast_mul, ih, Int.pow_succ']
    exact emod_byte_mul x (Int.pow_pos (by decide))

theorem littleEndian_of_leNat (length : bytes.length = w) : littleEndian w (leNat bytes) = bytes := by
  induction bytes generalizing w with
  | nil => subst length; rfl
  | cons b bs ih =>
    subst length
    rw [List.length_cons, littleEndian_succ, leNat]
    have first : BitVec.ofInt 8 ((b.toNat + 256 * leNat bs : Nat) : Int) = b := by
      apply BitVec.eq_of_toNat_eq
      have value := toNat_ofInt_byte ((b.toNat + 256 * leNat bs : Nat) : Int)
      have small := b.isLt
      omega
    have others : ((b.toNat + 256 * leNat bs : Nat) : Int) / 256 = (leNat bs : Int) := by
      have small := b.isLt
      omega
    rw [first, others, ih rfl]

theorem leNat_lt (bytes : List Byte) : leNat bytes < 256 ^ bytes.length := by
  induction bytes with
  | nil => exact Nat.one_pos
  | cons b bs ih =>
    rw [leNat, List.length_cons, Nat.pow_succ']
    have small := b.isLt
    omega

/-- A number within the range of the bytes is the one they say. -/
theorem leNat_littleEndian_of_lt {n : Nat} (small : n < 256 ^ w) : leNat (littleEndian w n) = n := by
  have value := leNat_littleEndian w n
  rw [Int.emod_eq_of_lt (Int.natCast_nonneg n) (by exact_mod_cast small)] at value
  exact_mod_cast value

theorem littleEndian_congr (same : x % 256 ^ w = y % 256 ^ w) : littleEndian w x = littleEndian w y := by
  have value : leNat (littleEndian w x) = leNat (littleEndian w y) := by
    have ofX := leNat_littleEndian w x
    have ofY := leNat_littleEndian w y
    rw [same, ← ofY] at ofX
    exact_mod_cast ofX
  rw [← littleEndian_of_leNat (length_littleEndian w x), value, littleEndian_of_leNat (length_littleEndian w y)]

theorem leBytes_eq (w n : Nat) : leBytes w n = littleEndian w n := by
  induction w generalizing n with
  | zero => rfl
  | succ w ih =>
    rw [leBytes, ih, littleEndian_succ]
    exact congrArg₂ List.cons (BitVec.eq_of_toNat_eq (by simp)) rfl

theorem leInt_eq (w : Nat) (x : Int) : leInt w x = littleEndian w x := by
  have power : (2 : Int) ^ (8 * w) = 256 ^ w := by rw [Int.pow_mul]; norm_num
  have positive : (0 : Int) < 256 ^ w := Int.pow_pos (by decide)
  rw [leInt, leBytes_eq, power, Int.toNat_of_nonneg (Int.emod_nonneg _ (Int.ne_of_gt positive))]
  exact littleEndian_congr (Int.emod_emod _ _)

/-! ### Signed values -/

/-- A number of the two's complement range of its bytes is the one they say. -/
theorem asSigned_littleEndian (low : -(2 ^ (8 * w)) ≤ 2 * x) (high : 2 * x < 2 ^ (8 * w)) : asSigned w (leNat (littleEndian w x)) = x := by
  have power : (256 : Int) ^ w = 2 ^ (8 * w) := by rw [Int.pow_mul]; norm_num
  have value := leNat_littleEndian w x
  rw [power] at value
  have cast : ((2 ^ (8 * w) : Nat) : Int) = 2 ^ (8 * w) := by norm_num
  unfold asSigned
  generalize (2 : Int) ^ (8 * w) = m at *
  by_cases negative : x < 0
  · rw [← Int.add_emod_right, Int.emod_eq_of_lt (by omega) (by omega)] at value
    rw [if_neg (by omega)]
    omega
  · rw [Int.emod_eq_of_lt (by omega) (by omega)] at value
    rw [if_pos (by omega)]
    omega

theorem littleEndian_asSigned (length : bytes.length = w) : littleEndian w (asSigned w (leNat bytes)) = bytes := by
  have power : (256 : Int) ^ w = 2 ^ (8 * w) := by rw [Int.pow_mul]; norm_num
  refine Eq.trans (littleEndian_congr ?_) (littleEndian_of_leNat length)
  unfold asSigned
  split
  · rfl
  · rw [power, Int.sub_emod_right]

end

/-! ### Slices -/

section
variable {l m : List Byte} {i n k : Nat}

theorem length_slice (within : i + n ≤ l.length) : (slice l i n).length = n := by
  simp only [slice, List.length_take, List.length_drop]
  omega

theorem slice_append_left (length : l.length = n) : slice (l ++ m) 0 n = l := by simp [slice, ← length]

end

end Sys2Proof.Machine
end

section
/-! O6: the fields of requests and of LOAD items as bytes (R188, R190). -/
namespace Sys2Proof.Machine

/-- The values that the form lists are within those that its bytes can say. -/
def Form.sane : Form → Bool
  | .enum n => decide (n ≤ 256)
  | .yesNo => true
  | .set n _ => decide (n ≤ 8)
  | .number lo hi => if lo < 0 then decide (-2147483648 ≤ lo) && decide (hi ≤ 2147483647) else decide (hi ≤ 4294967295)
  | .multiple lo hi _ => if lo < 0 then decide (-2147483648 ≤ lo) && decide (hi ≤ 2147483647) else decide (hi ≤ 4294967295)
  | .among values => values.all (fun x => decide (0 ≤ x) && decide (x < 256))
  | .money lo hi => decide (-8388608 ≤ lo) && decide (hi ≤ 8388607)
  | .split lo hi => decide (-2147483648 ≤ lo) && decide (hi ≤ 2147483647)

section
variable {f : Form} {x : Int} {bytes : List Byte}

/-- The value is one that w bytes say, as a signed or as an unsigned number. -/
def saysIn (signed : Bool) (w : Nat) (x : Int) : Prop := if signed = true then -(2 ^ (8 * w)) ≤ 2 * x ∧ 2 * x < 2 ^ (8 * w) else 0 ≤ x ∧ x < 256 ^ w

/-- A number of a range is said by the fewest bytes that hold the range. -/
theorem saysIn_rangeWidth {lo hi : Int} (sane : (Form.number lo hi).sane = true) (low : lo ≤ x) (high : x ≤ hi) :
    saysIn (decide (lo < 0)) (rangeWidth lo hi) x := by
  unfold saysIn rangeWidth
  by_cases negative : lo < 0
  · simp only [Form.sane, negative, if_true, Bool.and_eq_true, decide_eq_true_eq, decide_true] at sane ⊢
    split
    · norm_num; omega
    · split
      · norm_num; omega
      · split
        · norm_num; omega
        · norm_num; omega
  · simp only [Form.sane, negative, if_false, decide_eq_true_eq, decide_false, Bool.false_eq_true] at sane ⊢
    split
    · norm_num; omega
    · split
      · norm_num; omega
      · split
        · norm_num; omega
        · norm_num; omega

theorem Form.saysIn_of_admits (sane : f.sane = true) (admits : f.admits x = true) : saysIn f.signed f.width x := by
  cases f with
  | enum n =>
    simp only [Form.sane, Form.admits, Bool.and_eq_true, decide_eq_true_eq] at sane admits
    simp only [saysIn, Form.signed, Form.width, Bool.false_eq_true, if_false]
    omega
  | yesNo =>
    simp only [Form.admits, Bool.and_eq_true, decide_eq_true_eq] at admits
    simp only [saysIn, Form.signed, Form.width, Bool.false_eq_true, if_false]
    omega
  | set n mayBeEmpty =>
    simp only [Form.sane, Form.admits, Bool.and_eq_true, decide_eq_true_eq] at sane admits
    have power : (2 : Int) ^ n ≤ 2 ^ 8 := pow_le_pow_right₀ (by decide) sane
    simp only [saysIn, Form.signed, Form.width, Bool.false_eq_true, if_false]
    omega
  | number lo hi =>
    simp only [Form.admits, Bool.and_eq_true, decide_eq_true_eq] at admits
    exact saysIn_rangeWidth sane admits.1 admits.2
  | multiple lo hi step =>
    simp only [Form.admits, Bool.and_eq_true, decide_eq_true_eq] at admits
    exact saysIn_rangeWidth (lo := lo) (hi := hi) sane admits.1.1 admits.1.2
  | among values =>
    simp only [Form.sane, Form.admits, List.all_eq_true, List.contains_iff_mem, Bool.and_eq_true, decide_eq_true_eq] at sane admits
    have range := sane x admits
    simp only [saysIn, Form.signed, Form.width, Bool.false_eq_true, if_false]
    omega
  | money lo hi =>
    simp only [Form.sane, Form.admits, Bool.and_eq_true, decide_eq_true_eq] at sane admits
    simp only [saysIn, Form.signed, Form.width, if_true]
    omega
  | split lo hi =>
    simp only [Form.sane, Form.admits, Bool.and_eq_true, decide_eq_true_eq] at sane admits
    simp only [saysIn, Form.signed, Form.width, if_true]
    omega

@[simp] theorem Form.length_write (f : Form) (x : Int) : (f.write x).length = f.width := by rw [Form.write, leInt_eq, length_littleEndian]

theorem Form.read_write (sane : f.sane = true) (admits : f.admits x = true) : f.read (f.write x) = x := by
  have said := Form.saysIn_of_admits sane admits
  rw [Form.read, Form.write, leInt_eq]
  unfold saysIn at said
  by_cases signed : f.signed = true
  · rw [if_pos signed] at said
    rw [if_pos signed, asSigned_littleEndian said.1 said.2]
  · rw [if_neg signed] at said
    rw [if_neg signed, leNat_littleEndian, Int.emod_eq_of_lt said.1 said.2]

theorem Form.write_read (length : bytes.length = f.width) : f.write (f.read bytes) = bytes := by
  rw [Form.write, leInt_eq, Form.read]
  by_cases signed : f.signed = true
  · rw [if_pos signed, littleEndian_asSigned length]
  · rw [if_neg signed, littleEndian_of_leNat length]

end

/-! ### Fields -/

section
variable {f : Field} {bytes : List Byte} {v : Option Int}

theorem Field.length_encode (f : Field) (v : Option Int) : (f.encode v).length = f.width := by
  unfold Field.encode Field.width
  split
  · cases v <;> simp
  · simp

/-- The value of a form's bytes is the one value of its table that these bytes carry. -/
theorem Form.read_iff {f : Form} {bytes : List Byte} (sane : f.sane = true) (length : bytes.length = f.width) (x : Int) :
    (f.admits (f.read bytes) = true ∧ f.read bytes = x) ↔ (f.admits x = true ∧ f.write x = bytes) := by
  constructor
  · rintro ⟨admits, rfl⟩
    exact ⟨admits, Form.write_read length⟩
  · rintro ⟨admits, rfl⟩
    rw [Form.read_write sane admits]
    exact ⟨admits, rfl⟩

theorem Field.decode_present (present : f.optional = false) (sane : f.form.sane = true) (length : bytes.length = f.width) :
    f.decode bytes = some v ↔ f.fits v = true ∧ f.encode v = bytes := by
  have width : bytes.length = f.form.width := length.trans (by simp [Field.width, present])
  have decoded : f.decode bytes = if f.form.admits (f.form.read bytes) then some (some (f.form.read bytes)) else none := by
    simp only [Field.decode, present, Bool.false_eq_true, if_false]
  rw [decoded]
  cases v with
  | none => simp [Field.fits, present]
  | some x =>
    simp only [Option.ite_none_right_eq_some, Option.some.injEq, Field.fits, Field.encode, present, Bool.false_eq_true, if_false, Option.getD_some]
    exact Form.read_iff sane width x

theorem Field.decode_optional (optional : f.optional = true) (sane : f.form.sane = true) (length : bytes.length = f.width) :
    f.decode bytes = some v ↔ f.fits v = true ∧ f.encode v = bytes := by
  cases bytes with
  | nil => simp [Field.width, optional] at length
  | cons flag rest =>
    have width : rest.length = f.form.width := by simpa [Field.width, optional] using length
    have decoded : f.decode (flag :: rest) = if flag = 0 then (if rest.all (· == 0) then some none else none)
        else if flag = 1 then (if f.form.admits (f.form.read rest) then some (some (f.form.read rest)) else none) else none := by
      simp only [Field.decode, optional, if_true]
    rw [decoded]
    cases v with
    | none =>
      have zero : rest.all (· == 0) = true ↔ List.replicate f.form.width 0 = rest := by
        rw [← width, @eq_comm _ (List.replicate _ _), List.eq_replicate_iff]
        simp
      simp only [Field.fits, Field.encode, optional, if_true, List.replicate_succ, List.cons.injEq, true_and]
      rw [← zero]
      by_cases absent : flag = 0
      · rw [if_pos absent, Option.ite_none_right_eq_some]
        exact ⟨fun both => ⟨absent.symm, both.1⟩, fun both => ⟨both.2, rfl⟩⟩
      · rw [if_neg absent]
        refine ⟨fun read => ?_, fun both => absurd both.1.symm absent⟩
        split at read
        · split at read <;> cases read
        · cases read
    | some x =>
      simp only [Field.fits, Field.encode, optional, if_true, List.cons.injEq]
      by_cases present : flag = 1
      · subst present
        simp only [show ¬ (1 : Byte) = 0 by decide, if_false, if_true, Option.ite_none_right_eq_some, Option.some.injEq, true_and]
        exact Form.read_iff sane width x
      · rw [if_neg present]
        refine ⟨fun read => ?_, fun both => absurd both.2.1.symm present⟩
        split at read
        · split at read <;> cases read
        · cases read

theorem Field.decode_iff (sane : f.form.sane = true) (length : bytes.length = f.width) : f.decode bytes = some v ↔ f.fits v = true ∧ f.encode v = bytes := by
  cases optional : f.optional with
  | false => exact Field.decode_present optional sane length
  | true => exact Field.decode_optional optional sane length

end

/-! ### The fields of a request -/

section
variable {fs : List Field} {v : Values} {bytes : List Byte}

theorem length_encodeFields (fits : fitsAll fs v = true) : (encodeFields fs v).length = fieldsWidth fs := by
  induction fs generalizing v with
  | nil => cases v <;> rfl
  | cons f fs ih =>
    cases v with
    | nil => cases fits
    | cons x xs =>
      rw [fitsAll, Bool.and_eq_true] at fits
      rw [encodeFields, List.length_append, Field.length_encode, ih fits.2]
      rfl

theorem decodeFieldsFrom_cons (i : Nat) (f : Field) (fs : List Field) (bytes : List Byte) : decodeFieldsFrom i (f :: fs) bytes =
    (f.decode (bytes.take f.width)).elim (.error i) fun x => (decodeFieldsFrom (i + 1) fs (bytes.drop f.width)).map (x :: ·) := by
  rw [decodeFieldsFrom]
  cases f.decode (bytes.take f.width) with
  | none => rfl
  | some x => cases decodeFieldsFrom (i + 1) fs (bytes.drop f.width) <;> rfl

theorem decodeFieldsFrom_iff (sane : ∀ f ∈ fs, f.form.sane = true) (length : bytes.length = fieldsWidth fs) (i : Nat) :
    decodeFieldsFrom i fs bytes = .ok v ↔ fitsAll fs v = true ∧ encodeFields fs v = bytes := by
  induction fs generalizing v bytes i with
  | nil =>
    obtain rfl := List.eq_nil_of_length_eq_zero length
    cases v with
    | nil => exact ⟨fun _ => ⟨rfl, rfl⟩, fun _ => rfl⟩
    | cons x xs => exact ⟨nofun, fun both => nomatch both.1⟩
  | cons f fs ih =>
    have sum : bytes.length = f.width + fieldsWidth fs := length
    have first : (bytes.take f.width).length = f.width := by rw [List.length_take]; omega
    have others : (bytes.drop f.width).length = fieldsWidth fs := by rw [List.length_drop]; omega
    have sane_first := sane f List.mem_cons_self
    have later := fun xs => ih (v := xs) (fun g among => sane g (List.mem_cons_of_mem _ among)) others (i + 1)
    rw [decodeFieldsFrom_cons]
    constructor
    · intro decoded
      cases read : f.decode (bytes.take f.width) with
      | none => rw [read] at decoded; cases decoded
      | some x =>
        cases rest : decodeFieldsFrom (i + 1) fs (bytes.drop f.width) with
        | error j => rw [read, rest] at decoded; cases decoded
        | ok xs =>
          rw [read, rest] at decoded
          cases decoded
          obtain ⟨fits, encoded⟩ := (Field.decode_iff sane_first first).1 read
          obtain ⟨fits', encoded'⟩ := (later xs).1 rest
          exact ⟨by rw [fitsAll, fits, fits']; rfl, by rw [encodeFields, encoded, encoded', List.take_append_drop]⟩
    · rintro ⟨fits, encoded⟩
      cases v with
      | nil => cases fits
      | cons x xs =>
        rw [fitsAll, Bool.and_eq_true] at fits
        rw [encodeFields] at encoded
        have taken : bytes.take f.width = f.encode x := by rw [← encoded, ← Field.length_encode f x, List.take_left]
        have dropped : bytes.drop f.width = encodeFields fs xs := by rw [← encoded, ← Field.length_encode f x, List.drop_left]
        rw [(Field.decode_iff sane_first first).2 ⟨fits.1, taken.symm⟩, Option.elim_some, (later xs).2 ⟨fits.2, dropped.symm⟩]
        rfl

theorem decodeFields_iff (sane : ∀ f ∈ fs, f.form.sane = true) : decodeFields fs bytes = .ok v ↔ fitsAll fs v = true ∧ encodeFields fs v = bytes := by
  unfold decodeFields
  split
  next length => exact decodeFieldsFrom_iff sane length 1
  next unlike => exact ⟨nofun, fun ⟨fits, encoded⟩ => absurd (encoded ▸ length_encodeFields fits) unlike⟩

end

/-- Every field of every request lists values that its bytes can say. -/
theorem requestOf_sane {c : Instr} {r : Request} (request : requestOf c = some r) : ∀ f ∈ r.fields, f.form.sane = true := by
  rw [← List.all_eq_true]
  cases c <;> cases request <;> rfl

theorem itemFields_sane (table : LoadTable) : ∀ f ∈ itemFields table, f.form.sane = true := by
  rw [← List.all_eq_true]
  cases table <;> decide

/-- Settles O6, by `decodeFields_iff`: every field's bytes are read and written alike. -/
theorem requestFieldsDecodeIffEncoded : Obligations.RequestFieldsDecodeIffEncoded :=
  ⟨fun _ _ _ request => decodeFields_iff (requestOf_sane request), fun table _ _ length => decodeFieldsFrom_iff (itemFields_sane table) length 2⟩

end Sys2Proof.Machine
end

section
/-! The envelope of a frame, and the commands of kind codes (R184, R185, R187). -/
namespace Sys2Proof.Machine

/-! ### The envelope (R184) -/

section
variable (kind tag : Byte) (body : List Byte)

/-- The bytes that the length and the CRC of a frame cover. -/
def coveredBytes : List Byte := littleEndian 2 ((2 + body.length : Nat) : Int) ++ kind :: tag :: body

theorem length_coveredBytes : (coveredBytes kind tag body).length = body.length + 4 := by
  simp only [coveredBytes, List.length_append, length_littleEndian, List.length_cons]
  omega

theorem envelope_eq : envelope kind tag body =
    0xB5 :: (coveredBytes kind tag body ++ littleEndian 2 ((crc16 (coveredBytes kind tag body)).toNat : Int)) := by
  simp only [envelope, coveredBytes, leBytes_eq, List.cons_append]
  rfl

@[simp] theorem length_envelope : (envelope kind tag body).length = body.length + 7 := by
  rw [envelope_eq, List.length_cons, List.length_append, length_coveredBytes, length_littleEndian]

theorem slice_envelope_length : slice (envelope kind tag body) 1 2 = littleEndian 2 ((2 + body.length : Nat) : Int) := by
  rw [envelope_eq, coveredBytes, List.append_assoc]
  exact slice_append_left (length_littleEndian ..)

theorem slice_envelope_covered : slice (envelope kind tag body) 1 (body.length + 4) = coveredBytes kind tag body := by
  rw [envelope_eq]
  exact slice_append_left (length_coveredBytes ..)

theorem drop_envelope : (envelope kind tag body).drop (body.length + 5) = littleEndian 2 ((crc16 (coveredBytes kind tag body)).toNat : Int) := by
  rw [envelope_eq, List.drop_succ_cons, ← length_coveredBytes kind tag body, List.drop_left]

/-- A frame begins with the start byte, its length, its kind and its tag, and its fields follow. -/
theorem envelope_fields : (envelope kind tag body).head? = some 0xB5 ∧ (envelope kind tag body).getD 3 0 = kind
    ∧ (envelope kind tag body).getD 4 0 = tag ∧ slice (envelope kind tag body) 5 body.length = body := by
  rw [envelope_eq]
  refine ⟨rfl, rfl, rfl, ?_⟩
  rw [coveredBytes, List.append_assoc]
  exact slice_append_left (l := body) rfl

variable (fits : body.length ≤ 1022)
include fits

theorem leNat_envelope_length : leNat (slice (envelope kind tag body) 1 2) = 2 + body.length := by
  rw [slice_envelope_length]
  exact leNat_littleEndian_of_lt (by omega)

omit fits in
theorem envelope_crc : leNat ((envelope kind tag body).drop ((envelope kind tag body).length - 2))
    = (crc16 (slice (envelope kind tag body) 1 ((envelope kind tag body).length - 3))).toNat := by
  rw [length_envelope]
  rw [show body.length + 7 - 2 = body.length + 5 from rfl, show body.length + 7 - 3 = body.length + 4 from rfl, drop_envelope, slice_envelope_covered]
  exact leNat_littleEndian_of_lt (BitVec.isLt _)

/-- A frame passes its own test (R185). -/
theorem envelopeOk_envelope : envelopeOk (envelope kind tag body) = true ∧ badCrcFrame (envelope kind tag body) = false := by
  have crc : crcOk (envelope kind tag body) = true := decide_eq_true (envelope_crc kind tag body)
  have start : (envelope kind tag body).head? = some startByteCode := (envelope_fields kind tag body).1
  have length : envelopeLength (envelope kind tag body) = 2 + body.length := leNat_envelope_length kind tag body fits
  constructor
  · simp only [envelopeOk, start, length, length_envelope, crc, beq_self_eq_true, Bool.true_and, Bool.and_true, Bool.and_eq_true, decide_eq_true_eq]
    omega
  · simp only [badCrcFrame, crc, Bool.not_true, Bool.and_false]

/-- A frame is collected whole as what it was sent as, and not before its last byte (R185). -/
theorem collect_envelope : collect (envelope kind tag body) = .frame kind tag body
    ∧ ∀ n < (envelope kind tag body).length, collect ((envelope kind tag body).take n) = .more := by
  have length := leNat_envelope_length kind tag body fits
  obtain ⟨-, kind_, tag_, fields⟩ := envelope_fields kind tag body
  constructor
  · rw [collect_complete (by rw [length_envelope]; omega) (by omega) (by omega) (by rw [length_envelope]; omega), if_pos (envelope_crc kind tag body), length,
      show 2 + body.length - 2 = body.length by omega, kind_, tag_, fields]
  · intro n before
    rw [length_envelope] at before
    have taken : ((envelope kind tag body).take n).length = n := by rw [List.length_take, length_envelope]; omega
    by_cases short : n < 3
    · exact collect_short (by rw [taken]; exact short)
    · have same : slice ((envelope kind tag body).take n) 1 2 = slice (envelope kind tag body) 1 2 := by
        rw [slice, slice, List.drop_take, List.take_take, Nat.min_eq_left (by omega)]
      exact collect_incomplete (by omega) (by rw [same]; omega) (by rw [same]; omega) (by rw [same]; omega)

end

/-! ### The commands of kind codes (R187) -/

section
variable {kind tag : Byte} {body : List Byte}

/-- A byte is the byte of its number. -/
theorem exists_byte (kind : Byte) : ∃ n, (BitVec.ofNat 8 n).toNat = n ∧ BitVec.ofNat 8 n = kind :=
  ⟨kind.toNat, by rw [BitVec.ofNat_toNat, BitVec.setWidth_eq], by rw [BitVec.ofNat_toNat, BitVec.setWidth_eq]⟩

theorem frameOf_serviceCommand (kind tag : Byte) (body : List Byte) : frameOf (serviceCommand kind tag body) = some (.service, kind, tag, body) := by
  obtain ⟨n, value, rfl⟩ := exists_byte kind
  unfold serviceCommand
  rw [value]
  split <;> rfl

theorem frameOf_tillFrameCommand (kind tag : Byte) (body : List Byte) : frameOf (tillFrameCommand kind tag body) = some (.till, kind, tag, body) := by
  obtain ⟨n, value, rfl⟩ := exists_byte kind
  unfold tillFrameCommand
  rw [value]
  split <;> rfl

/-- A kind code names a request, or its frame is INVALID (R190). -/
theorem serviceCommand_invalid_or_known (kind tag : Byte) (body : List Byte) : serviceCommand kind tag body = .invalid kind tag body ∨ knownRequest kind = true := by
  obtain ⟨n, value, rfl⟩ := exists_byte kind
  unfold serviceCommand
  rw [value]
  split
  case h_70 => exact .inl rfl
  all_goals exact .inr rfl

theorem tillFrameCommand_malformed_or_known (kind tag : Byte) (body : List Byte) :
    tillFrameCommand kind tag body = .malformed kind tag body ∨ knownTillRequest kind = true := by
  obtain ⟨n, value, rfl⟩ := exists_byte kind
  unfold tillFrameCommand
  rw [value]
  split
  case h_5 => exact .inl rfl
  all_goals exact .inr rfl

theorem serviceCommand_of_unknown (unknown : knownRequest kind = false) : serviceCommand kind tag body = .invalid kind tag body :=
  (serviceCommand_invalid_or_known kind tag body).resolve_right (Bool.eq_false_iff.1 unknown)

theorem tillFrameCommand_of_unknown (unknown : knownTillRequest kind = false) : tillFrameCommand kind tag body = .malformed kind tag body :=
  (tillFrameCommand_malformed_or_known kind tag body).resolve_right (Bool.eq_false_iff.1 unknown)

theorem nodeCommand_cases (i : Fin 8) (kind : Byte) (body : List Byte) :
    (knownNodeFrame kind = true → frameOf (nodeCommand i kind body) = some (.segment i, kind, 0, body))
    ∧ (knownNodeFrame kind = false → nodeCommand i kind body = .discardedFrame (.segment i) (.unsuited kind)) := by
  by_cases known : knownNodeFrame kind = true
  · refine ⟨fun _ => ?_, fun unknown => absurd known (Bool.eq_false_iff.1 unknown)⟩
    simp only [knownNodeFrame, Bool.or_eq_true, beq_iff_eq, or_assoc] at known
    rcases known with rfl | rfl | rfl | rfl <;> rfl
  · refine ⟨fun yes => absurd yes known, fun _ => ?_⟩
    obtain ⟨n, value, rfl⟩ := exists_byte kind
    unfold nodeCommand
    rw [value]
    split
    case h_5 => rfl
    all_goals exact absurd rfl known

theorem stationCommand_cases (g : Fin 4) (kind : Byte) (body : List Byte) : (kind = 0x11 → stationCommand g kind body = .passages g body)
    ∧ (kind ≠ 0x11 → stationCommand g kind body = .discardedFrame (.station g) (.unsuited kind)) := by
  refine ⟨fun known => by subst known; rfl, fun unknown => ?_⟩
  obtain ⟨n, value, rfl⟩ := exists_byte kind
  unfold stationCommand
  rw [value]
  split
  case h_1 => exact absurd rfl unknown
  case h_2 => rfl

/-- The frame of a command that can come about is received as the command. -/
theorem frameCommand_frameOf {c : Instr} {p : Port} (formed_ : c.wellFormed = true) (framed : frameOf c = some (p, kind, tag, body)) :
    body.length ≤ 1022 ∧ frameCommand p kind tag body = c := by
  cases c with
  | invalid kind' tag' body' =>
    cases framed
    rw [Instr.wellFormed, Bool.and_eq_true, Bool.not_eq_true'] at formed_
    exact ⟨of_decide_eq_true formed_.2, serviceCommand_of_unknown formed_.1⟩
  | malformed kind' tag' body' =>
    cases framed
    rw [Instr.wellFormed, Bool.and_eq_true, Bool.not_eq_true'] at formed_
    exact ⟨of_decide_eq_true formed_.2, tillFrameCommand_of_unknown formed_.1⟩
  | _ => cases framed <;> exact ⟨of_decide_eq_true formed_, rfl⟩

end

end Sys2Proof.Machine
end

section
/-! The bodies of the nodes', the stations' and the tills' frames, field after field (R43, R88, R134, R148). -/
namespace Sys2Proof.Machine

/-! ### A field at a place of a body -/

section
variable {l rest : List Byte} {i w : Nat}

/-- A body goes on with a field and the rest exactly when it is long enough, the slice is the field, and what follows is the rest. -/
theorem drop_eq_append {field : List Byte} (length : field.length = w) (some_ : 0 < w) :
    l.drop i = field ++ rest ↔ i + w ≤ l.length ∧ slice l i w = field ∧ l.drop (i + w) = rest := by
  constructor
  · intro same
    have lengths := congrArg List.length same
    rw [List.length_drop, List.length_append] at lengths
    refine ⟨by omega, ?_, ?_⟩
    · rw [slice, same, ← length, List.take_left]
    · rw [← List.drop_drop, same, ← length, List.drop_left]
  · rintro ⟨-, same, after⟩
    rw [← same, ← after, ← List.drop_drop, slice, List.take_append_drop]

theorem drop_eq_last {field : List Byte} (length : field.length = w) (some_ : 0 < w) :
    l.drop i = field ↔ l.length = i + w ∧ slice l i w = field := by
  have parts := drop_eq_append (l := l) (i := i) (rest := []) length some_
  rw [List.append_nil, List.drop_eq_nil_iff] at parts
  rw [parts]
  constructor
  · rintro ⟨long, same, short⟩; exact ⟨by omega, same⟩
  · rintro ⟨exact_, same⟩; exact ⟨by omega, same, by omega⟩

theorem eq_append_iff {field : List Byte} (length : field.length = w) (some_ : 0 < w) :
    l = field ++ rest ↔ w ≤ l.length ∧ slice l 0 w = field ∧ l.drop w = rest := by
  simpa using drop_eq_append (l := l) (i := 0) (rest := rest) length some_

theorem eq_last_iff {field : List Byte} (length : field.length = w) (some_ : 0 < w) : l = field ↔ l.length = w ∧ slice l 0 w = field := by
  simpa using drop_eq_last (l := l) (i := 0) length some_

theorem slice_eq_unsigned {x : Nat} (within : i + w ≤ l.length) (small : x < 256 ^ w) : slice l i w = littleEndian w x ↔ leNat (slice l i w) = x := by
  constructor
  · intro same; rw [same, leNat_littleEndian_of_lt small]
  · intro same; rw [← same, littleEndian_of_leNat (length_slice within)]

theorem slice_eq_signed {x : Int} (within : i + w ≤ l.length) (low : -(2 ^ (8 * w)) ≤ 2 * x) (high : 2 * x < 2 ^ (8 * w)) :
    slice l i w = littleEndian w x ↔ asSigned w (leNat (slice l i w)) = x := by
  constructor
  · intro same; rw [same, asSigned_littleEndian low high]
  · intro same; rw [← same, littleEndian_asSigned (length_slice within)]

theorem slice_eq_word {x : BitVec (8 * w)} (within : i + w ≤ l.length) :
    slice l i w = littleEndian w x.toNat ↔ BitVec.ofNat (8 * w) (leNat (slice l i w)) = x := by
  have power : 256 ^ w = 2 ^ (8 * w) := by rw [Nat.pow_mul]
  have small := leNat_lt (slice l i w)
  rw [length_slice within, power] at small
  rw [slice_eq_unsigned within (power ▸ x.isLt)]
  constructor
  · intro same; rw [same, BitVec.ofNat_toNat, BitVec.setWidth_eq]
  · intro same; rw [← same, BitVec.toNat_ofNat, Nat.mod_eq_of_lt small]

theorem leNat_slice_lt (within : i + w ≤ l.length) : leNat (slice l i w) < 256 ^ w := by
  have small := leNat_lt (slice l i w)
  rwa [length_slice within] at small

end

/-- A yes/no field as the number of its byte. -/
theorem bit_eq (b : Bool) : (if b then 1 else 0 : Int) = (b.toNat : Int) := by cases b <;> rfl

theorem beq_one_iff {d : Nat} {b : Bool} (small : d ≤ 1) : (d == 1) = b ↔ d = b.toNat := by
  have cases_ : d = 0 ∨ d = 1 := by omega
  obtain rfl | rfl := cases_ <;> cases b <;> decide

/-! ### Node frames (R134) -/

section
variable {body : List Byte} {fr : NodeFrame}

/-- A body of an address field of 1-511 and a rest, read by its address. -/
theorem nodeAddressOf_eq_some {a : Nat} : nodeAddressOf body = some a ↔ leNat (slice body 0 2) = a ∧ 1 ≤ a ∧ a ≤ 511 := by
  unfold nodeAddressOf
  constructor
  · intro read
    dsimp only at read
    split at read
    · obtain rfl := Option.some.inj read; exact ⟨rfl, ‹_›⟩
    · exact absurd read nofun
  · rintro ⟨rfl, range⟩
    exact if_pos range

/-- The reply that an address brings, when it is in range. -/
theorem nodeAddressOf_map_eq_some {reply : NodeReply} : (nodeAddressOf body).map (fun a => (⟨a, reply⟩ : NodeFrame)) = some fr ↔
    ∃ a, (1 ≤ a ∧ a ≤ 511) ∧ leNat (slice body 0 2) = a ∧ fr = ⟨a, reply⟩ := by
  simp only [Option.map_eq_some_iff, nodeAddressOf_eq_some]
  constructor
  · rintro ⟨a, ⟨read, range⟩, rfl⟩; exact ⟨a, range, read, rfl⟩
  · rintro ⟨a, range, read, rfl⟩; exact ⟨a, ⟨read, range⟩, rfl⟩

/-- A body that is an address alone. -/
theorem addressAlone_iff {reply : NodeReply} :
    (if body.length = 2 then (nodeAddressOf body).map (fun a => (⟨a, reply⟩ : NodeFrame)) else none) = some fr ↔
    ∃ a : Nat, (1 ≤ a ∧ a ≤ 511) ∧ body = littleEndian 2 a ∧ fr = ⟨a, reply⟩ := by
  constructor
  · intro read
    split at read
    next length =>
      obtain ⟨a, range, address, content⟩ := nodeAddressOf_map_eq_some.mp read
      exact ⟨a, range, (eq_last_iff (w := 2) (by simp) (by decide)).mpr ⟨length, (slice_eq_unsigned (by omega) (by omega)).mpr address⟩, content⟩
    next => exact absurd read nofun
  · rintro ⟨a, range, laid, content⟩
    obtain ⟨length, address⟩ := (eq_last_iff (w := 2) (by simp) (by decide)).mp laid
    rw [if_pos length]
    exact nodeAddressOf_map_eq_some.mpr ⟨a, range, (slice_eq_unsigned (by omega) (by omega)).mp address, content⟩

theorem quietOf_iff : quietOf body = some fr ↔ ∃ a : Nat, (1 ≤ a ∧ a ≤ 511) ∧ body = littleEndian 2 a ∧ fr = ⟨a, .quiet⟩ := addressAlone_iff

theorem restartedOf_iff : restartedOf body = some fr ↔ ∃ a : Nat, (1 ≤ a ∧ a ≤ 511) ∧ body = littleEndian 2 a ∧ fr = ⟨a, .restarted⟩ := addressAlone_iff

theorem cardOf_iff : cardOf body = some fr ↔
    ∃ (a : Nat) (serial : Word32), (1 ≤ a ∧ a ≤ 511) ∧ body = littleEndian 2 a ++ littleEndian 4 serial.toNat ∧ fr = ⟨a, .card serial⟩ := by
  have laid_iff (a : Nat) (serial : Word32) (range : a ≤ 511) : body = littleEndian 2 a ++ littleEndian 4 serial.toNat ↔
      body.length = 6 ∧ leNat (slice body 0 2) = a ∧ BitVec.ofNat 32 (leNat (slice body 2 4)) = serial := by
    rw [eq_append_iff (w := 2) (by simp) (by decide), drop_eq_last (w := 4) (by simp) (by decide)]
    constructor
    · rintro ⟨-, address, length, read⟩
      exact ⟨length, (slice_eq_unsigned (by omega) (by omega)).mp address, (slice_eq_word (w := 4) (by omega)).mp read⟩
    · rintro ⟨length, address, read⟩
      exact ⟨by omega, (slice_eq_unsigned (by omega) (by omega)).mpr address, length, (slice_eq_word (w := 4) (by omega)).mpr read⟩
  unfold cardOf
  constructor
  · intro read
    split at read
    next length =>
      obtain ⟨a, range, address, content⟩ := nodeAddressOf_map_eq_some.mp read
      exact ⟨a, _, range, (laid_iff a _ range.2).mpr ⟨length, address, rfl⟩, content⟩
    next => exact absurd read nofun
  · rintro ⟨a, serial, range, laid, content⟩
    obtain ⟨length, address, read⟩ := (laid_iff a serial range.2).mp laid
    rw [if_pos length, read]
    exact nodeAddressOf_map_eq_some.mpr ⟨a, range, address, content⟩

/-- The codes of the entry states are their places in the list that the model picks from. -/
theorem entryCode_iff {e : EntryState} {n : Nat} :
    (n ≤ 2 ∧ pick .heldOpen [.closed, .opened, .heldOpen] n = e) ↔ (e, n) ∈ [(EntryState.closed, 0), (.opened, 1), (.heldOpen, 2)] := by
  constructor
  · rintro ⟨small, rfl⟩
    have cases_ : n = 0 ∨ n = 1 ∨ n = 2 := by omega
    obtain rfl | rfl | rfl := cases_ <;> decide
  · intro listed
    simp only [List.mem_cons, Prod.mk.injEq, List.not_mem_nil, or_false] at listed
    obtain ⟨rfl, rfl⟩ | ⟨rfl, rfl⟩ | ⟨rfl, rfl⟩ := listed <;> decide

theorem entryOf_iff : entryOf body = some fr ↔ ∃ (a : Nat) (e : EntryState) (privacy : Bool), (1 ≤ a ∧ a ≤ 511)
    ∧ (∃ code : Nat, (e, code) ∈ [(EntryState.closed, 0), (.opened, 1), (.heldOpen, 2)]
      ∧ body = littleEndian 2 a ++ littleEndian 1 code ++ littleEndian 1 privacy.toNat)
    ∧ fr = ⟨a, .entry e privacy⟩ := by
  have laid_iff (a code : Nat) (privacy : Bool) (range : a ≤ 511) (small : code ≤ 2) :
      body = littleEndian 2 a ++ littleEndian 1 code ++ littleEndian 1 privacy.toNat ↔
      body.length = 4 ∧ leNat (slice body 0 2) = a ∧ leNat (slice body 2 1) = code ∧ leNat (slice body 3 1) = privacy.toNat := by
    have bit_small := Bool.toNat_le privacy
    rw [List.append_assoc, eq_append_iff (w := 2) (by simp) (by decide), drop_eq_append (w := 1) (by simp) (by decide),
      drop_eq_last (w := 1) (by simp) (by decide)]
    constructor
    · rintro ⟨-, address, -, state, length, privacy_⟩
      exact ⟨length, (slice_eq_unsigned (by omega) (by omega)).mp address, (slice_eq_unsigned (by omega) (by omega)).mp state,
        (slice_eq_unsigned (by omega) (by omega)).mp privacy_⟩
    · rintro ⟨length, address, state, privacy_⟩
      exact ⟨by omega, (slice_eq_unsigned (by omega) (by omega)).mpr address, by omega, (slice_eq_unsigned (by omega) (by omega)).mpr state,
        length, (slice_eq_unsigned (by omega) (by omega)).mpr privacy_⟩
  unfold entryOf
  constructor
  · intro read
    dsimp only at read
    split at read
    next fits =>
      obtain ⟨length, state, privacy⟩ := fits
      obtain ⟨a, range, address, content⟩ := nodeAddressOf_map_eq_some.mp read
      exact ⟨a, _, _, range, ⟨_, entryCode_iff.mp ⟨state, rfl⟩, (laid_iff a _ _ range.2 state).mpr ⟨length, address, rfl, (beq_one_iff privacy).mp rfl⟩⟩,
        content⟩
    next => exact absurd read nofun
  · rintro ⟨a, e, privacy, range, ⟨code, listed, laid⟩, content⟩
    obtain ⟨small, picked⟩ := entryCode_iff.mpr listed
    obtain ⟨length, address, state, bit_⟩ := (laid_iff a code privacy range.2 small).mp laid
    have bit_small := Bool.toNat_le privacy
    rw [if_pos ⟨length, by omega, by omega⟩, state, picked, (beq_one_iff (by omega)).mpr bit_]
    exact nodeAddressOf_map_eq_some.mpr ⟨a, range, address, content⟩

end

/-! ### Station frames (R148) -/

/-- The 8 bytes of a passage record. -/
def passageBytes (p : Passage) : List Byte :=
  littleEndian 2 p.sequence.toNat ++ littleEndian 4 p.serial.toNat ++ littleEndian 1 p.inward.toNat ++ littleEndian 1 p.age

theorem length_passageBytes (p : Passage) : (passageBytes p).length = 8 := by simp [passageBytes]

theorem passageOf_iff {bytes : List Byte} {p : Passage} (length : bytes.length = 8) : passageOf bytes = some p ↔ p.age ≤ 255 ∧ bytes = passageBytes p := by
  have age_range := leNat_slice_lt (l := bytes) (i := 7) (w := 1) (by omega)
  have laid_iff (small : p.age ≤ 255) : bytes = passageBytes p ↔ BitVec.ofNat 16 (leNat (slice bytes 0 2)) = p.sequence
      ∧ BitVec.ofNat 32 (leNat (slice bytes 2 4)) = p.serial ∧ leNat (slice bytes 6 1) = p.inward.toNat ∧ leNat (slice bytes 7 1) = p.age := by
    have bit_small := Bool.toNat_le p.inward
    rw [passageBytes, List.append_assoc, List.append_assoc, eq_append_iff (w := 2) (by simp) (by decide),
      drop_eq_append (w := 4) (by simp) (by decide), drop_eq_append (w := 1) (by simp) (by decide), drop_eq_last (w := 1) (by simp) (by decide),
      slice_eq_word (w := 2) (by omega), slice_eq_word (w := 4) (by omega), slice_eq_unsigned (by omega) (by omega),
      slice_eq_unsigned (by omega) (by omega), length]
    simp
  unfold passageOf
  constructor
  · intro read
    dsimp only at read
    split at read
    next direction =>
      obtain rfl := Option.some.inj read
      have small : leNat (slice bytes 7 1) ≤ 255 := by omega
      exact ⟨small, (laid_iff small).mpr ⟨rfl, rfl, (beq_one_iff direction).mp rfl, rfl⟩⟩
    next => exact absurd read nofun
  · rintro ⟨small, laid⟩
    obtain ⟨sequence, serial, inward, age⟩ := (laid_iff small).mp laid
    have bit_small := Bool.toNat_le p.inward
    rw [if_pos (by omega), sequence, serial, age, (beq_one_iff (by omega)).mpr inward]

theorem passageListOf_iff {n : Nat} {bytes : List Byte} {ps : List Passage} (length : bytes.length = 8 * n) :
    passageListOf n bytes = some ps ↔ ps.length = n ∧ (∀ p ∈ ps, p.age ≤ 255) ∧ bytes = ps.flatMap passageBytes := by
  induction n generalizing bytes ps with
  | zero =>
    obtain rfl := List.length_eq_zero_iff.mp length
    constructor
    · rintro ⟨⟩; exact ⟨rfl, nofun, rfl⟩
    · rintro ⟨empty, -, -⟩; rw [List.length_eq_zero_iff.mp empty, passageListOf]
  | succ n ih =>
    have first : (bytes.take 8).length = 8 := by rw [List.length_take]; omega
    have later : (bytes.drop 8).length = 8 * n := by rw [List.length_drop]; omega
    rw [passageListOf]
    constructor
    · intro read
      split at read
      next p ps' one others =>
        obtain rfl := Option.some.inj read
        obtain ⟨small, laid⟩ := (passageOf_iff first).mp one
        obtain ⟨count, smalls, rests⟩ := (ih later).mp others
        refine ⟨by rw [List.length_cons, count], List.forall_mem_cons.mpr ⟨small, smalls⟩, ?_⟩
        rw [List.flatMap_cons, ← laid, ← rests, List.take_append_drop]
      next => exact absurd read nofun
    · rintro ⟨count, smalls, laid⟩
      cases ps with
      | nil => exact absurd count nofun
      | cons p ps =>
        obtain ⟨small, smalls⟩ := List.forall_mem_cons.mp smalls
        have one : passageOf (bytes.take 8) = some p := (passageOf_iff first).mpr ⟨small, by
          rw [laid, List.flatMap_cons, ← length_passageBytes p, List.take_left]⟩
        have others : passageListOf n (bytes.drop 8) = some ps := (ih later).mpr ⟨Nat.succ.inj count, smalls, by
          rw [laid, List.flatMap_cons, ← length_passageBytes p, List.drop_left]⟩
        rw [one, others]

theorem passagesOf_iff {body : List Byte} {ps : List Passage} : passagesOf body = some ps ↔
    ps.length ≤ 16 ∧ (∀ p ∈ ps, p.age ≤ 255) ∧ body = littleEndian 1 ps.length ++ ps.flatMap passageBytes := by
  unfold passagesOf
  constructor
  · intro read
    dsimp only at read
    split at read
    next fits =>
      obtain ⟨some_, few, length⟩ := fits
      obtain ⟨count, smalls, laid⟩ := (passageListOf_iff (by rw [List.length_drop]; omega)).mp read
      refine ⟨by omega, smalls, (eq_append_iff (w := 1) (by simp) (by decide)).mpr ⟨some_, ?_, laid⟩⟩
      exact (slice_eq_unsigned (by omega) (by omega)).mpr count.symm
    next => exact absurd read nofun
  · rintro ⟨few, smalls, laid⟩
    have length : body.length = 1 + 8 * ps.length := by
      have each : (ps.flatMap passageBytes).length = 8 * ps.length := by
        rw [List.length_flatMap, List.map_congr_left fun p _ => length_passageBytes p, List.map_const', List.sum_replicate, smul_eq_mul, Nat.mul_comm]
      rw [laid, List.length_append, length_littleEndian, each]
    obtain ⟨some_, count, others⟩ := (eq_append_iff (w := 1) (by simp) (by decide)).mp laid
    have count := (slice_eq_unsigned (by omega) (by omega)).mp count
    rw [if_pos ⟨some_, by omega, by omega⟩, count]
    exact (passageListOf_iff (by rw [List.length_drop]; omega)).mpr ⟨rfl, smalls, others⟩

end Sys2Proof.Machine
end

section
/-! The bodies of the till requests (R43, R88). -/
namespace Sys2Proof.Machine

/-! ### Charge lines (R43) -/

/-- A line within the ranges of R43. -/
def LineFits (l : Line) : Prop := 0 ≤ l.price ∧ l.price ≤ 9999999 ∧ -99 ≤ l.quantity ∧ l.quantity ≤ 99 ∧ l.quantity ≠ 0

/-- The flags byte of a line. -/
def lineFlags (l : Line) : Nat := l.age.toNat + 2 * l.noGrat.toNat + 4 * l.noTax.toNat

/-- The 5 bytes of a charge line. -/
def lineBytes (l : Line) : List Byte := littleEndian 3 l.price ++ littleEndian 1 l.quantity ++ littleEndian 1 (lineFlags l)

theorem length_lineBytes (l : Line) : (lineBytes l).length = 5 := by simp [lineBytes]

theorem flags_iff {f : Nat} {a b c : Bool} :
    (f < 8 ∧ f.testBit 0 = a ∧ f.testBit 1 = b ∧ f.testBit 2 = c) ↔ f = a.toNat + 2 * b.toNat + 4 * c.toNat := by
  constructor
  · rintro ⟨small, rfl, rfl, rfl⟩
    interval_cases f <;> decide
  · rintro rfl
    cases a <;> cases b <;> cases c <;> decide

theorem lineOf_iff {bytes : List Byte} {l : Line} (length : bytes.length = 5) : lineOf bytes = some l ↔ LineFits l ∧ bytes = lineBytes l := by
  have laid_iff (fits : LineFits l) : bytes = lineBytes l ↔ (leNat (slice bytes 0 3) : Int) = l.price
      ∧ asSigned 1 (leNat (slice bytes 3 1)) = l.quantity ∧ leNat (slice bytes 4 1) = lineFlags l := by
    obtain ⟨low, high, few, many, -⟩ := fits
    obtain ⟨price, is⟩ := Int.eq_ofNat_of_zero_le low
    have flags_small : lineFlags l < 8 := (flags_iff.mpr rfl).1
    rw [lineBytes, List.append_assoc, is, eq_append_iff (w := 3) (by simp) (by decide), drop_eq_append (w := 1) (by simp) (by decide),
      drop_eq_last (w := 1) (by simp) (by decide), slice_eq_unsigned (by omega) (by omega), slice_eq_signed (by omega) (by omega) (by omega),
      slice_eq_unsigned (by omega) (by omega), length, Nat.cast_inj]
    simp
  unfold lineOf
  constructor
  · intro read
    dsimp only at read
    split at read
    next ranges =>
      obtain rfl := Option.some.inj read
      obtain ⟨price, few, many, some_, flags⟩ := ranges
      have fits : LineFits ⟨leNat (slice bytes 0 3), asSigned 1 (leNat (slice bytes 3 1)), (leNat (slice bytes 4 1)).testBit 0,
          (leNat (slice bytes 4 1)).testBit 1, (leNat (slice bytes 4 1)).testBit 2⟩ := ⟨by simp, Int.ofNat_le.mpr price, few, many, some_⟩
      exact ⟨fits, (laid_iff fits).mpr ⟨rfl, rfl, flags_iff.mp ⟨flags, rfl, rfl, rfl⟩⟩⟩
    next => exact absurd read nofun
  · rintro ⟨fits, laid⟩
    obtain ⟨price, quantity, flags⟩ := (laid_iff fits).mp laid
    obtain ⟨small, age, noGrat, noTax⟩ := flags_iff.mpr flags
    obtain ⟨low, high, few, many, some_⟩ := fits
    dsimp only
    rw [if_pos ⟨by omega, by omega, by omega, by omega, small⟩, price, quantity, age, noGrat, noTax]

theorem linesOf_iff {n index : Nat} {bytes : List Byte} {ls : List Line} (length : bytes.length = 5 * n) :
    linesOf index n bytes = .ok ls ↔ ls.length = n ∧ (∀ l ∈ ls, LineFits l) ∧ bytes = ls.flatMap lineBytes := by
  induction n generalizing bytes ls index with
  | zero =>
    obtain rfl := List.length_eq_zero_iff.mp length
    constructor
    · rintro ⟨⟩; exact ⟨rfl, nofun, rfl⟩
    · rintro ⟨empty, -, -⟩; rw [List.length_eq_zero_iff.mp empty, linesOf]
  | succ n ih =>
    have first : (bytes.take 5).length = 5 := by rw [List.length_take]; omega
    have later : (bytes.drop 5).length = 5 * n := by rw [List.length_drop]; omega
    rw [linesOf]
    constructor
    · intro read
      split at read
      next => exact absurd read nofun
      next l one =>
        split at read
        next => exact absurd read nofun
        next ls' others =>
          obtain rfl := Except.ok.inj read
          obtain ⟨fits, laid⟩ := (lineOf_iff first).mp one
          obtain ⟨count, all, rests⟩ := (ih later).mp others
          refine ⟨by rw [List.length_cons, count], List.forall_mem_cons.mpr ⟨fits, all⟩, ?_⟩
          rw [List.flatMap_cons, ← laid, ← rests, List.take_append_drop]
    · rintro ⟨count, all, laid⟩
      cases ls with
      | nil => exact absurd count nofun
      | cons l ls =>
        obtain ⟨fits, all⟩ := List.forall_mem_cons.mp all
        have one : lineOf (bytes.take 5) = some l := (lineOf_iff first).mpr ⟨fits, by
          rw [laid, List.flatMap_cons, ← length_lineBytes l, List.take_left]⟩
        have others : linesOf (index + 1) n (bytes.drop 5) = .ok ls := (ih later).mpr ⟨Nat.succ.inj count, all, by
          rw [laid, List.flatMap_cons, ← length_lineBytes l, List.drop_left]⟩
        simp only [one, others]

/-- The line count and the lines of a charge. -/
def listedBytes (ls : List Line) : List Byte := littleEndian 1 ls.length ++ ls.flatMap lineBytes

theorem length_flatMap_lineBytes (ls : List Line) : (ls.flatMap lineBytes).length = 5 * ls.length := by
  rw [List.length_flatMap, List.map_congr_left fun l _ => length_lineBytes l, List.map_const', List.sum_replicate, smul_eq_mul, Nat.mul_comm]

/-- Lines of R43 at a place of the body, their length being that of the count there. -/
theorem lineListOf_iff {body : List Byte} {i : Nat} {ls : List Line} :
    (i + 1 ≤ body.length ∧ body.length = i + 1 + 5 * leNat (slice body i 1)) ∧ lineListOf body i = .ok ls ↔
    (1 ≤ ls.length ∧ ls.length ≤ 8 ∧ ∀ l ∈ ls, LineFits l) ∧ body.drop i = listedBytes ls := by
  unfold lineListOf
  constructor
  · rintro ⟨⟨long, length⟩, read⟩
    dsimp only at read
    split at read
    next count =>
      split at read
      next => exact absurd read nofun
      next ls' lines =>
        obtain rfl := Except.ok.inj read
        obtain ⟨counted, all, laid⟩ := (linesOf_iff (by rw [List.length_drop]; omega)).mp lines
        refine ⟨⟨by omega, by omega, all⟩, (drop_eq_append (w := 1) (by simp) (by decide)).mpr ⟨long, ?_, laid⟩⟩
        exact (slice_eq_unsigned (by omega) (by omega)).mpr counted.symm
    next => exact absurd read nofun
  · rintro ⟨⟨some_, few, all⟩, laid⟩
    have lengths := congrArg List.length laid
    rw [List.length_drop, listedBytes, List.length_append, length_littleEndian, length_flatMap_lineBytes] at lengths
    obtain ⟨long, count, lines⟩ := (drop_eq_append (w := 1) (by simp) (by decide)).mp laid
    have count := (slice_eq_unsigned (by omega) (by omega)).mp count
    have read := (linesOf_iff (index := 1) (by rw [List.length_drop]; omega)).mpr ⟨rfl, all, lines⟩
    refine ⟨⟨by omega, by omega⟩, ?_⟩
    simp only [count, if_pos (And.intro some_ few), read]

/-! ### The request (R88) -/

section
variable {kind : TillKind} {body rest : List Byte} {r : TillRequest}

/-- The till and the serial with which every till request's body begins. -/
def tillHead (r : TillRequest) : List Byte := littleEndian 1 r.till.val ++ littleEndian 4 r.serial.toNat

theorem length_tillHead (r : TillRequest) : (tillHead r).length = 5 := by simp [tillHead]

theorem eq_tillHead_append : body = tillHead r ++ rest ↔
    5 ≤ body.length ∧ leNat (slice body 0 1) = r.till.val ∧ leNat (slice body 1 4) = r.serial.toNat ∧ body.drop 5 = rest := by
  have till_small := r.till.isLt
  have serial_small := r.serial.isLt
  rw [tillHead, List.append_assoc, eq_append_iff (w := 1) (by simp) (by decide), drop_eq_append (w := 4) (by simp) (by decide)]
  constructor
  · rintro ⟨-, till, long, serial, later⟩
    exact ⟨by omega, (slice_eq_unsigned (by omega) (by omega)).mp till, (slice_eq_unsigned (by omega) (by omega)).mp serial, later⟩
  · rintro ⟨long, till, serial, later⟩
    exact ⟨by omega, (slice_eq_unsigned (by omega) (by omega)).mpr till, by omega, (slice_eq_unsigned (by omega) (by omega)).mpr serial, later⟩

theorem tillLengthOk_long (length : tillLengthOk kind body = true) : 5 ≤ body.length := by
  cases kind <;> simp [tillLengthOk] at length <;> omega

/-- The two serials that name no card (R88). -/
theorem named_iff {serial : Word32} : (serial ≠ 0 ∧ serial ≠ 0xFFFFFFFF) ↔ ¬ (serial.toNat = 0 ∨ serial.toNat = 0xFFFFFFFF) := by
  rw [not_or]
  constructor
  · rintro ⟨zero, ones⟩
    exact ⟨fun is => zero (BitVec.eq_of_toNat_eq is), fun is => ones (BitVec.eq_of_toNat_eq is)⟩
  · rintro ⟨zero, ones⟩
    exact ⟨fun is => zero (is ▸ rfl), fun is => ones (is ▸ rfl)⟩

/-- A request is read when its length is its kind's, a till and a card are named, and the rest asks something. -/
theorem tillRequestOf_iff : tillRequestOf kind body = .ok r ↔ (r.serial ≠ 0 ∧ r.serial ≠ 0xFFFFFFFF)
    ∧ (tillLengthOk kind body = true ∧ tillAskOf kind body = .ok r.ask) ∧ body = tillHead r ++ body.drop 5 := by
  rw [eq_tillHead_append, named_iff]
  unfold tillRequestOf
  constructor
  · intro read
    split at read
    next length =>
      have long := tillLengthOk_long length
      have small := leNat_slice_lt (l := body) (i := 1) (w := 4) (by omega)
      split at read
      next till =>
        dsimp only at read
        split at read
        next => exact absurd read nofun
        next serial =>
          split at read
          next => exact absurd read nofun
          next ask asked =>
            obtain rfl := Except.ok.inj read
            have same : (BitVec.ofNat 32 (leNat (slice body 1 4))).toNat = leNat (slice body 1 4) := by
              rw [BitVec.toNat_ofNat, Nat.mod_eq_of_lt (by omega)]
            exact ⟨by rw [same]; exact serial, ⟨length, asked⟩, long, rfl, same.symm, rfl⟩
      next => exact absurd read nofun
    next => exact absurd read nofun
  · rintro ⟨serial, ⟨length, asked⟩, -, till_, serial_, -⟩
    have till_small := r.till.isLt
    rw [if_pos length, dif_pos (by omega)]
    simp only [serial_, if_neg serial, asked]
    exact congrArg Except.ok (by
      cases r
      simp only [BitVec.ofNat_toNat, BitVec.setWidth_eq, TillRequest.mk.injEq, and_true]
      exact Fin.ext till_)

theorem eq_tillHead_append_iff : (body = tillHead r ++ body.drop 5 ∧ body.drop 5 = rest) ↔ body = tillHead r ++ rest := by
  constructor
  · rintro ⟨laid, rfl⟩; exact laid
  · intro laid
    have later : body.drop 5 = rest := by rw [laid, ← length_tillHead r, List.drop_left]
    exact ⟨later.symm ▸ laid, later⟩

/-! ### What each kind asks -/

theorem chargeAsks_iff : (tillLengthOk .charge body = true ∧ tillAskOf .charge body = .ok r.ask) ↔
    ∃ ls, (r.ask = .charge ls ∧ 1 ≤ ls.length ∧ ls.length ≤ 8 ∧ ∀ l ∈ ls, LineFits l) ∧ body.drop 5 = listedBytes ls := by
  have lines (ls : List Line) := lineListOf_iff (body := body) (i := 5) (ls := ls)
  simp only [tillLengthOk, Bool.and_eq_true, decide_eq_true_eq, tillAskOf]
  constructor
  · rintro ⟨length, read⟩
    split at read
    next => exact absurd read nofun
    next ls listed =>
      obtain ⟨valid, laid⟩ := (lines ls).mp ⟨length, listed⟩
      exact ⟨ls, ⟨(Except.ok.inj read).symm, valid⟩, laid⟩
  · rintro ⟨ls, ⟨asks, valid⟩, laid⟩
    obtain ⟨length, listed⟩ := (lines ls).mpr ⟨valid, laid⟩
    exact ⟨length, by simp only [listed, asks]⟩

theorem openTabAsks_iff : (tillLengthOk .openTab body = true ∧ tillAskOf .openTab body = .ok r.ask) ↔
    ∃ a, (r.ask = .openTab a ∧ 1 ≤ a ∧ a ≤ 8388607) ∧ body.drop 5 = littleEndian 3 a := by
  simp only [tillLengthOk, decide_eq_true_eq, tillAskOf]
  constructor
  · rintro ⟨length, read⟩
    split at read
    next range =>
      refine ⟨_, ⟨(Except.ok.inj read).symm, range⟩, (drop_eq_last (w := 3) (by simp) (by decide)).mpr ⟨length, ?_⟩⟩
      exact (slice_eq_signed (by omega) (by omega) (by omega)).mpr rfl
    next => exact absurd read nofun
  · rintro ⟨a, ⟨asks, low, high⟩, laid⟩
    obtain ⟨length, amount⟩ := (drop_eq_last (w := 3) (by simp) (by decide)).mp laid
    have amount := (slice_eq_signed (by omega) (by omega) (by omega)).mp amount
    exact ⟨length, by rw [amount, if_pos ⟨low, high⟩, asks]⟩

theorem closeTabAsks_iff : (tillLengthOk .closeTab body = true ∧ tillAskOf .closeTab body = .ok r.ask) ↔
    ∃ (hold : Nat) (ls : List Line), (r.ask = .closeTab hold ls ∧ 1 ≤ hold ∧ hold ≤ 65535 ∧ 1 ≤ ls.length ∧ ls.length ≤ 8 ∧ ∀ l ∈ ls, LineFits l)
      ∧ body.drop 5 = littleEndian 2 hold ++ listedBytes ls := by
  have lines (ls : List Line) := lineListOf_iff (body := body) (i := 7) (ls := ls)
  simp only [tillLengthOk, Bool.and_eq_true, decide_eq_true_eq, tillAskOf]
  constructor
  · rintro ⟨length, read⟩
    have small := leNat_slice_lt (l := body) (i := 5) (w := 2) (by omega)
    split at read
    next some_ =>
      split at read
      next => exact absurd read nofun
      next ls listed =>
        obtain ⟨valid, laid⟩ := (lines ls).mp ⟨length, listed⟩
        refine ⟨_, ls, ⟨(Except.ok.inj read).symm, some_, by omega, valid⟩, (drop_eq_append (w := 2) (by simp) (by decide)).mpr ⟨by omega, ?_, laid⟩⟩
        exact (slice_eq_unsigned (by omega) (by omega)).mpr rfl
    next => exact absurd read nofun
  · rintro ⟨hold, ls, ⟨asks, some_, most, valid⟩, laid⟩
    obtain ⟨long, number, rest⟩ := (drop_eq_append (w := 2) (by simp) (by decide)).mp laid
    have number := (slice_eq_unsigned (by omega) (by omega)).mp number
    obtain ⟨length, listed⟩ := (lines ls).mpr ⟨valid, rest⟩
    exact ⟨length, by rw [number, if_pos some_]; simp only [listed, asks]⟩

theorem voidAsks_iff : (tillLengthOk .void body = true ∧ tillAskOf .void body = .ok r.ask) ↔
    ∃ charge : Word32, r.ask = .void charge ∧ body.drop 5 = littleEndian 4 charge.toNat := by
  simp only [tillLengthOk, decide_eq_true_eq, tillAskOf]
  constructor
  · rintro ⟨length, read⟩
    refine ⟨_, (Except.ok.inj read).symm, (drop_eq_last (w := 4) (by simp) (by decide)).mpr ⟨length, ?_⟩⟩
    exact (slice_eq_word (w := 4) (by omega)).mpr rfl
  · rintro ⟨charge, asks, laid⟩
    obtain ⟨length, number⟩ := (drop_eq_last (w := 4) (by simp) (by decide)).mp laid
    have number := (slice_eq_word (w := 4) (by omega)).mp number
    exact ⟨length, by rw [asks]; exact congrArg (fun x => Except.ok (TillAsk.void x)) number⟩

end

end Sys2Proof.Machine
end

section
/-! A received frame as its command and its values (R43, R88, R134, R148, R185, R187). -/
namespace Sys2Proof.Machine

section
variable {body : List Byte} {r : TillRequest}

/-- A request is read when a card is named and the body is the head and what the kind asks, in the layout of the kind (R88). -/
theorem tillRequestOf_laid {kind : TillKind} {α : Type} {holds : α → Prop} {laid : α → List Byte}
    (asks : (tillLengthOk kind body = true ∧ tillAskOf kind body = .ok r.ask) ↔ ∃ x, holds x ∧ body.drop 5 = laid x) :
    tillRequestOf kind body = .ok r ↔ (r.serial ≠ 0 ∧ r.serial ≠ 0xFFFFFFFF) ∧ ∃ x, holds x ∧ body = tillHead r ++ laid x := by
  rw [tillRequestOf_iff, asks]
  constructor
  · rintro ⟨named, ⟨x, holds_, rest⟩, head⟩
    exact ⟨named, x, holds_, eq_tillHead_append_iff.mp ⟨head, rest⟩⟩
  · rintro ⟨named, x, holds_, all⟩
    obtain ⟨head, rest⟩ := eq_tillHead_append_iff.mpr all
    exact ⟨named, ⟨x, holds_, rest⟩, head⟩

end

theorem passageBytes_eq (p : Passage) : passageBytes p =
    littleEndian 2 p.sequence.toNat ++ littleEndian 4 p.serial.toNat ++ littleEndian 1 (if p.inward then 1 else 0) ++ littleEndian 1 p.age := by
  rw [passageBytes, bit_eq]

theorem lineBytes_eq (l : Line) : lineBytes l = littleEndian 3 l.price ++ littleEndian 1 l.quantity
    ++ littleEndian 1 ((if l.age then 1 else 0) + 2 * (if l.noGrat then 1 else 0) + 4 * (if l.noTax then 1 else 0)) := by
  rw [lineBytes, bit_eq, bit_eq, bit_eq]
  rfl

/-- The code of an entry state, as a natural number or an integer. -/
theorem exists_entryCode_iff {e : EntryState} {p : Int → Prop} : (∃ code : Nat, (e, code) ∈ [(EntryState.closed, 0), (.opened, 1), (.heldOpen, 2)] ∧ p code)
    ↔ ∃ code : Int, (e, code) ∈ [(EntryState.closed, (0 : Int)), (.opened, 1), (.heldOpen, 2)] ∧ p code := by
  simp only [List.mem_cons, Prod.mk.injEq, List.not_mem_nil, or_false]
  constructor
  · rintro ⟨code, ⟨is, rfl⟩ | ⟨is, rfl⟩ | ⟨is, rfl⟩, holds⟩
    · exact ⟨0, .inl ⟨is, rfl⟩, holds⟩
    · exact ⟨1, .inr (.inl ⟨is, rfl⟩), holds⟩
    · exact ⟨2, .inr (.inr ⟨is, rfl⟩), holds⟩
  · rintro ⟨code, ⟨is, rfl⟩ | ⟨is, rfl⟩ | ⟨is, rfl⟩, holds⟩
    · exact ⟨0, .inl ⟨is, rfl⟩, holds⟩
    · exact ⟨1, .inr (.inl ⟨is, rfl⟩), holds⟩
    · exact ⟨2, .inr (.inr ⟨is, rfl⟩), holds⟩

section
variable {body : List Byte} {r : TillRequest}

/-- The four till requests as R88 lays them out. -/
theorem tillRequests_laid :
    let named := r.serial ≠ 0 ∧ r.serial ≠ 0xFFFFFFFF
    let valid (ls : List Line) : Prop := 1 ≤ ls.length ∧ ls.length ≤ 8 ∧ ∀ l ∈ ls, LineFits l
    (tillRequestOf .charge body = .ok r ↔ named ∧ ∃ ls, r.ask = .charge ls ∧ valid ls ∧ body = tillHead r ++ listedBytes ls)
    ∧ (tillRequestOf .openTab body = .ok r ↔ named ∧ ∃ a, r.ask = .openTab a ∧ 1 ≤ a ∧ a ≤ 8388607 ∧ body = tillHead r ++ littleEndian 3 a)
    ∧ (tillRequestOf .closeTab body = .ok r ↔ named ∧ ∃ (hold : Nat) (ls : List Line), r.ask = .closeTab hold ls ∧ 1 ≤ hold ∧ hold ≤ 65535 ∧ valid ls
        ∧ body = tillHead r ++ littleEndian 2 hold ++ listedBytes ls)
    ∧ (tillRequestOf .void body = .ok r ↔ named ∧ ∃ charge : Word32, r.ask = .void charge ∧ body = tillHead r ++ littleEndian 4 charge.toNat) := by
  intro named valid
  refine ⟨?_, ?_, ?_, tillRequestOf_laid voidAsks_iff⟩
  · rw [tillRequestOf_laid chargeAsks_iff]
    simp only [and_assoc, named, valid]
  · rw [tillRequestOf_laid openTabAsks_iff]
    simp only [and_assoc, named]
  · rw [tillRequestOf_laid (holds := fun x : Nat × List Line => r.ask = .closeTab x.1 x.2 ∧ 1 ≤ x.1 ∧ x.1 ≤ 65535 ∧ valid x.2)
      (laid := fun x => littleEndian 2 x.1 ++ listedBytes x.2) (by simpa only [Prod.exists] using closeTabAsks_iff), Prod.exists]
    simp only [and_assoc, List.append_assoc, named, valid]

end

/-- Settles O9: bodies are read field by field, each slice of the body being the bytes of its value. -/
theorem framesAreReceivedAsTheirCommands : Obligations.FramesAreReceivedAsTheirCommands := by
  refine ⟨fun kind tag body fits => collect_envelope kind tag body fits, fun _ _ _ _ _ formed framed => frameCommand_frameOf formed framed,
    fun kind tag body => ⟨frameOf_serviceCommand kind tag body, frameOf_tillFrameCommand kind tag body, serviceCommand_of_unknown, tillFrameCommand_of_unknown⟩,
    fun i kind tag body => nodeCommand_cases i kind body, fun g kind tag body => stationCommand_cases g kind body, fun body => ?_⟩
  intro le bit places
  refine ⟨fun _ => quietOf_iff, fun _ => restartedOf_iff, fun _ => cardOf_iff, fun fr => ?_, fun ps => ?_, fun r => ?_⟩
  · rw [entryOf_iff]
    refine exists_congr fun a => exists_congr fun e => exists_congr fun privacy => and_congr_right fun _ => and_congr_left fun _ => ?_
    rw [← bit_eq]
    exact exists_entryCode_iff (p := fun code => body = littleEndian 2 a ++ littleEndian 1 code ++ littleEndian 1 (bit privacy))
  · rw [passagesOf_iff]
    simp only [funext passageBytes_eq]
    exact Iff.rfl
  · intro head named valid listed
    have listed_eq (ls : List Line) : listedBytes ls = listed ls := by
      rw [listedBytes, funext lineBytes_eq]
      rfl
    have requests := tillRequests_laid (body := body) (r := r)
    simp only [listed_eq] at requests
    exact requests

end Sys2Proof.Machine
end

section
/-! Frames as transmitted (R54, R55, R89, R134, R148, R176, R179, R187, R188). -/
namespace Sys2Proof.Machine

/-! ### The fields of each frame -/

theorem byte_eq (n : Nat) : [BitVec.ofNat 8 n] = littleEndian 1 n := leBytes_eq 1 n

theorem length_leBytes (w n : Nat) : (leBytes w n).length = w := by rw [leBytes_eq, length_littleEndian]

theorem length_leInt (w : Nat) (x : Int) : (leInt w x).length = w := by rw [leInt_eq, length_littleEndian]

theorem length_verdictBytes (e : Word16 × PassageVerdict) : (verdictBytes e).length = 3 := by simp [verdictBytes, length_leBytes]

theorem length_flatMap_verdictBytes (es : List (Word16 × PassageVerdict)) : (es.flatMap verdictBytes).length = 3 * es.length := by
  rw [List.length_flatMap, List.map_congr_left fun e _ => length_verdictBytes e, List.map_const', List.sum_replicate, smul_eq_mul, Nat.mul_comm]

theorem length_replyBytes_le (r : Reply) : r.bytes.length ≤ 1022 := by
  rw [Reply.bytes, List.length_cons, Payload.bytes, List.length_take]
  omega

/-- Every frame is an envelope whose fields have their place in it. -/
theorem frameBytes_envelope (f : Frame) (few : ∀ es, f = .verdicts es → es.length ≤ 16) :
    ∃ kind tag fields, f.bytes = envelope kind tag fields ∧ fields.length ≤ 1022 := by
  cases f with
  | reply r => exact ⟨_, _, _, rfl, length_replyBytes_le r⟩
  | tillAnswer a => exact ⟨_, _, _, rfl, by simp [TillAnswer.bytes, length_leBytes, length_leInt]⟩
  | poll a => exact ⟨_, _, _, rfl, by simp [length_leBytes]⟩
  | mode a m => exact ⟨_, _, _, rfl, by simp [length_leBytes]⟩
  | decision a serial d => exact ⟨_, _, _, rfl, by simp [length_leBytes]⟩
  | fetch => exact ⟨_, _, _, rfl, by simp [length_leBytes]⟩
  | verdicts es =>
    have bound := few es rfl
    exact ⟨_, _, _, rfl, by rw [List.length_append, length_leBytes, length_flatMap_verdictBytes]; omega⟩
  | counts c => exact ⟨_, _, _, rfl, by simp [Counts.bytes, length_leBytes]⟩

theorem frameBytes_pass (f : Frame) (few : ∀ es, f = .verdicts es → es.length ≤ 16) : envelopeOk f.bytes = true ∧ badCrcFrame f.bytes = false := by
  obtain ⟨kind, tag, fields, is, fits⟩ := frameBytes_envelope f few
  rw [is]
  exact envelopeOk_envelope kind tag fields fits

/-! ### Replies (R187, R188) -/

theorem payloadBytes_nothing : Payload.bytes .nothing = [] := rfl

theorem replyFrameBytes (r : Reply) : (r.payload = .nothing → Frame.bytes (.reply r) = envelope r.kind r.tag [BitVec.ofNat 8 r.status.code])
    ∧ (Frame.bytes (.reply r)).head? = some 0xB5
    ∧ slice (Frame.bytes (.reply r)) 3 3 = [r.kind, r.tag, BitVec.ofNat 8 r.status.code]
    ∧ leNat (slice (Frame.bytes (.reply r)) 1 2) + 5 = (Frame.bytes (.reply r)).length
    ∧ Frame.bytes (.reply r) = envelope r.kind r.tag (BitVec.ofNat 8 r.status.code :: r.payload.bytes) := by
  refine ⟨fun nothing => ?_, (envelope_fields r.kind r.tag r.bytes).1, ?_, ?_, rfl⟩
  · rw [Frame.bytes, Reply.bytes, nothing, payloadBytes_nothing]
  · rw [Frame.bytes, envelope_eq]
    rfl
  · rw [Frame.bytes, leNat_envelope_length _ _ _ (length_replyBytes_le r), length_envelope]
    omega

/-! ### Field frames, till answers and records (R89, R134, R148, R176) -/

theorem verdictsBytes_eq (es : List (Word16 × PassageVerdict)) : Frame.bytes (.verdicts es) =
    envelope 0x02 0 (littleEndian 1 es.length ++ es.flatMap (fun e => littleEndian 2 e.1.toNat ++ littleEndian 1 e.2.number)) := by
  have each : verdictBytes = fun e => littleEndian 2 e.1.toNat ++ littleEndian 1 e.2.number := by
    funext e; rw [verdictBytes, leBytes_eq, leBytes_eq]
  rw [Frame.bytes, leBytes_eq, each]

theorem countsBytes_eq (c : Counts) : Frame.bytes (.counts c) =
    envelope 0x03 0 (littleEndian 2 c.guestsAboard ++ littleEndian 2 c.crewAboard ++ littleEndian 2 c.guestsAshore ++ littleEndian 2 c.crewAshore
      ++ littleEndian 2 (c.minutes.elim 65535 (fun m => (m : Int))) ++ littleEndian 1 c.hour ++ littleEndian 1 c.minute) := by
  have minutes : ((c.minutes.getD 0xFFFF : Nat) : Int) = c.minutes.elim 65535 (fun m => (m : Int)) := by cases c.minutes <;> rfl
  simp only [Frame.bytes, Counts.bytes, leBytes_eq, minutes]

theorem tillAnswerBytes_eq (x : TillAnswer) : Frame.bytes (.tillAnswer x) = envelope x.kind x.sequence (x.till :: (littleEndian 1 x.body.verdict.number
    ++ littleEndian 1 (x.body.reason.elim 0 (fun r => (r.number : Int))) ++ littleEndian 1 x.body.detail1 ++ littleEndian 1 x.body.detail2
    ++ littleEndian 1 (if x.repeated then 1 else 0) ++ littleEndian 4 x.body.charge.toNat ++ littleEndian 3 x.body.amount1
    ++ littleEndian 3 x.body.amount2 ++ littleEndian 3 x.body.amount3 ++ littleEndian 2 x.body.hold)) := by
  have reason : ((x.body.reasonByte : Nat) : Int) = x.body.reason.elim 0 (fun r => (r.number : Int)) := by
    unfold AnswerBody.reasonByte
    cases x.body.reason <;> rfl
  simp only [Frame.bytes, TillAnswer.bytes, leBytes_eq, leInt_eq, bit_eq, ← reason, ← byte_eq, List.append_assoc, List.cons_append, List.nil_append]

theorem recordBytes_eq (r : Record) : r.bytes = littleEndian 4 r.sequence.toNat ++ littleEndian 1 r.kind.code
    ++ littleEndian 1 ((if r.flags.irregular then 1 else 0) + 2 * (if r.flags.limited then 1 else 0) + 4 * (if r.flags.saturated then 1 else 0)
      + 8 * (if r.flags.lenient then 1 else 0))
    ++ littleEndian 4 r.voyage ++ littleEndian 2 r.index ++ littleEndian 4 r.serial.toNat ++ littleEndian 2 r.folio ++ littleEndian 1 r.place
    ++ littleEndian 1 r.reason ++ littleEndian 3 r.a ++ littleEndian 3 r.b ++ littleEndian 3 r.c ++ littleEndian 3 r.aux := by
  have flags : [r.flags.byte] = littleEndian 1 ((if r.flags.irregular then 1 else 0) + 2 * (if r.flags.limited then 1 else 0)
      + 4 * (if r.flags.saturated then 1 else 0) + 8 * (if r.flags.lenient then 1 else 0)) := by
    simp only [bit_eq]
    exact byte_eq _
  rw [← flags, ← byte_eq]
  simp only [Record.bytes, leBytes_eq, leInt_eq, List.append_assoc, List.cons_append, List.nil_append]

theorem length_recordBytes (r : Record) : r.bytes.length = 32 := by
  rw [recordBytes_eq]
  simp

/-! ### The parts of a reply's further fields (R54, R55, R179; log 15) -/

section
variable {p : Payload} {k : Nat}

/-- The most bytes that a part takes. -/
def partBound : ReplyPart → Nat
  | .others => 160
  | .money _ => 3
  | .split _ => 4
  | .record _ => 32

theorem length_partBytes_le (p : Payload) (k : Nat) (x : ReplyPart) : (x.bytes p k).length ≤ partBound x := by
  cases x with
  | others => exact List.length_take_le ..
  | money v => exact (length_leInt 3 v).le
  | split v => simp [ReplyPart.bytes, Split.bytes, length_leInt, partBound]
  | record r => exact (length_recordBytes r).le

theorem length_partsBytes_le (p : Payload) (k : Nat) (xs : List ReplyPart) : (partsBytes p k xs).length ≤ (xs.map partBound).sum := by
  induction xs generalizing k with
  | nil => exact Nat.le_refl 0
  | cons x xs ih =>
    rw [partsBytes, List.length_append, List.map_cons, List.sum_cons]
    exact Nat.add_le_add (length_partBytes_le p k x) (ih (k + 1))

/-- Parts that fit into the frame are all in it. -/
theorem payloadBytes_of_fits (fits : (p.parts.map partBound).sum ≤ 1021) : p.bytes = partsBytes p 0 p.parts :=
  List.take_of_length_le ((length_partsBytes_le p 0 p.parts).trans fits)

theorem partsBytes_append (xs ys : List ReplyPart) : partsBytes p k (xs ++ ys) = partsBytes p k xs ++ partsBytes p (k + xs.length) ys := by
  induction xs generalizing k with
  | nil => rfl
  | cons x xs ih => rw [List.cons_append, partsBytes, ih, partsBytes, List.append_assoc, List.length_cons, Nat.add_assoc, Nat.add_comm 1]

theorem moneyBytes_eq (v : Int) : moneyBytes v = littleEndian 3 v := leInt_eq 3 v

theorem splitBytes_eq (v : Split) : v.bytes = littleEndian 3 v.low ++ littleEndian 1 v.high := by rw [Split.bytes, leInt_eq, leInt_eq]

/-- The bytes of the part at a place whose fields the spec lays out nowhere (log 15). -/
def freeBytes (p : Payload) (k : Nat) : List Byte := ReplyPart.others.bytes p k

@[simp] theorem partsBytes_nil : partsBytes p k [] = [] := rfl

@[simp] theorem partsBytes_others (xs : List ReplyPart) : partsBytes p k (.others :: xs) = freeBytes p k ++ partsBytes p (k + 1) xs := rfl

@[simp] theorem partsBytes_money (v : Int) (xs : List ReplyPart) : partsBytes p k (.money v :: xs) = littleEndian 3 v ++ partsBytes p (k + 1) xs := by
  rw [partsBytes, ReplyPart.bytes, moneyBytes_eq]

@[simp] theorem partsBytes_split (v : Split) (xs : List ReplyPart) :
    partsBytes p k (.split v :: xs) = littleEndian 3 v.low ++ littleEndian 1 v.high ++ partsBytes p (k + 1) xs := by
  rw [partsBytes, ReplyPart.bytes, splitBytes_eq]

theorem partsBytes_records (rs : List Record) : partsBytes p k (rs.map .record) = rs.flatMap Record.bytes := by
  induction rs generalizing k with
  | nil => rfl
  | cons r rs ih => rw [List.map_cons, partsBytes, ih, List.flatMap_cons]; rfl

/-- The parts of a folio's holds, an amount and a free part each. -/
theorem partsBytes_holds (holds : List HoldReading) (n base : Nat) : partsBytes p (base + 2 * n) (holds.flatMap (fun h => [.money h.amount, .others])) =
    (holds.zipIdx n).flatMap (fun e => littleEndian 3 e.1.amount ++ freeBytes p (base + 2 * e.2 + 1)) := by
  induction holds generalizing n with
  | nil => rfl
  | cons h holds ih =>
    rw [List.flatMap_cons, List.zipIdx_cons, List.flatMap_cons, ← ih (n + 1)]
    simp only [List.cons_append, List.nil_append, partsBytes_money, partsBytes_others, List.append_assoc]
    rfl

theorem dayTotal_laid (day : Nat) (total : Split) (saturated : Bool) :
    ∃ x y, Payload.bytes (.dayTotal day total saturated) = x ++ (littleEndian 3 total.low ++ littleEndian 1 total.high) ++ y := by
  let p : Payload := .dayTotal day total saturated
  refine ⟨freeBytes p 0, freeBytes p 2, ?_⟩
  rw [payloadBytes_of_fits (by simp [Payload.parts, partBound])]
  simp [Payload.parts, p]

theorem credit_laid (balance : Int) (state : FolioState) : ∃ x, Payload.bytes (.credit balance state) = littleEndian 3 balance ++ x := by
  refine ⟨freeBytes (.credit balance state) 1, ?_⟩
  rw [payloadBytes_of_fits (by simp [Payload.parts, partBound])]
  simp [Payload.parts]

theorem folio_laid (state : FolioState) (balance : Int) (limit reserved available : Split) (persons : Nat) (near limited : Bool)
    (holds : List HoldReading) (few : holds.length ≤ 4) : ∃ x y, ∃ z : Nat → List Byte,
    Payload.bytes (.folio state balance limit reserved available persons near limited holds) =
      x ++ littleEndian 3 balance ++ (littleEndian 3 limit.low ++ littleEndian 1 limit.high)
        ++ (littleEndian 3 reserved.low ++ littleEndian 1 reserved.high) ++ (littleEndian 3 available.low ++ littleEndian 1 available.high) ++ y
        ++ holds.zipIdx.flatMap (fun e => littleEndian 3 e.1.amount ++ z e.2) := by
  let p : Payload := .folio state balance limit reserved available persons near limited holds
  refine ⟨freeBytes p 0, freeBytes p 5, fun i => freeBytes p (6 + 2 * i + 1), ?_⟩
  have bound : ((holds.flatMap (fun h => [ReplyPart.money h.amount, .others])).map partBound).sum = 163 * holds.length := by
    induction holds with
    | nil => rfl
    | cons h holds ih =>
      rw [List.flatMap_cons, List.map_append, List.sum_append, ih (by rw [List.length_cons] at few; omega), List.length_cons]
      simp only [List.map_cons, List.map_nil, List.sum_cons, List.sum_nil, partBound]
      omega
  rw [payloadBytes_of_fits (by rw [Payload.parts, List.map_append, List.sum_append, bound]; simp [partBound]; omega), ← partsBytes_holds holds 0 6]
  simp [Payload.parts, p]

theorem folioSplit_laid (state : FolioState) (balance : Split) :
    ∃ x, Payload.bytes (.folioSplit state balance) = x ++ (littleEndian 3 balance.low ++ littleEndian 1 balance.high) := by
  refine ⟨freeBytes (.folioSplit state balance) 0, ?_⟩
  rw [payloadBytes_of_fits (by simp [Payload.parts, partBound])]
  simp [Payload.parts]

theorem person_laid (q : Person) (effective : Int) : ∃ x y z, Payload.bytes (.person q effective) =
    x ++ littleEndian 3 q.spend.allowance ++ littleEndian 3 q.spend.spentToday ++ y ++ littleEndian 3 effective ++ z := by
  let p : Payload := .person q effective
  refine ⟨freeBytes p 0, freeBytes p 3, freeBytes p 5, ?_⟩
  rw [payloadBytes_of_fits (by simp [Payload.parts, partBound])]
  simp [Payload.parts, p]

theorem till_laid (t : TillReading) : ∃ x y, Payload.bytes (.till t) =
    x ++ t.lastDecision.elim [] (fun d => littleEndian 3 d.body.amount1 ++ littleEndian 3 d.body.amount2 ++ littleEndian 3 d.body.amount3 ++ y)
      ++ t.lastApproved.elim [] (fun a => littleEndian 3 a.total) := by
  refine ⟨freeBytes (.till t) 0, freeBytes (.till t) 4, ?_⟩
  have fits : (((Payload.till t).parts).map partBound).sum ≤ 1021 := by
    cases d : t.lastDecision <;> cases a : t.lastApproved <;> simp [Payload.parts, Decision.parts, partBound, d, a]
  rw [payloadBytes_of_fits fits]
  cases d : t.lastDecision <;> cases a : t.lastApproved <;> simp [Payload.parts, Decision.parts, d, a]

theorem records_laid (rs : List Record) (fin : Bool) (few : rs.length ≤ 8) :
    ∃ x y, Payload.bytes (.records rs fin) = x ++ rs.flatMap Record.bytes ++ y := by
  let p : Payload := .records rs fin
  refine ⟨freeBytes p 0, freeBytes p (1 + rs.length), ?_⟩
  have bound : ((rs.map ReplyPart.record).map partBound).sum = 32 * rs.length := by
    rw [List.map_map, show partBound ∘ ReplyPart.record = fun _ => 32 from rfl, List.map_const', List.sum_replicate, smul_eq_mul, Nat.mul_comm]
  rw [payloadBytes_of_fits (by rw [Payload.parts, List.map_cons, List.sum_cons, List.map_append, List.sum_append, bound]; simp [partBound]; omega)]
  simp [Payload.parts, p, partsBytes_append, partsBytes_records]

end

/-- Settles O7: every frame is an envelope of its fields, and no part of a reply is beyond the frame. -/
theorem transmittedFramesPassTheEnvelope : Obligations.TransmittedFramesPassTheEnvelope := by
  refine ⟨fun kind tag fields fits => (envelopeOk_envelope kind tag fields fits).1, frameBytes_pass, replyFrameBytes, ?_⟩
  intro le bit
  refine ⟨fun a => ⟨?_, fun m => ?_, fun serial d => ?_⟩, rfl, verdictsBytes_eq, countsBytes_eq, tillAnswerBytes_eq, by decide, by decide, by decide,
    by decide, by decide, fun r => ⟨length_recordBytes r, recordBytes_eq r⟩, by decide, by decide, dayTotal_laid, credit_laid, folio_laid,
    folioSplit_laid, person_laid, till_laid, records_laid⟩
  · rw [Frame.bytes, leBytes_eq]; rfl
  · rw [Frame.bytes, leBytes_eq, leBytes_eq]; rfl
  · rw [Frame.bytes, leBytes_eq, leBytes_eq, leBytes_eq]; rfl

end Sys2Proof.Machine
end
